-- ==== Sys2Proof/Word.lean ====
section
/-! DEFINITION. The words of the part and the type of the sparse tables that hold its memories and register file. -/

namespace Sys2Proof

/-- A 32-bit word: every register, every Goruz message word and every word of a data structure (R4, R5). -/
abbrev Word := BitVec 32
/-- An octet. -/
abbrev Byte := BitVec 8
/-- A digest or a 256-bit public value of the security chapters. -/
abbrev Hash := BitVec 256
/-- A 64-bit value: keep time in ns, an extended address, a serial number. -/
abbrev Long := BitVec 64

/-- A sparse table: entries by key, keys strictly rising. -/
abbrev Tab (α : Type) := List (Nat × α)

end Sys2Proof
end

