-- ==== Sys2Proof/Syntax.lean ====
section
/-! DEFINITION. The commands of the block: one constructor per row of the table of operations and events,
with the operands that the row's step takes from outside the part. -/

namespace Sys2Proof

/-- What the checks of a stored word found when it left an FTQ (R112). -/
inductive Ecc where
  | ok | corrected | uncorrectable
  deriving DecidableEq, Repr

/-- The two rails with a warning threshold (R53). -/
inductive CoreRail where
  | core | v18
  deriving DecidableEq, Repr

/-- The two rails of the LPDDR4X interface (R53). -/
inductive DdrRail where
  | vddq | vdd2
  deriving DecidableEq, Repr

/-- The PLLs of the table "PLLs" (R61). -/
inductive Pll where
  | core | air | eth | ddr | pcie
  deriving DecidableEq, Repr

/-- The steps of a wake (R64). -/
inductive WakeStep where
  | regulator | pll | third | isolation
  deriving DecidableEq, Repr

/-- The instructions of the JTAG test access port (R42). -/
inductive Jtag where
  | bypass | idcode | samplePreload | extest | clamp | highz
  | priv (n : Nat)
  deriving DecidableEq, Repr

/-- What the start sequence finds outside the part and in its cells (R84). -/
structure StartEnv where
  /-- TEST_EN is high at the release of RESET_N (R41). -/
  testEn : Bool := false
  /-- The two reads of the fuse word agree (R47). -/
  fuseAgree : Bool := true
  /-- XO38_IN shows edges, and its first window is within 5 % (R58). -/
  refGood : Bool := true
  /-- A tamper alarm at the tamper step: its source (R409). -/
  alarm : Option (Fin 5) := none
  /-- KEEP_MRAM wakes (R576). -/
  mramWakes : Bool := true
  /-- The PUF read is correctable with the helper data (R87). -/
  pufOk : Bool := true
  /-- The active bundle verifies, and so does the staging area that a copy resumes from (R535). -/
  bundleOk : Bool := true
  stagingOk : Bool := true
  /-- Locations of the logbook whose CRC fails (R525). -/
  badLocs : List Nat := []
  /-- PCIE_PERST_N is high. -/
  perstHigh : Bool := true
  /-- Domains whose wake fails in every retry (R68). -/
  dead : List Nat := []
  deriving DecidableEq, Repr

/-- The physical outcomes a Goruz command meets while it runs: what the part finds, not what the host sends
(DESIGN CHOICE, log 6). -/
structure Env where
  /-- Domains that give no answer to a quiesce request (R73). -/
  quiet : List Nat := []
  /-- Domains whose wake fails in every retry (R68). -/
  dead : List Nat := []
  /-- What an MDIO management device answers; none where it does not (R471). -/
  mdio : Option Nat := none
  /-- Stages found failed by a pattern test, in the command and in the response FTQ (R113). -/
  badStages : Nat × Nat := (0, 0)
  /-- An insertion into the route hash or the prefix store finds no path (R362). -/
  noPath : Bool := false
  /-- A tamper alarm of a source comes before the commit of the operation (R397, R533). -/
  alarm : Option (Fin 5) := none
  /-- What a start sequence that the command resumes finds (R102, R414, R576). -/
  start : StartEnv := {}
  deriving DecidableEq, Repr

/-- A Goruz command: its lane, the TAG of its word 0, and the LEN words that follow it (R122). -/
structure Goruz where
  lane : Fin 4
  tag : Byte
  words : List Word
  env : Env := {}
  deriving DecidableEq, Repr

/-- What an error event found (R510, R522). -/
inductive ErrKind where
  /-- A single-bit error, corrected. -/
  | corrected
  /-- An error that is not correctable. -/
  | uncorrectable
  /-- Any other failed check: a stuck context, a known-answer test, a lost lock, an item held too long. -/
  | other
  deriving DecidableEq, Repr

/-- A transmission that reaches its preparation point (R151): what is sent, and where the sequencer took it from. -/
structure TxReq where
  /-- 0 data, 1 acknowledgement, 2 beacon, 3 immediate, 4 test tone, 5 wake-up sequence. -/
  kind : Fin 6
  emitter : Fin 8
  handle : Nat := 0
  cls : Fin 4 := 0
  deriving DecidableEq, Repr

/-- An address of IEEE 802.15.4. -/
inductive Addr where
  | absent
  | short (a : Nat)
  | ext (a : Nat)
  deriving DecidableEq, Repr

/-- An IPv6 datagram: the fields that forwarding and compression read (R366, R375). -/
structure Pkt where
  src : Nat
  dst : Nat
  dscp : Nat := 0
  ecn : Nat := 0
  flow : Nat := 0
  hop : Nat := 64
  /-- Octets of the uncompressed datagram, header included. -/
  len : Nat
  nextHeader : Nat := 59
  /-- Source and destination port of a UDP header that follows. -/
  udp : Option (Nat × Nat) := none
  deriving DecidableEq, Repr

/-- What the payload of a received frame holds, as the 6LoWPAN engine finds it (R375, R377). -/
inductive Pay where
  | empty
  /-- A whole datagram, decompressed. -/
  | packet (p : Pkt)
  /-- A fragment: tag, datagram size, offset and length in octets of the uncompressed datagram, and the datagram that its
  reassembly completes to. -/
  | frag (tag size offset len : Nat) (p : Pkt)
  /-- An unknown context, a reserved encoding or a length that disagrees. -/
  | bad
  /-- Another dispatch or an extension header under NHC: work for the flow cores. -/
  | exception
  deriving DecidableEq, Repr

/-- The auxiliary security header of a received frame (R245, R246). -/
structure Aux where
  level : Nat
  /-- Key identifier mode, key source and key index. -/
  kim : Nat
  source : Nat := 0
  index : Nat := 0
  ctr : Nat
  /-- Frame Counter Suppression or ASN in Nonce set, or a reserved value in a field. -/
  bad : Bool := false
  deriving DecidableEq, Repr

/-- A GT IE (R220): sub-types 0x02 and 0x03; the part never acts on 0x01. -/
inductive GtIe where
  /-- Option, measured map, SNR per group in 0.5 dB; `none` means no measurement. -/
  | report (option : Nat) (map : Nat) (snr : List (Option Int))
  /-- map_unknown, opt1, opt2; rx_map, rx_prev, tx_map as identifier and check. -/
  | status (unknown opt1 opt2 : Bool) (rx prev tx : Nat × Nat)
  deriving DecidableEq, Repr

/-- What the header and payload of a received frame spell (R237 to R247, R288, R297). -/
structure Frame where
  /-- 0 beacon, 1 data, 2 acknowledgement, 3 MAC command; other values as in the frame type field. -/
  ftype : Nat
  version : Nat
  secured : Bool := false
  ackReq : Bool := false
  pending : Bool := false
  seq : Option Nat := none
  /-- Destination PAN, present or implied, and address; source PAN and address. -/
  dstPan : Nat
  dst : Addr
  srcPan : Nat := 0
  src : Addr := .absent
  aux : Option Aux := none
  gt : List GtIe := []
  /-- Time Correction IE: correction in µs, and the NACK bit. -/
  tc : Option (Int × Bool) := none
  /-- CSL Phase and Period IE, converted to keep time: phase and period in ms (R288). -/
  csl : Option (Nat × Nat) := none
  /-- ASN of the TSCH Synchronization IE of an enhanced beacon. -/
  asn : Option Nat := none
  /-- It carries an IE that the fast path does not parse (R462). -/
  ie : Bool := false
  /-- What the payload holds. -/
  pay : Pay := .empty
  deriving DecidableEq, Repr

/-- The grade header of a GT-OFDM frame (R212, R213). -/
structure Grade where
  /-- hcs verifies, version is 0 and the reserved bits are 0. -/
  ok : Bool
  rate : Nat
  mapId : Nat
  mapCheck : Nat
  len : Nat
  deriving DecidableEq, Repr

/-- A PHR as decoded (R188, R208, R211). -/
structure Phr where
  /-- The check sequence verifies and the reserved and mode fields are as required. -/
  ok : Bool
  /-- The mode code of the frame. -/
  mode : Nat
  len : Nat
  grade : Option Grade := none
  deriving DecidableEq, Repr

/-- What the MHR in the buffer of an immediate host transmission holds (R460). -/
structure ImmHdr where
  secured : Bool
  ackReq : Bool
  seq : Option Nat := none
  dstPan : Nat := 0
  dst : Addr := .absent
  deriving DecidableEq, Repr

/-- What an Ethernet frame carries (R468). -/
inductive EthPay where
  | ipv6 (p : Pkt)
  | ptp
  | yowiob
  | other
  deriving DecidableEq, Repr

/-- A received Ethernet frame (R468, R470): octets of the whole frame, addresses with octet 0 lowest, VLAN identifier, and the
sequence number of a redundancy tag or trailer. -/
structure EthFrame where
  len : Nat
  fcsOk : Bool := true
  dst : Nat
  src : Nat
  vid : Option Nat := none
  red : Option Nat := none
  pay : EthPay
  deriving DecidableEq, Repr

/-- The header of a Yowiob frame as received (R480, R481): version, cluster, the sender's serial number, its torch claim, the
sequence; secured, and whether then its tag verifies; an answer with MIRROR_ACK requested. -/
structure YowHdr where
  version : Nat := 1
  cluster : Nat
  sender : Nat
  claim : Nat := 0
  seq : Nat
  secured : Bool := false
  tagOk : Bool := true
  ackReq : Bool := false
  deriving DecidableEq, Repr

/-- The body of HELLO (R482, R483). -/
structure HelloBody where
  role : Nat := 0
  root : Nat
  priority : Nat
  acc : Nat := 0
  subtree : Nat := 1
  part : Nat
  unitId : Nat := 0
  claimPriority : Nat := 0
  keyUnitId : Nat := 0
  deriving DecidableEq, Repr

/-- The body of TIME (R487, R488): times in ns of keep time. -/
structure TimeBody where
  origin : Nat
  correction : Nat
  root : Nat
  epochTime : Nat := 0
  epochAsn : Nat := 0
  slotLen : Nat := 0
  span : Nat := 1
  deriving DecidableEq, Repr

/-- A mirror item (R495). A map is identifier, option, rate and the codes of its data tones; a cell is its two words; a
configuration record is parameter, resource and words. -/
inductive MItem where
  | record (handle : Nat) (ws : List Word)
  | maps (handle : Nat) (tx rx : Option (Nat × Nat × Nat × List Nat))
  | remove (handle : Nat)
  | cells (asn : Nat) (added deleted : List (Word × Word))
  | config (instant : Nat) (recs : List (Nat × Nat × List Word))
  | lease (entry boundary : Nat)
  deriving DecidableEq, Repr

/-- The body of MIRROR: its items; 0 no resync, 1 within a resync, 2 the last frame of one (R495, R497). -/
structure MirrorBody where
  items : List MItem
  resync : Fin 3 := 0
  deriving DecidableEq, Repr

/-- The body of MIRROR_ACK: the sequence acknowledged, the standby's mirror state, and the boundaries it holds (R495, R497). -/
structure MirrorAck where
  seq : Nat
  mirror : Fin 4
  leases : List (Nat × Nat) := []
  deriving DecidableEq, Repr

/-- The body of LANE (R504): response words, or command words; the receiver's credit; Goruz words. -/
structure LaneBody where
  resp : Bool
  credit : Nat
  ws : List Word
  deriving DecidableEq, Repr

/-- What a fill brings back on die (R323, R327, R378): the head of a flow, a reassembly, or the delivery of a ring. -/
inductive Fill where
  | flow (handle cls : Nat)
  | reasm (handle tag size : Nat)
  | ring (r : Nat)
  deriving DecidableEq, Repr

/-- A PTP message of the configured domain (R424), with the fields that the part reads; times in ns. -/
inductive Ptp where
  /-- Announce: the best master clock algorithm selects its grandmaster, or not. -/
  | announce (gm : Nat) (best : Bool)
  | sync (seq : Nat) (twoStep : Bool) (origin corr : Int)
  | followUp (seq : Nat) (origin corr : Int)
  /-- Delay_Resp to the Delay_Req that the part sent at keep time t3. -/
  | delayResp (t3 t4 corr : Int)
  | pdelayReq
  /-- The answer to the Pdelay_Req that the part sent at t1 and received at t4. -/
  | pdelayResp (t1 t2 t3 t4 corr : Int)
  deriving DecidableEq, Repr

/-- The commands of the block, one constructor per row of the table of operations and events. -/
inductive Instr where
  /-- RESET_N_FALL (R36): RESET_N falls or a reset threshold is crossed; RF drivers turn off and FEM/tuner lines go high-impedance within 1 µs and the part resets. -/
  | resetNFall (lowNs : Nat)
  /-- START_SEQUENCE (R84): After RESET_N release or the end of a reset cause, the part runs the start sequence of fuse, clock, tamper, root, firmware, image, layer and domain steps, then opens the gate. -/
  | startSequence (e : StartEnv)
  /-- WATCHDOG_EXPIRY (R82): The control-processor watchdog is not serviced within its period, causing a part reset with cause WATCHDOG. -/
  | watchdogExpiry (ms : Nat)
  /-- SUPPLY_WARNING (R54): VDD_CORE or VDD_1V8 falls below its warning threshold; tx_hold is set, a logbook flush starts and wake steps are deferred. -/
  | supplyWarning (r : CoreRail)
  /-- SUPPLY_RECOVERED (R54): The rail rises back above the warning threshold plus hysteresis; KEEP_SUPPLY_RECOVERED is raised with minimum and duration. -/
  | supplyRecovered (r : CoreRail) (minMv : Nat)
  /-- TX_HOLD_END (R54): 100 µs after the end of the last dip, tx_hold and the wake deferral end. -/
  | txHoldEnd
  /-- SUPPLY_RESET_THRESHOLD (R53): VDD_CORE or VDD_1V8 stays below its reset threshold for the filter time, causing a part reset with cause SUPPLY. -/
  | supplyResetThreshold (r : CoreRail)
  /-- VDD_AON_POWER_ON_RESET (R53): VDD_AON crosses its reset threshold, resetting the wick and clearing its records. -/
  | vddAonPowerOnReset
  /-- BANK_ISOLATED (R37): A bank supply falls below its reset threshold; its outputs go high-impedance and its inputs read 0; KEEP_BANK_ISOLATED is raised. -/
  | bankIsolated
  /-- BANK_RESTORED (R53): An isolated bank supply returns above its threshold and KEEP_BANK_ISOLATED is raised again. -/
  | bankRestored
  /-- DDR_RAIL_LOSS (R53): VDDQ or VDD2 falls below its reset threshold; NET_DDR is reset under R12 and stays off. -/
  | ddrRailLoss (r : DdrRail)
  /-- DDR_RAIL_RECOVERY (R53): VDDQ and VDD2 are both back above their thresholds; NET_DDR is woken with source SUPPLY and trained again. -/
  | ddrRailRecovery (r : DdrRail) (wakes : Bool)
  /-- WICK_BROWNOUT (R56): A draw above 200 µA for more than 5 µs in low-power mode switches the wick to normal mode and wakes KEEP_CPU. -/
  | wickBrownout
  /-- REFERENCE_LOST (R58): The reference monitor declares XO38_IN lost; the gate closes, emitters stop and domains go to retention on the RC clock. -/
  | referenceLost
  /-- REFERENCE_RESTORED (R59): After 10 consecutive good 1 ms windows, ref_ok is set and KEEP_REF_RESTORED is raised. -/
  | referenceRestored
  /-- XTAL32_FAIL (R60): The 32.768 kHz crystal shows no edge or deviates; the wick runs from its RC and KEEP_XTAL32_FAIL is raised. -/
  | xtal32Fail
  /-- DOMAIN_WAKE (R64): A domain wakes through regulator, PLL, restore or reload and isolation-release steps, with its wake source recorded. -/
  | domainWake (d : Fin 26) (src : Fin 23)
  /-- WAKE_STEP_TIMEOUT (R68): A wake step exceeds four times its delay; the main supply is removed and KEEP_DOMAIN_RETRY is raised, or the domain becomes FAILED after two retries. -/
  | wakeStepTimeout (d : Fin 26) (st : WakeStep) (src : Fin 23)
  /-- WAKE_RETRY (R68): 1 ms after a wake timeout, Lamplighter starts the domain's wake again from the regulator step. -/
  | wakeRetry (d : Fin 26)
  /-- PLL_LOCK_TIMEOUT (R70): A PLL fails to lock; every domain waiting on it follows the same retries and becomes FAILED together. -/
  | pllLockTimeout (p : Pll) (src : Fin 23)
  /-- DOMAIN_STOP (R73): Lamplighter sends a quiesce request, the domain accepts or refuses, and on acceptance it is isolated, saved and powered down. -/
  | domainStop (d : Fin 26)
  /-- QUIESCE_NO_ANSWER (R73): A domain gives no answer within 10 µs, which counts as refusal NO_ANSWER. -/
  | quiesceNoAnswer (d : Fin 26)
  /-- IDLE_HOLD_EXPIRY (R76): A sleep-set member woken per event has been idle for idle_hold and returns to its sleep state. -/
  | idleHoldExpiry (d : Fin 26)
  /-- PWR_STATUS (R80): Returns domain state masks, supply and clock bits and the active sleep set. -/
  | pwrStatus (g : Goruz)
  /-- PWR_SLEEP_SET_DEFINE (R71): Stages a sleep set definition, refused if it breaks the dependency and state rules. -/
  | pwrSleepSetDefine (g : Goruz)
  /-- PWR_SLEEP_ENTER (R72): Stops the members of a committed sleep set in reverse wake order, with rollback or partial stop on refusal. -/
  | pwrSleepEnter (g : Goruz)
  /-- PWR_SLEEP_EXIT (R76): Wakes every member of the active sleep set and deactivates it. -/
  | pwrSleepExit (g : Goruz)
  /-- PWR_WAKE (R80): Wakes the named domains now with source COMMAND. -/
  | pwrWake (g : Goruz)
  /-- PWR_WAKE_SOURCE (R77): Returns a domain's last wake-source record. -/
  | pwrWakeSource (g : Goruz)
  /-- PWR_DOMAIN_RETRY (R80): Wakes a FAILED domain again with two fresh retries and wakes its blocked dependants. -/
  | pwrDomainRetry (g : Goruz)
  /-- PWR_REF_RESUME (R81): Ends a reference loss: KEEP_CPU returns to PLL_CORE and the domains put in retention wake with source REF_RESTORED. -/
  | pwrRefResume (g : Goruz)
  /-- CFG_COMMIT (R105): Checks the staged copy and applies all staged changes together at the commit instant. -/
  | cfgCommit (g : Goruz)
  /-- COMMIT_INSTANT (R105): At the first slot boundary at least 1 ms after a passing check, the staged changes take effect. -/
  | commitInstant
  /-- CFG_DISCARD (R104): Discards the staged changes, or with force another lane's staging, and ends ownership. -/
  | cfgDiscard (g : Goruz)
  /-- CFG_STATUS (R107): Returns KEEP_START, KEEP_CFG and the slot sequences. -/
  | cfgStatus (g : Goruz)
  /-- CFG_IMAGE_SAVE (R106): Writes the committed configuration into the slot not selected with the next sequence, marker last, and selects it. -/
  | cfgImageSave (g : Goruz)
  /-- CFG_IMAGE_WRITE (R107): Writes image words at an offset in the slot not selected. -/
  | cfgImageWrite (g : Goruz)
  /-- CFG_IMAGE_FINISH (R107): Checks the written slot, writes its marker on success, selects it and resumes a held start. -/
  | cfgImageFinish (g : Goruz)
  /-- SYS_GATE_STATUS (R107): Returns the output gate lines and reasons. -/
  | sysGateStatus (g : Goruz)
  /-- SYS_GATE_OPEN (R99): Clears HOST_HOLD and a returned DOMAIN_FAILED, or completes with GZ_OUTPUTS_HELD while another reason remains. -/
  | sysGateOpen (g : Goruz)
  /-- SYS_GATE_CLOSE (R99): Sets HOST_HOLD on exactly the named lines, closing added lines and opening removed ones. -/
  | sysGateClose (g : Goruz)
  /-- SYS_INFO (R49): Returns the capability registers, firmware and bundle versions, serial number and identity hash. -/
  | sysInfo (g : Goruz)
  /-- SYS_RESET (R137): Writes its response and performs a part reset with cause COMMAND 1 ms later. -/
  | sysReset (g : Goruz)
  /-- SYS_ECHO (R136): Returns its request words unchanged. -/
  | sysEcho (g : Goruz)
  /-- SYS_LANE_STATUS (R136): Returns a lane's status, control, limits and counter values without clearing. -/
  | sysLaneStatus (g : Goruz)
  /-- SYS_LANE_CONFIG (R138): Stages a lane's stall limit, interrupt enable, vector and assembly timeout. -/
  | sysLaneConfig (g : Goruz)
  /-- SYS_EVENT_FETCH (R139): Empties event records from the event queue, oldest first, when PCIe is unused or the part is held. -/
  | sysEventFetch (g : Goruz)
  /-- DIAG_LANE_TEST (R140): Runs the FTQ pattern test on both FTQs of another lane. -/
  | diagLaneTest (g : Goruz)
  /-- LANE_COMMAND_PUSH (R116): A write to a command FTQ pushes a word, back-pressured up to stall_us, then dropped with a lane fault. -/
  | laneCommandPush (n : Fin 4) (ws : List (Word × Ecc))
  /-- LANE_RESPONSE_POP (R115): A read of a response FTQ takes a word, stalling up to stall_us and returning 0xFFFF_FFFE when empty. -/
  | laneResponsePop (n : Fin 4) (es : List Ecc)
  /-- LANE_MARK (R119): Sets the mark at the current read position so that words read are held. -/
  | laneMark (n : Fin 4)
  /-- LANE_REWIND (R119): Returns the read position to the mark, making held words unread again. -/
  | laneRewind (n : Fin 4)
  /-- LANE_RELEASE (R119): Frees the held words and clears the mark. -/
  | laneRelease (n : Fin 4)
  /-- LANE_RESYNC (R121): Ends resync_wait and writes the GZ_LANE_ERROR response after pending responses. -/
  | laneResync (n : Fin 4)
  /-- COMMAND_ASSEMBLY_TIMEOUT (R123): Command words stop arriving for assembly_ms; the words are discarded and GZ_BAD_LENGTH is returned. -/
  | commandAssemblyTimeout (n : Fin 4)
  /-- COMMAND_TAKEN (R128): The control processor takes a complete command from the lanes round-robin and checks it in order. -/
  | commandTaken (env : Env)
  /-- FTQ_PATTERN_TEST (R113): After an ECC event, once the FTQ is empty and idle, a walking-pattern test replaces failed stages with spares or fails the lane. -/
  | ftqPatternTest (n : Fin 4) (resp : Bool) (bad : Nat)
  /-- SPI_CS_FALL (R466): SPI_CS_N falls, starting a transaction and waking KEEP_CPU if it is in retention. -/
  | spiCsFall
  /-- WRITE_CMD (R132): An SPI transaction pushes its words into the LANE2 command FTQ. -/
  | writeCmd (count : Byte) (ws : List (Word × Ecc))
  /-- READ_RESP (R132): An SPI transaction takes words from the LANE2 response FTQ. -/
  | readResp (count : Byte) (es : List Ecc)
  /-- READ_STAT (R132): An SPI transaction returns KEEP_GZ_STAT[2] without stalling. -/
  | readStat (count : Byte)
  /-- WRITE_CTRL (R132): An SPI transaction applies a word as a write of KEEP_GZ_CTRL[2]. -/
  | writeCtrl (count : Byte) (w : Word)
  /-- SPI_BAD_TYPE (R132): An SPI transaction of unknown type or bad count is ignored and spi_bad_type is set. -/
  | spiBadType (type : Byte) (count : Byte)
  /-- REGISTER_WRITE (R7): A write to a register without behaviour of its own sets RW fields or clears W1C bits. -/
  | registerWrite (addr : Nat) (w : Word) (be : Fin 16)
  /-- RC_REGISTER_READ (R7): A read of an RC field returns its value and clears it. -/
  | rcRegisterRead (addr : Nat)
  /-- LATCHED_PAIR_READ (R548): A read of the first register of a latched pair latches its other words. -/
  | latchedPairRead (addr : Nat)
  /-- RF_PORT_CONFIG (R170): Stages a port's aerial mode, LO, PA limits, enable and tuner settings. -/
  | rfPortConfig (g : Goruz)
  /-- RF_PORT_STATUS (R170): Returns a port's status, VSWR, LO, cap and emitter masks. -/
  | rfPortStatus (g : Goruz)
  /-- RF_RAMP_SET (R155): Stages a port's ramp table and ramp time. -/
  | rfRampSet (g : Goruz)
  /-- RF_FEM_SET (R156): Stages a port's FEM truth table. -/
  | rfFemSet (g : Goruz)
  /-- RF_GAIN_SET (R144): Stages a port's gain mode, fixed index and bypass steps. -/
  | rfGainSet (g : Goruz)
  /-- RF_TRIM_SET (R98): Stages a front-end user trim. -/
  | rfTrimSet (g : Goruz)
  /-- RF_TRIM_GET (R98): Returns factory, trim and effective values of a front-end quantity. -/
  | rfTrimGet (g : Goruz)
  /-- RF_SYNTH_CAL (R171): Requests a synthesiser calibration, in a gap or forced, and responds when it ends. -/
  | rfSynthCal (g : Goruz)
  /-- RF_TUNER_SEARCH (R171): Requests a tuner search and responds with VSWR before and after. -/
  | rfTunerSearch (g : Goruz)
  /-- RF_TEST_TONE (R171): Starts or stops an unmodulated carrier on a bound emitter for a duration. -/
  | rfTestTone (g : Goruz)
  /-- TEST_TONE_END (R171): The test tone's duration ends and the emitter ramps down and is released. -/
  | testToneEnd (e : Fin 8)
  /-- GAIN_STEP_DOWN (R145): More than 4 ADC samples within 1 µs exceed −3 dBFS and the port steps its gain down. -/
  | gainStepDown (p : Fin 3) (above : Nat)
  /-- GAIN_STEP_UP (R145): The ADC peak has stayed below −12 dBFS for 10 ms and the port steps its gain up. -/
  | gainStepUp (p : Fin 3) (lowNs : Nat)
  /-- PORT_TEMP_READING (R148): Every 100 ms the port temperature is read and cal_pending is set on drift of temp_delta or more. -/
  | portTempReading (p : Fin 3) (temp : Int)
  /-- CALIBRATION_START (R149): A pending calibration starts in a gap of at least 2 ms, or a forced or immediate calibration starts, blanking the port. -/
  | calibrationStart (p : Fin 3)
  /-- CALIBRATION_FORCE (R149): No gap has begun within 5 s of a pending calibration; it is forced and announced to Slalom. -/
  | calibrationForce (p : Fin 3)
  /-- SYNTH_LOCK (R150): The synthesiser reports lock after calibration or settling; blanking ends and held transmissions proceed. -/
  | synthLock (p : Fin 3) (temp : Int)
  /-- SYNTH_LOCK_TIMEOUT (R152): A synthesiser has not locked by its lock due time; it is retried once, then self-tested. -/
  | synthLockTimeout (p : Fin 3)
  /-- SYNTH_UNLOCK (R152): A running synthesiser loses lock; emitters ramp down, AIR_SYNTH_UNLOCK is raised and it calibrates at once. -/
  | synthUnlock (p : Fin 3)
  /-- VSWR_MEASUREMENT (R164): VSWR measured over a frame raises warnings, sets or clears the 6 dB back-off and a pending search. -/
  | vswrMeasurement (e : Fin 8) (vswr : Nat)
  /-- TUNER_SEARCH_RUN (R165): A pending search runs in a gap, probing match codes and applying the best. -/
  | tunerSearchRun (p : Fin 3) (reads : List Nat)
  /-- TX_PREPARATION_POINT (R151): At a transmission's preparation point, synthesiser, power, hold, gate and residency are judged and the attempt proceeds or is not made. -/
  | txPreparationPoint (r : TxReq)
  /-- FEM_SWITCH_TO_TX (R157): 50 µs after the preparation point the FEM lines go to TX and blanking begins. -/
  | femSwitchToTx (e : Fin 8)
  /-- RAMP_UP_START (R157): pa_lead_us after the FEM switch, the PA ramp-up starts. -/
  | rampUpStart (e : Fin 8)
  /-- FIRST_CHIP (R157): The ramp-up ends and the frame's first chip goes on the air. -/
  | firstChip (e : Fin 8)
  /-- LAST_CHIP (R157): The last chip is sent and the ramp-down starts. -/
  | lastChip (e : Fin 8)
  /-- DRIVER_SILENT (R157): The ramp-down ends and, after fem_settle_us, the FEM lines return to receive and blanking ends. -/
  | driverSilent (e : Fin 8)
  /-- ACK_WINDOW_EXPIRY (R260): An attempt's acknowledgement window closes without a match; a retry is consumed or the frame completes NO_ACK. -/
  | ackWindowExpiry
  /-- ACK_RECEIVED (R259): A record in the acknowledgement window matches the attempt and ends it as acknowledged or NACKed. -/
  | ackReceived (n : Fin 64) (ok0 ok1 : Bool)
  /-- PREAMBLE_DETECTION (R186): A context in SEARCH detects a preamble of a mode in its set, freezes AGC and enters SYNC. -/
  | preambleDetection (n : Fin 64) (slot : Fin 4) (own : Bool) (ago : Nat)
  /-- CAPTURE_TEST (R191): The shadow compares its reference level with the primary's and captures a stronger frame or returns to SEARCH. -/
  | captureTest (n : Fin 64) (level : Int)
  /-- SFD_NOT_FOUND (R187): No SFD is found within the mode's preamble and SFD duration; the context returns to SEARCH counting false_detect. -/
  | sfdNotFound (n : Fin 64) (c : Fin 2)
  /-- SFD_TIMESTAMP (R230): The reference point is reached and the frame's timestamp is taken and corrected. -/
  | sfdTimestamp (n : Fin 64) (c : Fin 2) (coded : Bool) (level : Int) (afc : Int)
  /-- PHR_CHECK (R188): At the end of the PHR or grade header the frame passes or fails its check and reserves its FTQ record. -/
  | phrCheck (n : Fin 64) (c : Fin 2) (h : Phr)
  /-- FRAME_END (R197): The frame's last sample is received and the record trailer is written with its result. -/
  | frameEnd (n : Fin 64) (c : Fin 2) (fcsOk : Bool)
  /-- SIC_START (R195): A captured pair qualifies; the context enters RECON, reconstructs the stronger frame and re-decodes the weaker one. -/
  | sicStart (n : Fin 64)
  /-- SIC_CATCH_UP (R195): The re-decode catches up with live samples and the RECON context becomes primary. -/
  | sicCatchUp (n : Fin 64)
  /-- SIC_DEADLINE (R194): The current time passes O + 7,900 µs and the weaker frame's record closes without cancellation. -/
  | sicDeadline (n : Fin 64)
  /-- CHECKPOINT_SAVE (R192): A primary in PAYLOAD saves a checkpoint of its demodulator state each 100 µs. -/
  | checkpointSave (n : Fin 64)
  /-- BLANKING_START (R184): A listener becomes blanked; receptions in progress are abandoned and contexts go idle. -/
  | blankingStart (n : Fin 64)
  /-- BLANKING_END (R184): Blanking ends; contexts return to SEARCH with an empty store. -/
  | blankingEnd (n : Fin 64)
  /-- LISTENER_RETUNE (R181): At a slot boundary the carver retunes every listener whose assignment changed within 50 µs. -/
  | listenerRetune
  /-- RETUNE_LATEST_START (R182): A context still holding a frame at the latest start is abandoned and the retune begins. -/
  | retuneLatestStart (n : Fin 64)
  /-- CONTEXT_STUCK (R199): A context stays in SYNC, PAYLOAD or RECON beyond its longest frame plus 1 ms and raises an error event. -/
  | contextStuck (n : Fin 64) (c : Fin 2)
  /-- MHR_PARSE (R242): At t_mhr the sequencer checks frame type and destination, resolves the source and raises a class-A berth request. -/
  | mhrParse (n : Fin 64) (f : Frame)
  /-- RESIDENCY_LIMIT (R242): The berth is not resident at the limit; the record suffers a late fault and is parked unacknowledged. -/
  | residencyLimit (n : Fin 64)
  /-- PARKED_RECORD_RESUME (R242): The berth becomes resident; the sequencer rewinds to the record's mark and processes it again without acknowledgement. -/
  | parkedRecordResume (n : Fin 64)
  /-- LATE_EXPIRED (R242): A parked record's berth is not resident by t_end + max_age_ms and the record is discarded. -/
  | lateExpired (n : Fin 64)
  /-- RECORD_TRAILER (R237): At the trailer the record is discarded on failure or reprocessed from its mark when withheld is set. -/
  | recordTrailer (n : Fin 64) (lqi : Nat) (snr : List Int) (dev : List Nat)
  /-- MIC_VERIFIED (R247): The air cipher job completes; the replay and duplicate checks run and the frame is handed on. -/
  | micVerified (n : Fin 64) (ok0 ok1 : Bool)
  /-- ACK_PREPARATION_POINT (R253): At the acknowledgement's preparation point the sequencer judges whether it can be sent. -/
  | ackPreparationPoint (n : Fin 64)
  /-- CIPHER_JOB_RESUME (R322): The missing berth or key arrives and the parked job resumes at the next 16-byte boundary. -/
  | cipherJobResume (n : Fin 64)
  /-- SLOT_BOUNDARY (R268): Keep time reaches the next slot boundary and the ASN advances. -/
  | slotBoundary
  /-- LOOKAHEAD_ENTRY (R282): A slot enters the 64-slot look-ahead; berth requests and domain wakes are issued. -/
  | lookaheadEntry
  /-- CELL_OFFER (R284): At B − 300 µs used TX cells are offered to the scheduler with their remaining windows. -/
  | cellOffer
  /-- TX_ADMISSION (R276): At B − 150 µs TX cells are admitted port by port against emitters, ack listeners and blanking. -/
  | txAdmission
  /-- CHANNEL_ASSIGNMENT (R279): At B − 100 µs Slalom assigns pool listeners to channels by demand rank and places expectations. -/
  | channelAssignment
  /-- CONTACT_PLACEMENT (R290): Slalom places a sampled-neighbour contact at the first fitting nominal sample instant in the look-ahead. -/
  | contactPlacement
  /-- WAKEUP_SEQUENCE_START (R289): A contact's wake-up sequence begins on the CSL channel at t_nom − U_w. -/
  | wakeupSequenceStart (h : Nat)
  /-- RENDEZVOUS (R289): At t_nom + U_w the contact's data frame is sent. -/
  | rendezvous (h : Nat)
  /-- EB_MISSED (R297): A TIMEKEEPING cell passes with no beacon accepted from the time parent and the miss count rises. -/
  | ebMissed
  /-- SCHEDULE_REBASE (R299): After a keep time step Slalom re-bases its boundaries, passing over skipped slots. -/
  | scheduleRebase
  /-- SCH_TEMPLATE_SET (R269): Stages a slot template. -/
  | schTemplateSet (g : Goruz)
  /-- SCH_HOP_SET (R272): Stages or deletes a hopping sequence. -/
  | schHopSet (g : Goruz)
  /-- SCH_SLOTFRAME_SET (R271): Stages a slotframe's length, template, hopping sequence, pool and flags. -/
  | schSlotframeSet (g : Goruz)
  /-- SCH_SYNC_CONFIG (R297): Stages follower mode, auto rescan and time parent. -/
  | schSyncConfig (g : Goruz)
  /-- SCH_TIMING_CONFIG (R304): Stages drift, guard, CSL window and full-wake budget parameters. -/
  | schTimingConfig (g : Goruz)
  /-- SCH_LANTERN_CONFIG (R300): Stages the lantern's mode, security, power, join metric and extra IEs. -/
  | schLanternConfig (g : Goruz)
  /-- SCH_CELL_ADD (R305): Installs cells at an effective ASN, all or none. -/
  | schCellAdd (g : Goruz)
  /-- SCH_CELL_DELETE (R305): Deletes cells at an effective ASN, all or none. -/
  | schCellDelete (g : Goruz)
  /-- SCH_CELL_QUERY (R304): Returns the installed cells at one slot offset of a slotframe. -/
  | schCellQuery (g : Goruz)
  /-- SCH_NBR_TIMING_SET (R305): Sets a neighbour's mode and CSL timing at once as a synchronising event. -/
  | schNbrTimingSet (g : Goruz)
  /-- SCH_NBR_TIMING_GET (R304): Returns a neighbour's timing state, uncertainty and CSL timing. -/
  | schNbrTimingGet (g : Goruz)
  /-- SCH_ASN_SET (R305): Sets the ASN epoch when the part is not a follower and no schedule runs. -/
  | schAsnSet (g : Goruz)
  /-- SCH_RESCAN (R305): Moves a follower into RESCAN. -/
  | schRescan (g : Goruz)
  /-- SCH_STATUS (R304): Returns Slalom status and counters. -/
  | schStatus (g : Goruz)
  /-- PLAN_LISTENER_SET (R206): Stages a listener's binding, kind, pool, centre, width and mode set. -/
  | planListenerSet (g : Goruz)
  /-- PLAN_EMITTER_BIND (R205): Stages an emitter's binding to a port. -/
  | planEmitterBind (g : Goruz)
  /-- PLAN_CHANNELS_SET (R176): Stages or deletes a channel plan. -/
  | planChannelsSet (g : Goruz)
  /-- PLAN_STATUS (R205): Returns the committed per-port plan totals and the last check result. -/
  | planStatus (g : Goruz)
  /-- PLAN_CHECK (R206): Runs the piste plan checks on the staged copy without committing. -/
  | planCheck (g : Goruz)
  /-- PLAN_REACH (R206): Reports the committed channel classification of a pool against a channel plan. -/
  | planReach (g : Goruz)
  /-- LST_STATUS (R205): Returns a listener's registers without clearing. -/
  | lstStatus (g : Goruz)
  /-- PHY_GT_CONFIG (R234): Stages GT-OFDM margin, intervals, fallback, enable and OUI. -/
  | phyGtConfig (g : Goruz)
  /-- PHY_TS_TRIM_SET (R235): Stages a timestamp correction trim for a port and mode. -/
  | phyTsTrimSet (g : Goruz)
  /-- PHY_TS_CORR_GET (R234): Returns factory, trim and effective timestamp correction. -/
  | phyTsCorrGet (g : Goruz)
  /-- PHY_FSK_CONFIG (R234): Stages FSK preamble length, SFD set and FEC scheme. -/
  | phyFskConfig (g : Goruz)
  /-- GT_LINK_SET (R235): Sets a link's gt_allowed and optionally discards its maps. -/
  | gtLinkSet (g : Goruz)
  /-- GT_MAP_GET (R235): Returns a link's transmit or receive tone map. -/
  | gtMapGet (g : Goruz)
  /-- GT_STATUS (R234): Returns the tone mapper registers. -/
  | gtStatus (g : Goruz)
  /-- MAP_TABLE_ENTRY_FREE (R226): A receive map table entry unused for map_hold is freed. -/
  | mapTableEntryFree (id check : Nat)
  /-- MAC_CONFIG (R266): Stages PAN, addresses, acknowledgement timing, admission and age limits. -/
  | macConfig (g : Goruz)
  /-- MAC_STATUS (R266): Returns sequencer status and counters, optionally clearing them. -/
  | macStatus (g : Goruz)
  /-- MAC_FTQ_STATUS (R266): Returns a listener's FTQ status. -/
  | macFtqStatus (g : Goruz)
  /-- BERTH_FETCH_COMPLETE (R317): A berth fetch completes and waiters are notified in class order. -/
  | berthFetchComplete (h : Nat) (env : Env)
  /-- EVICTION_SWEEP (R319): The chairlift evicts berths by clock sweep to keep free_reserve berths free. -/
  | evictionSweep
  /-- WRITEBACK_COMPLETE (R319): A dirty berth's write-back completes and the berth is freed if unchanged. -/
  | writebackComplete (h : Nat)
  /-- PAGE_SPILL (R326): While free pages are below spill_low, downlink pages are spilled to DRAM. -/
  | pageSpill
  /-- PAGE_FILL_COMPLETE (R327): A spilled page is filled back on die and its waiting consumer resumes. -/
  | pageFillComplete (w : Fill) (poisoned : Bool)
  /-- DMA_SPILLED_PAGE (R323): A DMA engine meets a spilled page, records progress, parks the ring and requests a fill. -/
  | dmaSpilledPage (r : Fin 32) (prog : Nat)
  /-- PERSIST_INTERVAL_WRITE (R314): At the end of rx_persist_s a dirty persistent entry is written. -/
  | persistIntervalWrite (h : Nat)
  /-- RECORD_POISONED (R328): An uncorrectable error in a berth or backing record quarantines the neighbour. -/
  | recordPoisoned (h : Nat) (backing lasting : Bool)
  /-- DDR_RESET_REBUILD (R330): A NET_DDR reset loses backing records and spilled pages and completes affected frames with DOMAIN_FAILED. -/
  | ddrResetRebuild
  /-- NBR_ADD (R337): Creates a neighbour record with the given addresses and settings. -/
  | nbrAdd (g : Goruz)
  /-- NBR_REMOVE (R332): Removes a neighbour, completing its frames, deleting cells and clearing its entries. -/
  | nbrRemove (g : Goruz)
  /-- NBR_SET (R337): Changes selected fields of a neighbour record. -/
  | nbrSet (g : Goruz)
  /-- NBR_GET (R337): Returns berth words of a neighbour. -/
  | nbrGet (g : Goruz)
  /-- NBR_FIND (R336): Looks up a handle by extended or short address. -/
  | nbrFind (g : Goruz)
  /-- NBR_STATS (R337): Returns and optionally clears a neighbour's statistics. -/
  | nbrStats (g : Goruz)
  /-- NBR_RESTORE (R329): Rebuilds a quarantined record from its persistent entry and clears quarantine. -/
  | nbrRestore (g : Goruz)
  /-- NBR_PIN (R337): Pins or unpins a neighbour's berth. -/
  | nbrPin (g : Goruz)
  /-- STORE_CONFIG (R336): Stages free_reserve, rx_persist_s and spill_low. -/
  | storeConfig (g : Goruz)
  /-- STORE_STATUS (R336): Returns the store registers and counters. -/
  | storeStatus (g : Goruz)
  /-- CREDIT_REFILL (R346): Every 1 ms the credits of resident flows and police buckets rise by their profile rate. -/
  | creditRefill
  /-- URGENT_ENTRY (R347): At a round, a flow whose head has aged past its class threshold enters the urgent tier. -/
  | urgentEntry
  /-- SAMPLER_VISIT (R351): Every 2 µs the sampler records one active flow's depth and head age. -/
  | samplerVisit
  /-- RING_FILL_SAMPLE (R351): Every 1 ms the sampler records each enabled ring's fill. -/
  | ringFillSample
  /-- DISPATCH_ITEM_START (R353): A ready item starts processing on a flow core. -/
  | dispatchItemStart (core : Fin 8) (wait : Option (Fin 16))
  /-- TASK_EVENT_FLAG (R354): A fill or fetch sets a task's event flag and the task becomes runnable. -/
  | taskEventFlag (item : Nat) (flag : Fin 16)
  /-- FLOW_CORE_FAULT (R355): A flow core raises an error event; its item restarts elsewhere or fails. -/
  | flowCoreFault (core : Fin 8) (delivered : Bool)
  /-- TRF_CLASS_CONFIG (R359): Stages a class's urgency threshold, default weight and profile. -/
  | trfClassConfig (g : Goruz)
  /-- TRF_PROFILE_SET (R359): Stages a profile's rate and ceiling. -/
  | trfProfileSet (g : Goruz)
  /-- TRF_QUOTA_SET (R359): Stages a quota group's reserve and limit. -/
  | trfQuotaSet (g : Goruz)
  /-- TRF_POLICE_SET (R359): Stages a police bucket's profile and octet cost. -/
  | trfPoliceSet (g : Goruz)
  /-- TRF_SCHED_CONFIG (R359): Stages the urgent cap and sampler enable. -/
  | trfSchedConfig (g : Goruz)
  /-- TRF_FLOW_SET (R360): Sets a flow's weight or profile. -/
  | trfFlowSet (g : Goruz)
  /-- TRF_FLOW_GET (R360): Returns a flow entry. -/
  | trfFlowGet (g : Goruz)
  /-- TRF_HIST_GET (R359): Returns and optionally clears a sampler histogram. -/
  | trfHistGet (g : Goruz)
  /-- TRF_STATUS (R359): Returns scheduler registers and counters. -/
  | trfStatus (g : Goruz)
  /-- PACKET_DECISION (R366): A packet from the mesh, backhaul or a host ring is learned from and forwarded by the forwarding decisions. -/
  | packetDecision (noPath retry : Bool)
  /-- FRAGMENT_RECEIVED (R377): An uplink fragment is placed in its reassembly, which completes when covered. -/
  | fragmentReceived
  /-- REASSEMBLY_TIMEOUT (R377): reasm_timeout_s passes since a reassembly's first fragment and it is abandoned. -/
  | reassemblyTimeout (handle tag size : Nat)
  /-- REASSEMBLY_SPILL (R378): Pages of idle reassemblies are spilled at class C while pages are scarce. -/
  | reassemblySpill
  /-- AGER_VISIT (R370): The ager visits a learned entry, ages it and removes it at age_limit. -/
  | agerVisit (addr : Nat) (hit : Bool)
  /-- FWD_CONFIG (R383): Stages forwarding configuration. -/
  | fwdConfig (g : Goruz)
  /-- FWD_DSCP_MAP (R383): Stages the DSCP to class map. -/
  | fwdDscpMap (g : Goruz)
  /-- FWD_CONTEXT_SET (R375): Stages a 6LoWPAN context. -/
  | fwdContextSet (g : Goruz)
  /-- FWD_ROUTE_ADD (R384): Adds or replaces a static route record. -/
  | fwdRouteAdd (g : Goruz)
  /-- FWD_ROUTE_DELETE (R384): Deletes a route record. -/
  | fwdRouteDelete (g : Goruz)
  /-- FWD_ROUTE_GET (R383): Returns a route record's entry word and age. -/
  | fwdRouteGet (g : Goruz)
  /-- FWD_ROUTE_FLUSH (R383): Removes learned, per-handle learned or static routes. -/
  | fwdRouteFlush (g : Goruz)
  /-- FWD_PREFIX_ADD (R384): Adds or replaces a prefix. -/
  | fwdPrefixAdd (g : Goruz)
  /-- FWD_PREFIX_DELETE (R383): Deletes a prefix. -/
  | fwdPrefixDelete (g : Goruz)
  /-- FWD_PREFIX_GET (R383): Returns the entry word of an exact prefix. -/
  | fwdPrefixGet (g : Goruz)
  /-- FWD_LOOKUP (R384): Performs a route and prefix lookup without refreshing age. -/
  | fwdLookup (g : Goruz)
  /-- FWD_STATUS (R383): Returns forwarding table registers and counters. -/
  | fwdStatus (g : Goruz)
  /-- KEY_CONFIG (R419): Stages lease_log2 and unit_id. -/
  | keyConfig (g : Goruz)
  /-- KEY_INGRESS_WRITE (R420): Appends words to the key ingress buffer. -/
  | keyIngressWrite (g : Goruz)
  /-- KEY_INGRESS_DATA_WRITE (R392): A write of KEEP_KEY_INGRESS_DATA appends one word to the ingress buffer. -/
  | keyIngressDataWrite (w : Word)
  /-- KEY_INGRESS_CLEAR (R392): Clears the key ingress buffer. -/
  | keyIngressClear (g : Goruz)
  /-- KEY_PARCEL_SUBMIT (R393): Checks, applies and commits a key parcel from the ingress buffer. -/
  | keyParcelSubmit (g : Goruz)
  /-- KEY_STATUS (R419): Returns key state, parcel counter, vault count and last digest. -/
  | keyStatus (g : Goruz)
  /-- KEY_INFO (R420): Returns a vault entry's attributes, counter and lease boundary. -/
  | keyInfo (g : Goruz)
  /-- TAMPER_STATUS (R419): Returns tamper policy, status and counters. -/
  | tamperStatus (g : Goruz)
  /-- CIPHER_STATUS (R419): Returns cipher engine registers. -/
  | cipherStatus (g : Goruz)
  /-- KEY_CACHE_MISS (R391): A cipher job's key is not cached and is unwrapped from the vault. -/
  | keyCacheMiss (entry : Fin 8192)
  /-- LEASE_EXTENSION (R406): A counter reaches B − L/2 and the next lease boundary is written to MRAM. -/
  | leaseExtension (entry : Fin 8192)
  /-- KNOWN_ANSWER_TEST (R402): Every 10 s, or after an error, supply warning or tamper alarm, each engine runs a known-answer test. -/
  | knownAnswerTest (e : Fin 4) (fails : Fin 3)
  /-- TAMPER_ALARM (R410): A tamper source alarms and its LOG, HOLD or ERASE policy is applied. -/
  | tamperAlarm (src : Fin 5)
  /-- TIME_CONFIG (R450): Stages the time source, PTP options, policy, servo constant and jump. -/
  | timeConfig (g : Goruz)
  /-- TIME_STATUS (R449): Returns keep time, time state, rate, offset and master. -/
  | timeStatus (g : Goruz)
  /-- TIME_SET (R429): Steps keep time to a new value with source HOST or in UNSET. -/
  | timeSet (g : Goruz)
  /-- TIME_OFFSET (R423): Delivers a HOST source sync offset. -/
  | timeOffset (g : Goruz)
  /-- TIME_ACCEPT (R428): Steps keep time by the held offset in HELD and moves to LOCKED. -/
  | timeAccept (g : Goruz)
  /-- TIME_TSQ_FETCH (R432): Takes entries from the transmit timestamp queue. -/
  | timeTsqFetch (g : Goruz)
  /-- TIME_REG_READ (R450): Performs one register read in the timer range. -/
  | timeRegRead (g : Goruz)
  /-- TIME_REG_WRITE (R450): Performs one register write in the timer range. -/
  | timeRegWrite (g : Goruz)
  /-- AADC_TRIM_SET (R449): Stages an auxiliary ADC trim. -/
  | aadcTrimSet (g : Goruz)
  /-- AADC_TRIM_GET (R449): Returns an auxiliary ADC trim's values. -/
  | aadcTrimGet (g : Goruz)
  /-- TIME_SYNC_EVENT (R428): A sync of the source yields an offset that steps, servos, counts towards agreement or is held. -/
  | timeSyncEvent (offset : Int)
  /-- SOURCE_LOSS (R427): The time source is lost and keep time goes FREE. -/
  | sourceLoss
  /-- MASTER_CHANGE (R427): The source changes master, judged under guard or glide. -/
  | masterChange (gm : Nat)
  /-- PTP_MESSAGE (R424): A PTP message of the configured domain on ptp_port is taken, answered or used as a sync. -/
  | ptpMessage (m : Ptp)
  /-- TRIGGER_ARM (R433): A write of KEEP_TT_CFG with arm set arms a time trigger with its time and period. -/
  | triggerArm (k : Fin 16) (w : Word)
  /-- TRIGGER_DISARM (R433): A write of KEEP_TT_CFG with arm clear disarms a trigger. -/
  | triggerDisarm (k : Fin 16) (w : Word)
  /-- TRIGGER_FIRING (R434): Keep time reaches a trigger's time and its action is performed. -/
  | triggerFiring (k : Fin 16)
  /-- PPS_IN_EDGE (R435): An accepted PPS_IN rising edge latches its keep time. -/
  | ppsInEdge
  /-- AADC_CONVERSION (R436): An auxiliary ADC conversion completes and its result is written with its time. -/
  | aadcConversion (n : Fin 4) (raw : Nat)
  /-- TIMER_TICK (R437): A running element's counter advances or wraps at a tick. -/
  | timerTick (src : Fin 3)
  /-- TIMER_CAPTURE (R441): An accepted capture edge writes the count to CAP and queues an entry. -/
  | timerCapture (t : Fin 8) (rising : Bool)
  /-- TMR_CFG_WRITE (R441): A write of KEEP_TMR_CFG configures an element, or is ignored with cfg_reject. -/
  | tmrCfgWrite (n : Fin 64) (w : Word)
  /-- TMR_COUNT_WRITE (R438): A write of KEEP_TMR_COUNT sets the count while stopped, or is rejected while running. -/
  | tmrCountWrite (n : Fin 64) (w : Word)
  /-- TMR_RELOAD_WRITE (R438): A write of RELOAD is buffered to the next wrap, or applied at once with rl_unbuf. -/
  | tmrReloadWrite (n : Fin 64) (w : Word)
  /-- TMR_COMPARE_WRITE (R439): A compare write takes effect at once against the present count. -/
  | tmrCompareWrite (n : Fin 64) (c : Fin 2) (w : Word)
  /-- TMR_QUEUE_POP (R442): A read of KEEP_TMR_Q_POP takes the head capture entry and latches its words. -/
  | tmrQueuePop (k : Fin 8)
  /-- WIDE_COUNTER_ACCESS (R443): A read or write of a wide counter is served while stopped, or rejected while running. -/
  | wideCounterAccess (k : Fin 8) (hi : Bool) (w : Option Word)
  /-- TSQ_POP (R432): A read of LINK_TSQ_POP takes the head timestamp entry and latches its words. -/
  | tsqPop
  /-- GPIO_SET_WRITE (R552): A write of KEEP_GPIO_SET sets out bits. -/
  | gpioSetWrite (w : Word)
  /-- GPIO_CLR_WRITE (R552): A write of KEEP_GPIO_CLR clears out bits. -/
  | gpioClrWrite (w : Word)
  /-- GPIO_EDGE (R554): An edge on an input GPIO sets its edge bit and may wake KEEP_CPU. -/
  | gpioEdge (j : Fin 24) (level : Bool)
  /-- PCIE_RESET (R453): PERST, hot reset, FLR or link down resets NET_PCIE, its rings and lanes 0 and 1. -/
  | pcieReset (cause : Fin 4)
  /-- PCIE_D3HOT (R453): The function enters or leaves D3hot and rings pause or resume. -/
  | pcieD3hot (enter : Bool)
  /-- RING_TAIL_WRITE (R455): A write of TAIL gives descriptors to the part, or halts the ring if too far ahead. -/
  | ringTailWrite (r : Fin 32) (w : Word)
  /-- RING_ENABLE (R457): Enabling or disabling a ring via NET_RING_CFG, clearing any halt. -/
  | ringEnable (r : Fin 32) (w : Word)
  /-- PACKET_DESCRIPTOR (R459): A PACKET descriptor's packet is decided and the descriptor written back. -/
  | packetDescriptor (r : Fin 32) (ws : List Word) (p : Pkt) (noPath retry : Bool)
  /-- IMMEDIATE_DESCRIPTOR (R460): An IMMEDIATE descriptor is placed, sent, retried and completed. -/
  | immediateDescriptor (r : Fin 32) (ws : List Word) (m : ImmHdr)
  /-- CIPHER_DESCRIPTOR (R461): A CIPHER descriptor runs a GCM or CMAC job in place and is written back. -/
  | cipherDescriptor (r : Fin 32) (ws : List Word) (data : List Word) (tagOk : Bool)
  /-- DELIVERY_WRITE (R462): A delivery is written into DELIVER ring buffers, or waits for a descriptor. -/
  | deliveryWrite (r : Fin 32) (ws : List Word)
  /-- EVENT_RECORD_WRITE (R464): An event record is written to RING15, or kept in the event queue. -/
  | eventRecordWrite
  /-- RATE_LIMIT_SECOND_END (R574): At the end of a rate-limit second an event with pending occurrences is raised once more. -/
  | rateLimitSecondEnd (event scope : Nat)
  /-- DMA_READ_FAILURE (R452): A DMA read fails and its descriptor completes DMA_ERROR or its ring halts. -/
  | dmaReadFailure (r : Fin 32) (ws : Option (List Word))
  /-- RING_INTERRUPT (R465): A ring's completions reach coal_count or coal_us passes and an MSI-X message is sent. -/
  | ringInterrupt (r : Fin 32)
  /-- ETH_FRAME_RECEIVE (R468): An Ethernet frame is accepted by address, VLAN and EtherType, or dropped and counted. -/
  | ethFrameReceive (e : Fin 2) (f : EthFrame)
  /-- ETH_LINK_CHANGE (R474): An Ethernet link goes up or down and NET_ETH_LINK is raised. -/
  | ethLinkChange (e : Fin 2) (up : Bool) (speed : Fin 4)
  /-- DDR_TRAINING (R472): The LPDDR4X device is calibrated and trained, falling back in rate or failing. -/
  | ddrTraining (fails : Nat) (mib : Nat)
  /-- DDR_SCRUB_PASS (R473): The scrubber reads and corrects all used DRAM once per scrub_h hours. -/
  | ddrScrubPass
  /-- ETH_CONFIG (R479): Stages an Ethernet port's mode, MTU, VLAN and MAC. -/
  | ethConfig (g : Goruz)
  /-- ETH_GW_SET (R479): Sets a port's gateway MAC at once. -/
  | ethGwSet (g : Goruz)
  /-- ETH_STATUS (R478): Returns a port's status and counters. -/
  | ethStatus (g : Goruz)
  /-- ETH_MDIO (R471): Performs a Clause 22 MDIO read or write. -/
  | ethMdio (g : Goruz)
  /-- REDUND_CONFIG (R479): Stages the PRP or HSR mode and duplicate window. -/
  | redundConfig (g : Goruz)
  /-- DDR_CONFIG (R479): Stages DRAM rate and scrub settings. -/
  | ddrConfig (g : Goruz)
  /-- DDR_STATUS (R478): Returns LPDDR4X registers. -/
  | ddrStatus (g : Goruz)
  /-- HOST_CONFIG (R478): Stages steer ring and timer interrupt routing. -/
  | hostConfig (g : Goruz)
  /-- HELLO (R483): A HELLO is sent every 100 ms per cluster port, or received and used for membership and root election. -/
  | hello (e : Fin 2) (rx : Option (YowHdr × HelloBody))
  /-- YOWIOB_TIME (R487): A TIME message is received from the upstream as a cluster sync and relayed downstream. -/
  | yowiobTime (e : Fin 2) (rx : Option (YowHdr × TimeBody))
  /-- DELAY_REQ (R483): A DELAY_REQ is sent each second per link, or received and answered. -/
  | delayReq (e : Fin 2) (rx : Option YowHdr)
  /-- DELAY_RESP (R483): A DELAY_RESP is received and the link delay updated. -/
  | delayResp (e : Fin 2) (h : YowHdr) (t2 t3 : Nat)
  /-- MIRROR (R495): The holder sends mirror items at least every mirror_ms and the standby applies them. -/
  | mirror (rx : Option (YowHdr × MirrorBody))
  /-- MIRROR_ACK (R495): The standby acknowledges mirror items and lease boundaries. -/
  | mirrorAck (h : YowHdr) (b : MirrorAck)
  /-- LANE (R504): A LANE frame carries LANE3 Goruz words with credit and retransmission. -/
  | lane (rx : Option (YowHdr × LaneBody))
  /-- LANE_FRAME_RETRY (R504): A LANE frame unacknowledged within 2 ms is resent, or a lane fault results after 4 retries. -/
  | laneFrameRetry
  /-- MIRROR_TIMEOUT (R497): No MIRROR arrives within mirror_timeout_ms and the standby's mirror lapses. -/
  | mirrorTimeout
  /-- ARBITRATION_ROUND (R492): A torch arbitration round is started and claims are driven bit by bit on TORCH_D. -/
  | arbitrationRound (own : Bool)
  /-- ROUND_END (R492): The round ends and the winning claim is known to both units. -/
  | roundEnd (peer : Nat)
  /-- TAKEOVER_INSTANT (R499): At the first slot boundary after winning, the new holder sets counters, advances tx_dsn and opens its emitter gate. -/
  | takeoverInstant
  /-- TORCH_PIN_FAULT (R493): TORCH_C held low too long or a higher Yowiob claim sets pin_fault. -/
  | torchPinFault
  /-- CLUSTER_CONFIG (R508): Stages cluster membership settings. -/
  | clusterConfig (g : Goruz)
  /-- TORCH_CONFIG (R508): Stages torch settings. -/
  | torchConfig (g : Goruz)
  /-- CLUSTER_STATUS (R508): Returns cluster registers. -/
  | clusterStatus (g : Goruz)
  /-- TORCH_STATUS (R508): Returns torch registers. -/
  | torchStatus (g : Goruz)
  /-- TORCH_CONTROL (R502): Hands over the torch by yield or reclaims it. -/
  | torchControl (g : Goruz)
  /-- TORCH_RESYNC (R509): Sends all mirrored records and configuration to the standby. -/
  | torchResync (g : Goruz)
  /-- ERROR_EVENT (R510): An element raises an error event, counted and queued for its targeted self-test. -/
  | errorEvent (kind : Fin 10) (region : Fin 4) (index : Nat) (what : ErrKind)
  /-- SELF_TEST_START (R511): A queued self-test starts when its element is idle or 10 ms after reaching the queue head. -/
  | selfTestStart (kind : Fin 10) (index : Nat)
  /-- SELF_TEST_OUTCOME (R512): A self-test ends TRANSIENT or LASTING; a lasting element is retired and replaced. -/
  | selfTestOutcome (kind : Fin 10) (index : Nat) (pass : Bool)
  /-- REGION_ESCALATION (R515): A fault without spare resets the element's domain and tests it whole. -/
  | regionEscalation (kind : Fin 10) (index : Nat) (d : Fin 26) (pass : Bool)
  /-- LOGBOOK_FULL_FLUSH (R524): Every 15 min, or on command or reset, the logbook is written to the next location. -/
  | logbookFullFlush
  /-- LOG_STATUS (R526): Returns the last flush sequence and journal range. -/
  | logStatus (g : Goruz)
  /-- LOG_COUNTERS_GET (R526): Returns lifetime counters. -/
  | logCountersGet (g : Goruz)
  /-- LOG_HIST_GET (R526): Returns a logbook histogram. -/
  | logHistGet (g : Goruz)
  /-- LOG_CLASS_GET (R526): Returns the self-test classification. -/
  | logClassGet (g : Goruz)
  /-- LOG_JOURNAL_GET (R526): Returns journal entries. -/
  | logJournalGet (g : Goruz)
  /-- LOG_FLUSH (R524): Requests a full logbook flush. -/
  | logFlush (g : Goruz)
  /-- UPD_BEGIN (R529): Opens or resumes a bundle delivery into staging. -/
  | updBegin (g : Goruz)
  /-- UPD_WRITE (R530): Writes bundle words into staging. -/
  | updWrite (g : Goruz)
  /-- UPD_FINISH (R531): Checks the staged bundle and marks it VERIFIED. -/
  | updFinish (g : Goruz)
  /-- UPD_ACTIVATE (R533): Commits the activation record and puts the new set in force. -/
  | updActivate (g : Goruz)
  /-- ACTIVATION_PAUSE (R534): At the first slot boundary after the commit word, transmissions are held while changed domains restart. -/
  | activationPause (dead : List Nat)
  /-- UPD_STATUS (R540): Returns staging state, progress and anti-rollback counters. -/
  | updStatus (g : Goruz)
  /-- UPD_ABORT (R541): Erases a receiving or verified staging area. -/
  | updAbort (g : Goruz)
  /-- JTAG_INSTRUCTION_LOAD (R42): An instruction shifted into the JTAG test access port is updated; EXTEST, CLAMP, HIGHZ and private instructions are refused and select BYPASS unless debug is authenticated. -/
  | jtagInstructionLoad (j : Jtag)
  /-- MSIX_VECTOR_UNMASK (R557): A vector is unmasked, or MSI-X Enable or Function Mask is changed, and a message held pending on the vector is sent. -/
  | msixVectorUnmask (v : Fin 64) (cfg : Option (Bool × Bool × Bool))
  /-- TAMPER_ALARM_CONDITION_END (R414): The alarm condition of a tamper source ceases, its active bit in KEEP_TAMP_STATUS clears, and a CLEAR parcel is no longer refused with GZ_BUSY for it. -/
  | tamperAlarmConditionEnd (src : Fin 5)
  /-- SUPERVISION_FRAME_SEND (R470): Under PRP or HSR the part sends a supervision frame every 2 s. -/
  | supervisionFrameSend
  /-- PART_TEMPERATURE_MINUTE_COUNT (R521): Once per minute the part temperature is counted into bin k of logbook histogram 0. -/
  | partTemperatureMinuteCount (temp : Int)
  /-- PAIR_SEQUENCE_TIMEOUT (R538): The holder's wait of at most 10 s for the standby to show SYNCED and the new bundle_version runs out, and the pair sequence ends with the holder unchanged. -/
  | pairSequenceTimeout
  deriving DecidableEq, Repr

end Sys2Proof
end

