-- ==== Sys2Proof/WellFormed.lean ====
section
/-! DEFINITION. When a command is well formed: its operands lie in the ranges that the spec gives the quantities they stand for. A command
that is not well formed stands for no bus transfer, frame or event that the part can meet. -/

namespace Sys2Proof

/-- An address of the 16 MiB of BAR0, aligned on 32 bits (R5, R6, R542). -/
def addrWf (a : Nat) : Bool := decide (a < 0x1000000) && a % 4 == 0
/-- A neighbour's handle (R306). -/
def handleWf (h : Nat) : Bool := decide (h < 131072)
/-- LEN is an 8-bit field (R122). -/
def goruzWf (g : Goruz) : Bool := decide (g.words.length ≤ 255)
/-- An IPv6 header and the ports of a UDP header behind it (R366, R375). -/
def pktWf (p : Pkt) : Bool :=
  decide (p.src < 2 ^ 128) && decide (p.dst < 2 ^ 128) && decide (p.dscp < 64) && decide (p.ecn < 4) && decide (p.flow < 2 ^ 20)
    && decide (p.hop < 256) && decide (p.nextHeader < 256) && decide (40 ≤ p.len) && decide (p.len ≤ 65575)
    && (match p.udp with
      | some (a, b) => decide (a < 65536) && decide (b < 65536)
      | none => true)
/-- An address of IEEE 802.15.4. -/
def macAddrWf : Addr → Bool
  | .absent => true
  | .short a => decide (a < 65536)
  | .ext a => decide (a < 2 ^ 64)
/-- A MAC header: sequence number, PAN identifiers and addresses (R237 to R239). -/
def frameWf (f : Frame) : Bool :=
  (match f.seq with
    | some n => decide (n < 256)
    | none => true)
    && decide (f.dstPan < 65536) && decide (f.srcPan < 65536) && macAddrWf f.dst && macAddrWf f.src
    && (match f.pay with
      | .packet p => pktWf p
      | .frag t n o _ p => decide (t < 65536) && decide (n < 2048) && decide (o < 2048) && pktWf p
      | _ => true)
/-- A PSDU is at most 2,047 octets (R188, R208). -/
def phrWf (p : Phr) : Bool := decide (p.len ≤ 2047)
/-- An Ethernet frame: addresses of 48 bits, a VLAN identifier of 12 (R468). -/
def ethWf (f : EthFrame) : Bool :=
  decide (f.dst < 2 ^ 48) && decide (f.src < 2 ^ 48) && (match f.vid with
    | some v => decide (v < 4096)
    | none => true)
    && (match f.pay with
      | .ipv6 p => pktWf p
      | _ => true)
/-- The header of a Yowiob frame (R480). -/
def yowWf (h : YowHdr) : Bool :=
  decide (h.version < 16) && decide (h.cluster < 2 ^ 64) && decide (h.sender < 2 ^ 64) && decide (h.claim < 65536) && decide (h.seq < 2 ^ 32)
/-- A mirror item (R495): a record of 16 words, a map of tone codes 0 to 4, a vault entry of 8,192. -/
def itemWf : MItem → Bool
  | .record h ws => handleWf h && ws.length == 16
  | .maps h tx rx =>
    let m (x : Option (Nat × Nat × Nat × List Nat)) : Bool := match x with
      | some (i, o, r, c) => decide (i < 256) && decide (o < 2) && decide (r < 4) && c.all (· ≤ 4) && c.length == (if o = 0 then 96 else 48)
      | none => true
    handleWf h && m tx && m rx
  | .remove h => handleWf h
  | .cells a _ _ => decide (a < 2 ^ 40)
  | .config t _ => decide (t < 2 ^ 64)
  | .lease e b => decide (e < 8192) && decide (b < 2 ^ 64)

/-- The Goruz commands: the opcode and the command (R122, R126); none for the other commands of the block. -/
def Instr.goruz : Instr → Option (Nat × Goruz)
  | .pwrStatus g => some (0x0301, g)
  | .pwrSleepSetDefine g => some (0x0302, g)
  | .pwrSleepEnter g => some (0x0303, g)
  | .pwrSleepExit g => some (0x0304, g)
  | .pwrWake g => some (0x0305, g)
  | .pwrWakeSource g => some (0x0306, g)
  | .pwrDomainRetry g => some (0x0307, g)
  | .pwrRefResume g => some (0x0308, g)
  | .cfgCommit g => some (0x0120, g)
  | .cfgDiscard g => some (0x0121, g)
  | .cfgStatus g => some (0x0122, g)
  | .cfgImageSave g => some (0x0123, g)
  | .cfgImageWrite g => some (0x0124, g)
  | .cfgImageFinish g => some (0x0125, g)
  | .sysGateStatus g => some (0x0126, g)
  | .sysGateOpen g => some (0x0127, g)
  | .sysGateClose g => some (0x0128, g)
  | .sysInfo g => some (0x0101, g)
  | .sysReset g => some (0x0102, g)
  | .sysEcho g => some (0x0103, g)
  | .sysLaneStatus g => some (0x0104, g)
  | .sysLaneConfig g => some (0x0105, g)
  | .sysEventFetch g => some (0x0106, g)
  | .diagLaneTest g => some (0x0A01, g)
  | .rfPortConfig g => some (0x0401, g)
  | .rfPortStatus g => some (0x0402, g)
  | .rfRampSet g => some (0x0403, g)
  | .rfFemSet g => some (0x0404, g)
  | .rfGainSet g => some (0x0405, g)
  | .rfTrimSet g => some (0x0406, g)
  | .rfTrimGet g => some (0x0407, g)
  | .rfSynthCal g => some (0x0408, g)
  | .rfTunerSearch g => some (0x0409, g)
  | .rfTestTone g => some (0x040A, g)
  | .schTemplateSet g => some (0x0501, g)
  | .schHopSet g => some (0x0502, g)
  | .schSlotframeSet g => some (0x0503, g)
  | .schSyncConfig g => some (0x0504, g)
  | .schTimingConfig g => some (0x0505, g)
  | .schLanternConfig g => some (0x0506, g)
  | .schCellAdd g => some (0x0510, g)
  | .schCellDelete g => some (0x0511, g)
  | .schCellQuery g => some (0x0512, g)
  | .schNbrTimingSet g => some (0x0513, g)
  | .schNbrTimingGet g => some (0x0514, g)
  | .schAsnSet g => some (0x0515, g)
  | .schRescan g => some (0x0516, g)
  | .schStatus g => some (0x0517, g)
  | .planListenerSet g => some (0x0420, g)
  | .planEmitterBind g => some (0x0421, g)
  | .planChannelsSet g => some (0x0422, g)
  | .planStatus g => some (0x0423, g)
  | .planCheck g => some (0x0424, g)
  | .planReach g => some (0x0425, g)
  | .lstStatus g => some (0x0426, g)
  | .phyGtConfig g => some (0x0440, g)
  | .phyTsTrimSet g => some (0x0441, g)
  | .phyTsCorrGet g => some (0x0442, g)
  | .phyFskConfig g => some (0x0443, g)
  | .gtLinkSet g => some (0x0444, g)
  | .gtMapGet g => some (0x0445, g)
  | .gtStatus g => some (0x0446, g)
  | .macConfig g => some (0x06C0, g)
  | .macStatus g => some (0x06C1, g)
  | .macFtqStatus g => some (0x06C2, g)
  | .nbrAdd g => some (0x0601, g)
  | .nbrRemove g => some (0x0602, g)
  | .nbrSet g => some (0x0603, g)
  | .nbrGet g => some (0x0604, g)
  | .nbrFind g => some (0x0605, g)
  | .nbrStats g => some (0x0606, g)
  | .nbrRestore g => some (0x0607, g)
  | .nbrPin g => some (0x0608, g)
  | .storeConfig g => some (0x0609, g)
  | .storeStatus g => some (0x060A, g)
  | .trfClassConfig g => some (0x0C01, g)
  | .trfProfileSet g => some (0x0C02, g)
  | .trfQuotaSet g => some (0x0C03, g)
  | .trfPoliceSet g => some (0x0C04, g)
  | .trfSchedConfig g => some (0x0C05, g)
  | .trfFlowSet g => some (0x0C10, g)
  | .trfFlowGet g => some (0x0C11, g)
  | .trfHistGet g => some (0x0C12, g)
  | .trfStatus g => some (0x0C13, g)
  | .fwdConfig g => some (0x0801, g)
  | .fwdDscpMap g => some (0x0802, g)
  | .fwdContextSet g => some (0x0803, g)
  | .fwdRouteAdd g => some (0x0810, g)
  | .fwdRouteDelete g => some (0x0811, g)
  | .fwdRouteGet g => some (0x0812, g)
  | .fwdRouteFlush g => some (0x0813, g)
  | .fwdPrefixAdd g => some (0x0820, g)
  | .fwdPrefixDelete g => some (0x0821, g)
  | .fwdPrefixGet g => some (0x0822, g)
  | .fwdLookup g => some (0x0823, g)
  | .fwdStatus g => some (0x0830, g)
  | .keyConfig g => some (0x0701, g)
  | .keyIngressWrite g => some (0x0702, g)
  | .keyIngressClear g => some (0x0703, g)
  | .keyParcelSubmit g => some (0x0704, g)
  | .keyStatus g => some (0x0705, g)
  | .keyInfo g => some (0x0706, g)
  | .tamperStatus g => some (0x0707, g)
  | .cipherStatus g => some (0x0708, g)
  | .timeConfig g => some (0x0901, g)
  | .timeStatus g => some (0x0902, g)
  | .timeSet g => some (0x0903, g)
  | .timeOffset g => some (0x0904, g)
  | .timeAccept g => some (0x0905, g)
  | .timeTsqFetch g => some (0x0906, g)
  | .timeRegRead g => some (0x0907, g)
  | .timeRegWrite g => some (0x0908, g)
  | .aadcTrimSet g => some (0x0909, g)
  | .aadcTrimGet g => some (0x090A, g)
  | .ethConfig g => some (0x0140, g)
  | .ethGwSet g => some (0x0141, g)
  | .ethStatus g => some (0x0142, g)
  | .ethMdio g => some (0x0143, g)
  | .redundConfig g => some (0x0144, g)
  | .ddrConfig g => some (0x0145, g)
  | .ddrStatus g => some (0x0146, g)
  | .hostConfig g => some (0x0147, g)
  | .clusterConfig g => some (0x0B01, g)
  | .torchConfig g => some (0x0B02, g)
  | .clusterStatus g => some (0x0B03, g)
  | .torchStatus g => some (0x0B04, g)
  | .torchControl g => some (0x0B05, g)
  | .torchResync g => some (0x0B06, g)
  | .logStatus g => some (0x0A10, g)
  | .logCountersGet g => some (0x0A11, g)
  | .logHistGet g => some (0x0A12, g)
  | .logClassGet g => some (0x0A13, g)
  | .logJournalGet g => some (0x0A14, g)
  | .logFlush g => some (0x0A15, g)
  | .updBegin g => some (0x0201, g)
  | .updWrite g => some (0x0202, g)
  | .updFinish g => some (0x0203, g)
  | .updActivate g => some (0x0204, g)
  | .updStatus g => some (0x0205, g)
  | .updAbort g => some (0x0206, g)
  | _ => none

/-- The operands of a command lie in their ranges. Commands whose operands have the range as their type are always well formed. -/
def Instr.wellFormed : Instr → Bool
  | .registerWrite a _ _ => addrWf a
  | .rcRegisterRead a => addrWf a
  | .latchedPairRead a => addrWf a
  | .writeCmd count ws => decide (ws.length ≤ count.toNat)
  | .readResp count es => decide (es.length ≤ count.toNat)
  | .phrCheck _ _ h => phrWf h
  | .mhrParse _ f => frameWf f
  | .aadcConversion _ raw => decide (raw < 4096)
  | .berthFetchComplete h _ => handleWf h
  | .writebackComplete h => handleWf h
  | .persistIntervalWrite h => handleWf h
  | .recordPoisoned h _ _ => handleWf h
  | .wakeupSequenceStart h => handleWf h
  | .rendezvous h => handleWf h
  | .packetDescriptor _ _ p _ _ => pktWf p
  | .ethFrameReceive _ f => ethWf f
  | .hello _ (some (h, b)) => yowWf h && decide (b.priority < 256) && decide (b.root < 2 ^ 64)
  | .yowiobTime _ (some (h, b)) => yowWf h && decide (b.origin < 2 ^ 64) && decide (b.correction < 2 ^ 32)
  | .delayReq _ (some h) => yowWf h
  | .delayResp _ h t2 t3 => yowWf h && decide (t2 < 2 ^ 64) && decide (t3 < 2 ^ 64)
  | .mirror (some (h, b)) => yowWf h && b.items.all itemWf
  | .mirrorAck h b => yowWf h && b.leases.all (fun l => decide (l.1 < 8192))
  | .lane (some (h, b)) => yowWf h && decide (b.ws.length ≤ 64) && decide (b.credit ≤ 128)
  | .roundEnd peer => decide (peer < 65536)
  | .agerVisit a _ => decide (a < 2 ^ 128)
  | i => match i.goruz with
    | some (_, g) => goruzWf g
    | none => true

end Sys2Proof
end

