-- ==== Sys2Proof/Decode.lean ====
section
/-! DEFINITION. The command that a word spells. The table of operations and events gives no row any bits: its commands are bus transfers,
frames, events and instants, and the words of a Goruz command reach the part through a lane, word by word (log 32). -/

namespace Sys2Proof

/-- The command that a word of `nbits` bits spells: no row of the table gives bits, so none. (DESIGN CHOICE, log 32.) -/
def decodeTableWord (nbits w : Nat) : Option Instr :=
  match nbits, w with
  | _, _ => none

end Sys2Proof
end

