-- ==== Sys2Proof/Machine/Events.lean ====
section
/-! DEFINITION. The events: number and region code of each, by the positions of the events tables (R516, R464). -/

namespace Sys2Proof.Machine.Ev

/-- KEEP_SUPPLY_WARN: rail. -/
def keepSupplyWarn : Nat × Nat := (0x0301, 1)
/-- KEEP_SUPPLY_RECOVERED: rail, minimum in mV, duration in ns. -/
def keepSupplyRecovered : Nat × Nat := (0x0302, 1)
/-- KEEP_BANK_ISOLATED: rail; raised at the crossing and again at recovery. -/
def keepBankIsolated : Nat × Nat := (0x0303, 1)
/-- KEEP_WICK_BROWNOUT: keep time of detection. -/
def keepWickBrownout : Nat × Nat := (0x0304, 1)
/-- KEEP_XTAL32_FAIL: keep time of detection. -/
def keepXtal32Fail : Nat × Nat := (0x0305, 1)
/-- KEEP_REF_LOST: keep time, as counted on the RC. -/
def keepRefLost : Nat × Nat := (0x0306, 1)
/-- KEEP_REF_RESTORED: keep time, as counted on the RC. -/
def keepRefRestored : Nat × Nat := (0x0307, 1)
/-- KEEP_DOMAIN_RETRY: domain id, step, retry number. -/
def keepDomainRetry : Nat × Nat := (0x0308, 1)
/-- KEEP_DOMAIN_FAILED: domain id, step. -/
def keepDomainFailed : Nat × Nat := (0x0309, 1)
/-- KEEP_SLEEP_REFUSED: sleep set, domain id, reason code. -/
def keepSleepRefused : Nat × Nat := (0x030A, 1)
/-- KEEP_OUTPUTS_HELD: reason mask; lines closed. -/
def keepOutputsHeld : Nat × Nat := (0x0101, 1)
/-- KEEP_OUTPUTS_OPEN: keep time of opening; lines open after it. -/
def keepOutputsOpen : Nat × Nat := (0x0102, 1)
/-- KEEP_CFG_FALLBACK: slot selected, slot rejected, its reason bit and bad_param. -/
def keepCfgFallback : Nat × Nat := (0x0103, 1)
/-- KEEP_CFG_COMMITTED: commit_seq, keep time of the commit instant. -/
def keepCfgCommitted : Nat × Nat := (0x0104, 1)
/-- KEEP_LANE_FAULT: lane; kind: LANE_OVERRUN or LANE_UNCORRECTABLE. -/
def keepLaneFault : Nat × Nat := (0x0111, 1)
/-- KEEP_LANE_FAILED: lane; stages failed. -/
def keepLaneFailed : Nat × Nat := (0x0112, 1)
/-- AIR_VSWR_HIGH: port; VSWR in 0.01; emitter; frame frequency in kHz. -/
def airVswrHigh : Nat × Nat := (0x0401, 4)
/-- AIR_VSWR_BACKOFF: port; VSWR in 0.01. -/
def airVswrBackoff : Nat × Nat := (0x0402, 4)
/-- AIR_VSWR_RESTORED: port; VSWR in 0.01. -/
def airVswrRestored : Nat × Nat := (0x0403, 4)
/-- AIR_TUNER_SEARCH_DONE: port; VSWR before and after in 0.01; match codes and tuner state. -/
def airTunerSearchDone : Nat × Nat := (0x0404, 4)
/-- AIR_SYNTH_CAL_FORCED: port; temperature drift in 0.1 °C; keep time of the announced start. -/
def airSynthCalForced : Nat × Nat := (0x0405, 4)
/-- AIR_SYNTH_UNLOCK: port; keep time; emitters cut. -/
def airSynthUnlock : Nat × Nat := (0x0406, 4)
/-- AIR_CONTEXT_RETIRED: listener; context; 1 if a spare took its place; spares left in the block. -/
def airContextRetired : Nat × Nat := (0x0421, 4)
/-- AIR_LISTENER_RETIRED: listener; kind; pool or centre in kHz. -/
def airListenerRetired : Nat × Nat := (0x0422, 4)
/-- AIR_GT_MAP_UNKNOWN: listener; map_id; map_check; unknown count since the last such event. -/
def airGtMapUnknown : Nat × Nat := (0x0441, 4)
/-- AIR_GT_TABLE_FULL: handle whose map was not placed; table entries in use. -/
def airGtTableFull : Nat × Nat := (0x0442, 4)
/-- LINK_UNKNOWN_SOURCE: source address and its mode; listener; occurrences. -/
def linkUnknownSource : Nat × Nat := (0x06C1, 2)
/-- LINK_SEC_FAIL: handle; reason: KEY_UNKNOWN, MIC_FAIL or REPLAY; occurrences. -/
def linkSecFail : Nat × Nat := (0x06C2, 2)
/-- LINK_LATE_EXPIRED: handle; listener; occurrences. -/
def linkLateExpired : Nat × Nat := (0x06C3, 2)
/-- LINK_SYNC_WEAK: time parent handle; missed EBs; u_self in µs. -/
def linkSyncWeak : Nat × Nat := (0x0501, 2)
/-- LINK_SYNC_LOST: u_self in µs; 1 if a rescan started. -/
def linkSyncLost : Nat × Nat := (0x0502, 2)
/-- LINK_SYNC_REGAINED: time parent handle; ASN; offset applied to keep time in ns. -/
def linkSyncRegained : Nat × Nat := (0x0503, 2)
/-- LINK_NBR_DESYNC: last handle; occurrences. -/
def linkNbrDesync : Nat × Nat := (0x0504, 2)
/-- LINK_NBR_LOST_PHASE: last handle; occurrences. -/
def linkNbrLostPhase : Nat × Nat := (0x0505, 2)
/-- LINK_SLOTS_SKIPPED: first ASN passed over; slots passed. -/
def linkSlotsSkipped : Nat × Nat := (0x0506, 2)
/-- LINK_NBR_NO_CHANNEL: last handle; occurrences. -/
def linkNbrNoChannel : Nat × Nat := (0x0507, 2)
/-- LINK_NBR_QUARANTINED: handle; 0 berth, 1 backing record; 1 if the fault proved lasting. -/
def linkNbrQuarantined : Nat × Nat := (0x0601, 2)
/-- LINK_STORE_REBUILD: records lost; frames completed with DOMAIN_FAILED. -/
def linkStoreRebuild : Nat × Nat := (0x0602, 2)
/-- LINK_BERTH_PRESSURE: free berths; hard-pinned berths; occurrences since the last raising. -/
def linkBerthPressure : Nat × Nat := (0x0603, 2)
/-- NET_QUOTA_REFUSED: group; pages requested; used; occurrences. -/
def netQuotaRefused : Nat × Nat := (0x0C01, 3)
/-- NET_POLICED: bucket; port; occurrences. -/
def netPoliced : Nat × Nat := (0x0C02, 3)
/-- NET_CORE_RETIRED: core; cores remaining. -/
def netCoreRetired : Nat × Nat := (0x0C03, 3)
/-- NET_ROUTE_FULL: route records in use; occurrences. -/
def netRouteFull : Nat × Nat := (0x0801, 3)
/-- NET_ROUTE_MOVED: last address moved; old and new entry words; occurrences. -/
def netRouteMoved : Nat × Nat := (0x0802, 3)
/-- NET_FWD_TABLES_LOST: static entries restored from the image. -/
def netFwdTablesLost : Nat × Nat := (0x0803, 3)
/-- KEEP_KEY_COMMITTED: parcel type; counter; records applied. -/
def keepKeyCommitted : Nat × Nat := (0x0701, 1)
/-- KEEP_KEY_REKEY: vault entry; usage; reason: LOW or EXHAUSTED. -/
def keepKeyRekey : Nat × Nat := (0x0702, 1)
/-- KEEP_TAMPER: source code; policy; situation; 1 if ERASE was performed. -/
def keepTamper : Nat × Nat := (0x0703, 1)
/-- LINK_CIPHER_RETIRED: engine; engines of its kind remaining. -/
def linkCipherRetired : Nat × Nat := (0x0704, 2)
/-- NET_CIPHER_RETIRED: engine; engines of its kind remaining. -/
def netCipherRetired : Nat × Nat := (0x0705, 3)
/-- KEEP_CIPHER_RETIRED: engine; engines of its kind remaining. -/
def keepCipherRetired : Nat × Nat := (0x0706, 1)
/-- KEEP_TIME_LOCKED: source; offset at entry in ns. -/
def keepTimeLocked : Nat × Nat := (0x0901, 1)
/-- KEEP_TIME_FREE: source; reason: LOSS, CHANGE or OUTLIER. -/
def keepTimeFree : Nat × Nat := (0x0902, 1)
/-- KEEP_TIME_REFUSED: offset held, 64-bit signed ns. -/
def keepTimeRefused : Nat × Nat := (0x0903, 1)
/-- KEEP_TIME_STEPPED: step, 64-bit signed ns; cause: FIRST, ACCEPT or HOST. -/
def keepTimeStepped : Nat × Nat := (0x0904, 1)
/-- LINK_TSQ_OVERFLOW: entries lost since the last raising. -/
def linkTsqOverflow : Nat × Nat := (0x0905, 2)
/-- NET_PCIE_RESET: cause: PERST, HOT, FLR or DL_DOWN. -/
def netPcieReset : Nat × Nat := (0x0141, 3)
/-- NET_RING_HALTED: ring; halt_reason. -/
def netRingHalted : Nat × Nat := (0x0142, 3)
/-- NET_ETH_LINK: port; up or down; speed. -/
def netEthLink : Nat × Nat := (0x0143, 3)
/-- NET_DDR_TRAINED: rate; fallback; usable_mib. -/
def netDdrTrained : Nat × Nat := (0x0144, 3)
/-- NET_DDR_RETIRED: DRAM offset of the block; spares left. -/
def netDdrRetired : Nat × Nat := (0x0145, 3)
/-- NET_YOW_MEMBERSHIP: state; root serial; acc_latency_ns; 1 if slot_mismatch. -/
def netYowMembership : Nat × Nat := (0x0B01, 3)
/-- KEEP_TORCH_TAKEOVER: winning claim; mirror state; switch_us. -/
def keepTorchTakeover : Nat × Nat := (0x0B02, 1)
/-- KEEP_TORCH_LOST: winning claim. -/
def keepTorchLost : Nat × Nat := (0x0B03, 1)
/-- KEEP_TORCH_MIRROR: mirror state; seq of the last item applied. -/
def keepTorchMirror : Nat × Nat := (0x0B04, 1)
/-- KEEP_TORCH_CONFLICT: reason: UNIT_ID, PART_CODE or PIN_FAULT. -/
def keepTorchConflict : Nat × Nat := (0x0B05, 1)
/-- NET_YOW_IV_CONFLICT: serial of the other part; KEEP_CONFIG unit_id shared, 8 bits; 1 if this part has stopped sending (R482). -/
def netYowIvConflict : Nat × Nat := (0x0B06, 3)
/-- KEEP_FAULT: element kind (4 bits); region; element index; outcome: LASTING or DEFERRED. -/
def keepFault : Nat × Nat := (0x0A01, 1)
/-- KEEP_MEM_RETIRED: element kind (4 bits); region; element index; spares left. -/
def keepMemRetired : Nat × Nat := (0x0A02, 1)
/-- KEEP_DOMAIN_ESCALATED: domain id; element kind (4 bits); 1 if the domain is FAILED. -/
def keepDomainEscalated : Nat × Nat := (0x0A03, 1)
/-- KEEP_LOG_LOST: locations found invalid; sequence restored. -/
def keepLogLost : Nat × Nat := (0x0A04, 1)

end Sys2Proof.Machine.Ev
end

