-- ==== Sys2Proof/Config.lean ====
section
/-! DEFINITION. What the spec fixes in tables, and the free values: constants without a body. -/

namespace Sys2Proof.Config
open Sys2Proof

/-- A value the spec leaves open, by the number of its use: nothing constrains it (DESIGN CHOICE, log 4). -/
opaque freeValue : Nat → Nat
/-- SHA-256 over words (FIPS 180-4): a number below 2^256 (DESIGN CHOICE, log 5). -/
opaque sha256 : List Word → Nat
/-- ECDSA P-256 verification of a signature over a digest with a public key (DESIGN CHOICE, log 5). -/
opaque ecdsaOk : (key : Nat) → (digest : Nat) → (sig : List Word) → Bool
/-- AES-CMAC over words with a key (DESIGN CHOICE, log 5). -/
opaque cmac : (key : Nat) → List Word → Nat
/-- The buffer that a GCM job leaves: key, IV, octets of AAD, octets of the buffer, its words, and encryption or not (DESIGN CHOICE, log 5). -/
opaque gcmBuffer : (key : Nat) → (iv : Nat) → (aad len : Nat) → List Word → (encrypt : Bool) → List Word
/-- The 128-bit tag of a GCM encryption (DESIGN CHOICE, log 5). -/
opaque gcmTag : (key : Nat) → (iv : Nat) → (aad len : Nat) → List Word → Nat
/-- AES-CMAC over octets of words with a key (DESIGN CHOICE, log 5). -/
opaque cmacOctets : (key : Nat) → (len : Nat) → List Word → Nat
/-- SHA-256 over octets of words (DESIGN CHOICE, log 5). -/
opaque sha256Octets : (len : Nat) → List Word → Nat
/-- A key derived from a key and a label (DESIGN CHOICE, log 5). -/
opaque derive : (key : Nat) → (label : Nat) → Nat
/-- AES key unwrapping: the plain key that a wrapped value holds (DESIGN CHOICE, log 5). -/
opaque unwrap : (key : Nat) → List Word → Nat
/-- The integrity check of an AES key unwrapping passes (DESIGN CHOICE, log 5). -/
opaque unwrapOk : (key : Nat) → List Word → Bool
/-- The shared secret of an ECDH exchange (DESIGN CHOICE, log 5). -/
opaque ecdh : (priv : Nat) → (pub : Nat) → Nat
/-- The public key of a private key (DESIGN CHOICE, log 5). -/
opaque publicOf : (priv : Nat) → Nat
/-- Bryndafa's public key, held in boot ROM (R88; DESIGN CHOICE, logs 2 and 5). -/
opaque vendorKey : Nat
/-- The root that the SRAM PUF of this unit yields (R87; DESIGN CHOICE, logs 2 and 5). -/
opaque pufRoot : Nat
/-- The fixed test root (R89; DESIGN CHOICE, logs 2 and 5). -/
opaque testRoot : Nat
/-- The 64-bit serial number of this unit (R136; DESIGN CHOICE, log 2). -/
opaque serialNumber : Nat

/-- A row of the table "Domains and the wake table" (R62): wake order, dependencies, whether off is permitted, and
the PLL by its place in the table "PLLs" (0 core, 1 air, 2 eth, 3 ddr, 4 PCIe; 5 none). -/
structure DomRow where
  order : Nat
  deps : List Nat
  offOk : Bool
  pll : Nat
  deriving DecidableEq, Repr

/-- The table "Domains and the wake table" by domain id (R62). -/
def domTable : List DomRow := [
  ⟨0, [], false, 5⟩,        -- 0 WICK
  ⟨1, [0], false, 0⟩,       -- 1 KEEP_CPU
  ⟨2, [1], true, 0⟩,        -- 2 KEEP_MRAM
  ⟨7, [1], true, 1⟩, ⟨8, [1], true, 1⟩, ⟨9, [1], true, 1⟩,   -- 3..5 AIR_A, AIR_B, AIR_C
  ⟨10, [1], true, 1⟩, ⟨11, [1], true, 1⟩, ⟨12, [1], true, 1⟩, ⟨13, [1], true, 1⟩,
  ⟨14, [1], true, 1⟩, ⟨15, [1], true, 1⟩, ⟨16, [1], true, 1⟩, ⟨17, [1], true, 1⟩,  -- 6..13 AIR_LB0..7
  ⟨18, [1], true, 1⟩,       -- 14 AIR_TX
  ⟨5, [17], true, 0⟩,       -- 15 LINK_SEQ
  ⟨6, [17], true, 0⟩,       -- 16 LINK_CIPH
  ⟨4, [1], true, 0⟩,        -- 17 LINK_STORE
  ⟨19, [1], true, 0⟩,       -- 18 NET_SCHED
  ⟨22, [18], true, 0⟩,      -- 19 NET_FWD
  ⟨23, [18], true, 0⟩,      -- 20 NET_CORES
  ⟨21, [18, 24], true, 0⟩,  -- 21 NET_DMA
  ⟨24, [18], true, 2⟩, ⟨25, [18], true, 2⟩,   -- 22, 23 NET_ETH0, NET_ETH1
  ⟨20, [1], true, 4⟩,       -- 24 NET_PCIE
  ⟨3, [1], true, 3⟩]        -- 25 NET_DDR

/-- The row of a domain. -/
def dom (d : Nat) : DomRow := domTable.getD d ⟨0, [], false, 5⟩

/-- The domains in wake order (R62). -/
def wakeOrder : List Nat :=
  [1, 2, 25, 17, 15, 16, 3, 4, 5, 6, 7, 8, 9, 10, 11, 12, 13, 14, 18, 24, 21, 19, 20, 22, 23]

end Sys2Proof.Config
end

