-- ==== Sys2Proof/Machine/Fields.lean ====
section
/-! DEFINITION. The register fields of the part, from the field tables of the chapters: address of the first member,
stride, number of members, lowest bit, width, access type, and the lifetime counter of the logbook that advances with
an RC field (R520). -/

namespace Sys2Proof.Machine
open Sys2Proof

/-- The access types of fields (R7); `rs` never stalls in BAR0 (R550). -/
inductive Acc where
  | rw | ro | wo | w1c | rc | rs
  deriving DecidableEq, Repr

/-- A register field (R5, R7, R547). -/
structure Field where
  base : Nat
  stride : Nat
  count : Nat
  lo : Nat
  w : Nat
  acc : Acc
  life : Option Nat
  reset : Nat
  deriving DecidableEq, Repr

namespace F
/-- KEEP_ID.device_id (R551). -/
def keepId_device_id : Field := ⟨0x000000, 0x0, 1, 0, 16, .ro, none, 27456⟩
/-- KEEP_ID.family_tag (R551). -/
def keepId_family_tag : Field := ⟨0x000000, 0x0, 1, 16, 16, .ro, none, 45527⟩
/-- KEEP_MAP_VERSION.minor (R551). -/
def keepMapVersion_minor : Field := ⟨0x000004, 0x0, 1, 0, 16, .ro, none, 0⟩
/-- KEEP_MAP_VERSION.major (R551). -/
def keepMapVersion_major : Field := ⟨0x000004, 0x0, 1, 16, 16, .ro, none, 1⟩
/-- KEEP_SCRATCH.scratch (R551). -/
def keepScratch_scratch : Field := ⟨0x000008, 0x0, 1, 0, 32, .rw, none, 0⟩
/-- KEEP_CAP_PART.part_code (R48). -/
def keepCapPart_part_code : Field := ⟨0x000010, 0x0, 1, 0, 4, .ro, none, 0⟩
/-- KEEP_CAP_PART.die_step (R48). -/
def keepCapPart_die_step : Field := ⟨0x000010, 0x0, 1, 4, 4, .ro, none, 0⟩
/-- KEEP_CAP_PART.grade_l (R48). -/
def keepCapPart_grade_l : Field := ⟨0x000010, 0x0, 1, 8, 1, .ro, none, 0⟩
/-- KEEP_CAP_PART.band_d (R48). -/
def keepCapPart_band_d : Field := ⟨0x000010, 0x0, 1, 9, 1, .ro, none, 0⟩
/-- KEEP_CAP_PART.listeners_enabled (R48). -/
def keepCapPart_listeners_enabled : Field := ⟨0x000010, 0x0, 1, 16, 8, .ro, none, 0⟩
/-- KEEP_CAP_PART.emitters_enabled (R48). -/
def keepCapPart_emitters_enabled : Field := ⟨0x000010, 0x0, 1, 24, 4, .ro, none, 0⟩
/-- KEEP_CAP_AIR.lb_present (R48). -/
def keepCapAir_lb_present : Field := ⟨0x000014, 0x0, 1, 0, 8, .ro, none, 0⟩
/-- KEEP_CAP_AIR.emitter_present (R48). -/
def keepCapAir_emitter_present : Field := ⟨0x000014, 0x0, 1, 8, 8, .ro, none, 0⟩
/-- KEEP_CAP_AIR.rfa_present (R48). -/
def keepCapAir_rfa_present : Field := ⟨0x000014, 0x0, 1, 16, 1, .ro, none, 0⟩
/-- KEEP_CAP_AIR.rfb_present (R48). -/
def keepCapAir_rfb_present : Field := ⟨0x000014, 0x0, 1, 17, 1, .ro, none, 0⟩
/-- KEEP_CAP_AIR.rfc_present (R48). -/
def keepCapAir_rfc_present : Field := ⟨0x000014, 0x0, 1, 18, 1, .ro, none, 0⟩
/-- KEEP_CAP_NET.ddr_present (R48). -/
def keepCapNet_ddr_present : Field := ⟨0x000018, 0x0, 1, 0, 1, .ro, none, 0⟩
/-- KEEP_CAP_NET.eth0_present (R48). -/
def keepCapNet_eth0_present : Field := ⟨0x000018, 0x0, 1, 1, 1, .ro, none, 0⟩
/-- KEEP_CAP_NET.eth1_present (R48). -/
def keepCapNet_eth1_present : Field := ⟨0x000018, 0x0, 1, 2, 1, .ro, none, 0⟩
/-- KEEP_CAP_NET.pcie_present (R48). -/
def keepCapNet_pcie_present : Field := ⟨0x000018, 0x0, 1, 3, 1, .ro, none, 0⟩
/-- KEEP_CAP_NET.torch_capable (R48). -/
def keepCapNet_torch_capable : Field := ⟨0x000018, 0x0, 1, 4, 1, .ro, none, 0⟩
/-- KEEP_CAP_NET.cluster_role (R48). -/
def keepCapNet_cluster_role : Field := ⟨0x000018, 0x0, 1, 5, 2, .ro, none, 0⟩
/-- KEEP_CAP_NET.neighbour_capacity_k (R48). -/
def keepCapNet_neighbour_capacity_k : Field := ⟨0x000018, 0x0, 1, 8, 8, .ro, none, 0⟩
/-- KEEP_RST_CAUSE.cause (R108). -/
def keepRstCause_cause : Field := ⟨0x000020, 0x0, 1, 0, 4, .ro, none, 1⟩
/-- KEEP_RST_CAUSE.resets (R108). -/
def keepRstCause_resets : Field := ⟨0x000020, 0x0, 1, 16, 16, .ro, none, 1⟩
/-- KEEP_START.phase (R108). -/
def keepStart_phase : Field := ⟨0x000024, 0x0, 1, 0, 4, .ro, none, 0⟩
/-- KEEP_START.slot (R108). -/
def keepStart_slot : Field := ⟨0x000024, 0x0, 1, 4, 2, .ro, none, 0⟩
/-- KEEP_START.fallback (R108). -/
def keepStart_fallback : Field := ⟨0x000024, 0x0, 1, 6, 1, .ro, none, 0⟩
/-- KEEP_START.debug_root (R108). -/
def keepStart_debug_root : Field := ⟨0x000024, 0x0, 1, 7, 1, .ro, none, 0⟩
/-- KEEP_START.root_ok (R108). -/
def keepStart_root_ok : Field := ⟨0x000024, 0x0, 1, 8, 1, .ro, none, 0⟩
/-- KEEP_START.copy_resumed (R108). -/
def keepStart_copy_resumed : Field := ⟨0x000024, 0x0, 1, 9, 1, .ro, none, 0⟩
/-- KEEP_START.bad_param (R108). -/
def keepStart_bad_param : Field := ⟨0x000024, 0x0, 1, 16, 16, .ro, none, 0⟩
/-- KEEP_GATE.tx_open (R108). -/
def keepGate_tx_open : Field := ⟨0x000028, 0x0, 1, 0, 1, .ro, none, 0⟩
/-- KEEP_GATE.fwd_open (R108). -/
def keepGate_fwd_open : Field := ⟨0x000028, 0x0, 1, 1, 1, .ro, none, 0⟩
/-- KEEP_GATE.torch_open (R108). -/
def keepGate_torch_open : Field := ⟨0x000028, 0x0, 1, 2, 1, .ro, none, 0⟩
/-- KEEP_GATE.gpio_open (R108). -/
def keepGate_gpio_open : Field := ⟨0x000028, 0x0, 1, 3, 1, .ro, none, 0⟩
/-- KEEP_GATE.reasons (R108). -/
def keepGate_reasons : Field := ⟨0x000028, 0x0, 1, 16, 12, .ro, none, 0⟩
/-- KEEP_CFG.staged (R108). -/
def keepCfg_staged : Field := ⟨0x00002C, 0x0, 1, 0, 1, .ro, none, 0⟩
/-- KEEP_CFG.owner_valid (R108). -/
def keepCfg_owner_valid : Field := ⟨0x00002C, 0x0, 1, 1, 1, .ro, none, 0⟩
/-- KEEP_CFG.owner (R108). -/
def keepCfg_owner : Field := ⟨0x00002C, 0x0, 1, 2, 2, .ro, none, 0⟩
/-- KEEP_CFG.trim_clamped (R108). -/
def keepCfg_trim_clamped : Field := ⟨0x00002C, 0x0, 1, 4, 1, .w1c, none, 0⟩
/-- KEEP_CFG.skipped (R108). -/
def keepCfg_skipped : Field := ⟨0x00002C, 0x0, 1, 16, 16, .ro, none, 0⟩
/-- KEEP_UPD_STATE.staging (R539). -/
def keepUpdState_staging : Field := ⟨0x000030, 0x0, 1, 0, 3, .ro, none, 0⟩
/-- KEEP_UPD_STATE.recovery (R539). -/
def keepUpdState_recovery : Field := ⟨0x000030, 0x0, 1, 3, 1, .ro, none, 0⟩
/-- KEEP_UPD_STATE.pair_seq (R539). -/
def keepUpdState_pair_seq : Field := ⟨0x000030, 0x0, 1, 4, 1, .ro, none, 0⟩
/-- KEEP_UPD_STATE.fail_entry (R539). -/
def keepUpdState_fail_entry : Field := ⟨0x000030, 0x0, 1, 16, 8, .ro, none, 255⟩
/-- KEEP_UPD_PROGRESS.resume_offset (R539). -/
def keepUpdProgress_resume_offset : Field := ⟨0x000034, 0x0, 1, 0, 22, .ro, none, 0⟩
/-- KEEP_UPD_CNT.activations (R539). -/
def keepUpdCnt_activations : Field := ⟨0x000038, 0x0, 1, 0, 16, .rc, none, 0⟩
/-- KEEP_UPD_CNT.copies (R539). -/
def keepUpdCnt_copies : Field := ⟨0x000038, 0x0, 1, 16, 16, .rc, none, 0⟩
/-- KEEP_SPINE_CNT_AGE.age_grant (R555). -/
def keepSpineCntAge_age_grant : Field := ⟨0x000040, 0x0, 1, 0, 32, .rc, none, 0⟩
/-- KEEP_PWR_STATE.state (R78). -/
def keepPwrState_state : Field := ⟨0x001000, 0x4, 26, 0, 2, .ro, none, 2⟩
/-- KEEP_PWR_STATE.member (R78). -/
def keepPwrState_member : Field := ⟨0x001000, 0x4, 26, 2, 1, .ro, none, 0⟩
/-- KEEP_PWR_STATE.waking (R78). -/
def keepPwrState_waking : Field := ⟨0x001000, 0x4, 26, 3, 1, .ro, none, 0⟩
/-- KEEP_PWR_STATE.stopping (R78). -/
def keepPwrState_stopping : Field := ⟨0x001000, 0x4, 26, 4, 1, .ro, none, 0⟩
/-- KEEP_PWR_STATE.blocked (R78). -/
def keepPwrState_blocked : Field := ⟨0x001000, 0x4, 26, 5, 1, .ro, none, 0⟩
/-- KEEP_PWR_STATE.absent (R78). -/
def keepPwrState_absent : Field := ⟨0x001000, 0x4, 26, 6, 1, .ro, none, 0⟩
/-- KEEP_PWR_STATE.last_refusal (R78). -/
def keepPwrState_last_refusal : Field := ⟨0x001000, 0x4, 26, 8, 8, .ro, none, 0⟩
/-- KEEP_PWR_STATE.retries (R78). -/
def keepPwrState_retries : Field := ⟨0x001000, 0x4, 26, 16, 2, .ro, none, 0⟩
/-- KEEP_PWR_WSRC.code (R78). -/
def keepPwrWsrc_code : Field := ⟨0x001080, 0x4, 26, 0, 8, .ro, none, 1⟩
/-- KEEP_PWR_WSRC.seq (R78). -/
def keepPwrWsrc_seq : Field := ⟨0x001080, 0x4, 26, 16, 16, .ro, none, 0⟩
/-- KEEP_PWR_WSRC_TLO.time_lo (R78). -/
def keepPwrWsrcTlo_time_lo : Field := ⟨0x001100, 0x4, 26, 0, 32, .ro, none, 0⟩
/-- KEEP_PWR_WSRC_THI.time_hi (R78). -/
def keepPwrWsrcThi_time_hi : Field := ⟨0x001180, 0x4, 26, 0, 32, .ro, none, 0⟩
/-- KEEP_PWR_SUPPLY.core_warn (R78). -/
def keepPwrSupply_core_warn : Field := ⟨0x001200, 0x0, 1, 0, 1, .ro, none, 0⟩
/-- KEEP_PWR_SUPPLY.v18_warn (R78). -/
def keepPwrSupply_v18_warn : Field := ⟨0x001200, 0x0, 1, 1, 1, .ro, none, 0⟩
/-- KEEP_PWR_SUPPLY.io33_low (R78). -/
def keepPwrSupply_io33_low : Field := ⟨0x001200, 0x0, 1, 2, 1, .ro, none, 0⟩
/-- KEEP_PWR_SUPPLY.ddr_low (R78). -/
def keepPwrSupply_ddr_low : Field := ⟨0x001200, 0x0, 1, 3, 1, .ro, none, 0⟩
/-- KEEP_PWR_SUPPLY.tx_hold (R78). -/
def keepPwrSupply_tx_hold : Field := ⟨0x001200, 0x0, 1, 4, 1, .ro, none, 0⟩
/-- KEEP_PWR_SUPPLY.core_dip_seen (R78). -/
def keepPwrSupply_core_dip_seen : Field := ⟨0x001200, 0x0, 1, 8, 1, .w1c, none, 0⟩
/-- KEEP_PWR_SUPPLY.v18_dip_seen (R78). -/
def keepPwrSupply_v18_dip_seen : Field := ⟨0x001200, 0x0, 1, 9, 1, .w1c, none, 0⟩
/-- KEEP_PWR_SUPPLY.io33_seen (R78). -/
def keepPwrSupply_io33_seen : Field := ⟨0x001200, 0x0, 1, 10, 1, .w1c, none, 0⟩
/-- KEEP_PWR_SUPPLY.ddr_seen (R78). -/
def keepPwrSupply_ddr_seen : Field := ⟨0x001200, 0x0, 1, 11, 1, .w1c, none, 0⟩
/-- KEEP_PWR_SUPPLY.last_dip_mv (R78). -/
def keepPwrSupply_last_dip_mv : Field := ⟨0x001200, 0x0, 1, 16, 16, .ro, none, 0⟩
/-- KEEP_PWR_DIP_NS.last_dip_ns (R78). -/
def keepPwrDipNs_last_dip_ns : Field := ⟨0x001204, 0x0, 1, 0, 32, .ro, none, 0⟩
/-- KEEP_PWR_CLK.ref_ok (R78). -/
def keepPwrClk_ref_ok : Field := ⟨0x001208, 0x0, 1, 0, 1, .ro, none, 0⟩
/-- KEEP_PWR_CLK.ref_lost (R78). -/
def keepPwrClk_ref_lost : Field := ⟨0x001208, 0x0, 1, 1, 1, .w1c, none, 0⟩
/-- KEEP_PWR_CLK.xtal32_ok (R78). -/
def keepPwrClk_xtal32_ok : Field := ⟨0x001208, 0x0, 1, 2, 1, .ro, none, 0⟩
/-- KEEP_PWR_CLK.xtal32_fail (R78). -/
def keepPwrClk_xtal32_fail : Field := ⟨0x001208, 0x0, 1, 3, 1, .w1c, none, 0⟩
/-- KEEP_PWR_CLK.wick_on_rc (R78). -/
def keepPwrClk_wick_on_rc : Field := ⟨0x001208, 0x0, 1, 4, 1, .ro, none, 0⟩
/-- KEEP_PWR_CLK.keep_on_rc (R78). -/
def keepPwrClk_keep_on_rc : Field := ⟨0x001208, 0x0, 1, 5, 1, .ro, none, 0⟩
/-- KEEP_PWR_CLK.pll_core_lock (R78). -/
def keepPwrClk_pll_core_lock : Field := ⟨0x001208, 0x0, 1, 8, 1, .ro, none, 0⟩
/-- KEEP_PWR_CLK.pll_air_lock (R78). -/
def keepPwrClk_pll_air_lock : Field := ⟨0x001208, 0x0, 1, 9, 1, .ro, none, 0⟩
/-- KEEP_PWR_CLK.pll_eth_lock (R78). -/
def keepPwrClk_pll_eth_lock : Field := ⟨0x001208, 0x0, 1, 10, 1, .ro, none, 0⟩
/-- KEEP_PWR_CLK.pll_ddr_lock (R78). -/
def keepPwrClk_pll_ddr_lock : Field := ⟨0x001208, 0x0, 1, 11, 1, .ro, none, 0⟩
/-- KEEP_PWR_WICK.lp_mode (R78). -/
def keepPwrWick_lp_mode : Field := ⟨0x00120C, 0x0, 1, 0, 1, .ro, none, 0⟩
/-- KEEP_PWR_WICK.brownout (R78). -/
def keepPwrWick_brownout : Field := ⟨0x00120C, 0x0, 1, 1, 1, .w1c, none, 0⟩
/-- KEEP_PWR_CNT_DIP.dips (R78). -/
def keepPwrCntDip_dips : Field := ⟨0x001210, 0x0, 1, 0, 32, .rc, some 0x10, 0⟩
/-- KEEP_PWR_CNT_REFUSE.refusals (R78). -/
def keepPwrCntRefuse_refusals : Field := ⟨0x001214, 0x0, 1, 0, 32, .rc, some 0x11, 0⟩
/-- KEEP_PWR_CNT_RETRY.retries (R78). -/
def keepPwrCntRetry_retries : Field := ⟨0x001218, 0x0, 1, 0, 32, .rc, some 0x12, 0⟩
/-- KEEP_PWR_CNT_FAILED.failed (R78). -/
def keepPwrCntFailed_failed : Field := ⟨0x00121C, 0x0, 1, 0, 32, .rc, some 0x13, 0⟩
/-- KEEP_PWR_CNT_BROWNOUT.brownouts (R78). -/
def keepPwrCntBrownout_brownouts : Field := ⟨0x001220, 0x0, 1, 0, 32, .rc, some 0x14, 0⟩
/-- KEEP_GZ_STAT.cmd_free (R134). -/
def keepGzStat_cmd_free : Field := ⟨0x002000, 0x20, 4, 0, 8, .ro, none, 0⟩
/-- KEEP_GZ_STAT.resp_fill (R134). -/
def keepGzStat_resp_fill : Field := ⟨0x002000, 0x20, 4, 8, 8, .ro, none, 0⟩
/-- KEEP_GZ_STAT.resp_held (R134). -/
def keepGzStat_resp_held : Field := ⟨0x002000, 0x20, 4, 16, 8, .ro, none, 0⟩
/-- KEEP_GZ_STAT.empty (R134). -/
def keepGzStat_empty : Field := ⟨0x002000, 0x20, 4, 24, 1, .w1c, none, 0⟩
/-- KEEP_GZ_STAT.overrun (R134). -/
def keepGzStat_overrun : Field := ⟨0x002000, 0x20, 4, 25, 1, .w1c, none, 0⟩
/-- KEEP_GZ_STAT.resp_uncorr (R134). -/
def keepGzStat_resp_uncorr : Field := ⟨0x002000, 0x20, 4, 26, 1, .w1c, none, 0⟩
/-- KEEP_GZ_STAT.mark_valid (R134). -/
def keepGzStat_mark_valid : Field := ⟨0x002000, 0x20, 4, 27, 1, .ro, none, 0⟩
/-- KEEP_GZ_STAT.resync_wait (R134). -/
def keepGzStat_resync_wait : Field := ⟨0x002000, 0x20, 4, 28, 1, .ro, none, 0⟩
/-- KEEP_GZ_STAT.executing (R134). -/
def keepGzStat_executing : Field := ⟨0x002000, 0x20, 4, 29, 1, .ro, none, 0⟩
/-- KEEP_GZ_STAT.spi_bad_type (R134). -/
def keepGzStat_spi_bad_type : Field := ⟨0x002000, 0x20, 4, 30, 1, .w1c, none, 0⟩
/-- KEEP_GZ_STAT.failed (R134). -/
def keepGzStat_failed : Field := ⟨0x002000, 0x20, 4, 31, 1, .ro, none, 0⟩
/-- KEEP_GZ_CTRL.mark (R134). -/
def keepGzCtrl_mark : Field := ⟨0x002004, 0x20, 4, 0, 1, .wo, none, 0⟩
/-- KEEP_GZ_CTRL.rewind (R134). -/
def keepGzCtrl_rewind : Field := ⟨0x002004, 0x20, 4, 1, 1, .wo, none, 0⟩
/-- KEEP_GZ_CTRL.release (R134). -/
def keepGzCtrl_release : Field := ⟨0x002004, 0x20, 4, 2, 1, .wo, none, 0⟩
/-- KEEP_GZ_CTRL.resync (R134). -/
def keepGzCtrl_resync : Field := ⟨0x002004, 0x20, 4, 3, 1, .wo, none, 0⟩
/-- KEEP_GZ_CTRL.irq_en (R134). -/
def keepGzCtrl_irq_en : Field := ⟨0x002004, 0x20, 4, 8, 1, .ro, none, 0⟩
/-- KEEP_GZ_CTRL.seq_err (R134). -/
def keepGzCtrl_seq_err : Field := ⟨0x002004, 0x20, 4, 9, 1, .w1c, none, 0⟩
/-- KEEP_GZ_CTRL.vector (R134). -/
def keepGzCtrl_vector : Field := ⟨0x002004, 0x20, 4, 16, 6, .ro, none, 0⟩
/-- KEEP_GZ_LIMITS.stall_us (R134). -/
def keepGzLimits_stall_us : Field := ⟨0x002008, 0x20, 4, 0, 6, .ro, none, 0⟩
/-- KEEP_GZ_LIMITS.assembly_ms (R134). -/
def keepGzLimits_assembly_ms : Field := ⟨0x002008, 0x20, 4, 16, 14, .ro, none, 0⟩
/-- KEEP_GZ_ECC.corrected (R134). -/
def keepGzEcc_corrected : Field := ⟨0x00200C, 0x20, 4, 0, 16, .rc, some 0x18, 0⟩
/-- KEEP_GZ_ECC.uncorrectable (R134). -/
def keepGzEcc_uncorrectable : Field := ⟨0x00200C, 0x20, 4, 16, 8, .rc, some 0x19, 0⟩
/-- KEEP_GZ_ECC.spares_used (R134). -/
def keepGzEcc_spares_used : Field := ⟨0x00200C, 0x20, 4, 24, 2, .ro, none, 0⟩
/-- KEEP_GZ_OVR.overruns (R134). -/
def keepGzOvr_overruns : Field := ⟨0x002010, 0x20, 4, 0, 16, .rc, some 0x1A, 0⟩
/-- KEEP_GZ_OVR.empty_reads (R134). -/
def keepGzOvr_empty_reads : Field := ⟨0x002010, 0x20, 4, 16, 16, .rc, some 0x1B, 0⟩
/-- KEEP_GZ_DISCARD.words_discarded (R134). -/
def keepGzDiscard_words_discarded : Field := ⟨0x002014, 0x20, 4, 0, 32, .rc, some 0x1C, 0⟩
/-- KEEP_KEY_INGRESS_DATA.word (R416). -/
def keepKeyIngressData_word : Field := ⟨0x003000, 0x0, 1, 0, 32, .wo, none, 0⟩
/-- KEEP_KEY_INGRESS_STAT.words (R416). -/
def keepKeyIngressStat_words : Field := ⟨0x003004, 0x0, 1, 0, 13, .ro, none, 0⟩
/-- KEEP_KEY_INGRESS_STAT.overflow (R416). -/
def keepKeyIngressStat_overflow : Field := ⟨0x003004, 0x0, 1, 13, 1, .ro, none, 0⟩
/-- KEEP_KEY_INGRESS_STAT.busy (R416). -/
def keepKeyIngressStat_busy : Field := ⟨0x003004, 0x0, 1, 14, 1, .ro, none, 0⟩
/-- KEEP_KEY_INGRESS_STAT.last_status (R416). -/
def keepKeyIngressStat_last_status : Field := ⟨0x003004, 0x0, 1, 16, 16, .ro, none, 0⟩
/-- KEEP_KEY_STATE.owned (R416). -/
def keepKeyState_owned : Field := ⟨0x003008, 0x0, 1, 0, 1, .ro, none, 0⟩
/-- KEEP_KEY_STATE.root_ok (R416). -/
def keepKeyState_root_ok : Field := ⟨0x003008, 0x0, 1, 1, 1, .ro, none, 0⟩
/-- KEEP_KEY_STATE.debug_armed (R416). -/
def keepKeyState_debug_armed : Field := ⟨0x003008, 0x0, 1, 2, 1, .ro, none, 0⟩
/-- KEEP_KEY_STATE.debug_active (R416). -/
def keepKeyState_debug_active : Field := ⟨0x003008, 0x0, 1, 3, 1, .ro, none, 0⟩
/-- KEEP_KEY_STATE.tamper_hold (R416). -/
def keepKeyState_tamper_hold : Field := ⟨0x003008, 0x0, 1, 4, 1, .ro, none, 0⟩
/-- KEEP_KEY_STATE.erased (R416). -/
def keepKeyState_erased : Field := ⟨0x003008, 0x0, 1, 5, 1, .ro, none, 0⟩
/-- KEEP_KEY_STATE.transport_key (R416). -/
def keepKeyState_transport_key : Field := ⟨0x003008, 0x0, 1, 6, 1, .ro, none, 0⟩
/-- KEEP_KEY_STATE.require_signed_images (R416). -/
def keepKeyState_require_signed_images : Field := ⟨0x003008, 0x0, 1, 8, 1, .ro, none, 0⟩
/-- KEEP_KEY_STATE.require_ecdsa (R416). -/
def keepKeyState_require_ecdsa : Field := ⟨0x003008, 0x0, 1, 9, 1, .ro, none, 0⟩
/-- KEEP_KEY_STATE.debug_permitted (R416). -/
def keepKeyState_debug_permitted : Field := ⟨0x003008, 0x0, 1, 10, 1, .ro, none, 0⟩
/-- KEEP_KEY_STATE.lease_log2 (R416). -/
def keepKeyState_lease_log2 : Field := ⟨0x003008, 0x0, 1, 16, 5, .ro, none, 0⟩
/-- KEEP_KEY_STATE.unit_id (R416). -/
def keepKeyState_unit_id : Field := ⟨0x003008, 0x0, 1, 24, 8, .ro, none, 0⟩
/-- KEEP_KEY_PCTR_LO.pctr_lo (R416). -/
def keepKeyPctrLo_pctr_lo : Field := ⟨0x00300C, 0x0, 1, 0, 32, .ro, none, 0⟩
/-- KEEP_KEY_PCTR_HI.pctr_hi (R416). -/
def keepKeyPctrHi_pctr_hi : Field := ⟨0x003010, 0x0, 1, 0, 32, .ro, none, 0⟩
/-- KEEP_KEY_VAULT.keys (R416). -/
def keepKeyVault_keys : Field := ⟨0x003014, 0x0, 1, 0, 14, .ro, none, 0⟩
/-- KEEP_TAMP_POLICY.policy (R416). -/
def keepTampPolicy_policy : Field := ⟨0x003018, 0x0, 1, 0, 10, .ro, none, 0⟩
/-- KEEP_TAMP_POLICY.monitored (R416). -/
def keepTampPolicy_monitored : Field := ⟨0x003018, 0x0, 1, 10, 5, .ro, none, 0⟩
/-- KEEP_TAMP_STATUS.active (R416). -/
def keepTampStatus_active : Field := ⟨0x00301C, 0x0, 1, 0, 5, .ro, none, 0⟩
/-- KEEP_TAMP_STATUS.latched (R416). -/
def keepTampStatus_latched : Field := ⟨0x00301C, 0x0, 1, 8, 5, .w1c, none, 0⟩
/-- KEEP_TAMP_STATUS.last_source (R416). -/
def keepTampStatus_last_source : Field := ⟨0x00301C, 0x0, 1, 16, 3, .ro, none, 0⟩
/-- KEEP_TAMP_STATUS.last_situation (R416). -/
def keepTampStatus_last_situation : Field := ⟨0x00301C, 0x0, 1, 20, 2, .ro, none, 0⟩
/-- KEEP_TAMP_CNT.alarms (R416). -/
def keepTampCnt_alarms : Field := ⟨0x003020, 0x0, 1, 0, 16, .rc, some 0xC8, 0⟩
/-- KEEP_TAMP_CNT.snuffs (R416). -/
def keepTampCnt_snuffs : Field := ⟨0x003020, 0x0, 1, 16, 16, .rc, some 0xC9, 0⟩
/-- KEEP_GCIPH_CNT_KAT.kat_runs (R416). -/
def keepGciphCntKat_kat_runs : Field := ⟨0x003024, 0x0, 1, 0, 16, .rc, some 0xCA, 0⟩
/-- KEEP_GCIPH_CNT_KAT.kat_fail (R416). -/
def keepGciphCntKat_kat_fail : Field := ⟨0x003024, 0x0, 1, 16, 16, .rc, some 0xCB, 0⟩
/-- KEEP_TMR_CFG.run (R446). -/
def keepTmrCfg_run : Field := ⟨0x004000, 0x20, 64, 0, 1, .rw, none, 0⟩
/-- KEEP_TMR_CFG.tick (R446). -/
def keepTmrCfg_tick : Field := ⟨0x004000, 0x20, 64, 1, 2, .rw, none, 0⟩
/-- KEEP_TMR_CFG.rl_unbuf (R446). -/
def keepTmrCfg_rl_unbuf : Field := ⟨0x004000, 0x20, 64, 3, 1, .rw, none, 0⟩
/-- KEEP_TMR_CFG.cap_en (R446). -/
def keepTmrCfg_cap_en : Field := ⟨0x004000, 0x20, 64, 4, 1, .rw, none, 0⟩
/-- KEEP_TMR_CFG.cap_edge (R446). -/
def keepTmrCfg_cap_edge : Field := ⟨0x004000, 0x20, 64, 5, 2, .rw, none, 0⟩
/-- KEEP_TMR_CFG.filter (R446). -/
def keepTmrCfg_filter : Field := ⟨0x004000, 0x20, 64, 7, 4, .rw, none, 0⟩
/-- KEEP_TMR_CFG.wake_edge (R446). -/
def keepTmrCfg_wake_edge : Field := ⟨0x004000, 0x20, 64, 11, 1, .rw, none, 0⟩
/-- KEEP_TMR_CFG.prescale (R446). -/
def keepTmrCfg_prescale : Field := ⟨0x004000, 0x20, 64, 12, 9, .rw, none, 1⟩
/-- KEEP_TMR_CFG.irq_en (R446). -/
def keepTmrCfg_irq_en : Field := ⟨0x004000, 0x20, 64, 21, 1, .rw, none, 0⟩
/-- KEEP_TMR_CFG.cmp0_act (R446). -/
def keepTmrCfg_cmp0_act : Field := ⟨0x004000, 0x20, 64, 22, 2, .rw, none, 0⟩
/-- KEEP_TMR_CFG.cmp1_act (R446). -/
def keepTmrCfg_cmp1_act : Field := ⟨0x004000, 0x20, 64, 24, 2, .rw, none, 0⟩
/-- KEEP_TMR_CFG.out_init (R446). -/
def keepTmrCfg_out_init : Field := ⟨0x004000, 0x20, 64, 26, 1, .rw, none, 0⟩
/-- KEEP_TMR_COUNT.count (R446). -/
def keepTmrCount_count : Field := ⟨0x004004, 0x20, 64, 0, 32, .rw, none, 0⟩
/-- KEEP_TMR_RELOAD.reload (R446). -/
def keepTmrReload_reload : Field := ⟨0x004008, 0x20, 64, 0, 32, .rw, none, 0⟩
/-- KEEP_TMR_CMP0.cmp (R446). -/
def keepTmrCmp0_cmp : Field := ⟨0x00400C, 0x20, 64, 0, 32, .rw, none, 0⟩
/-- KEEP_TMR_CMP1.cmp (R446). -/
def keepTmrCmp1_cmp : Field := ⟨0x004010, 0x20, 64, 0, 32, .rw, none, 0⟩
/-- KEEP_TMR_CAP.cap (R446). -/
def keepTmrCap_cap : Field := ⟨0x004014, 0x20, 64, 0, 32, .ro, none, 0⟩
/-- KEEP_TMR_STAT.cmp0_hit (R446). -/
def keepTmrStat_cmp0_hit : Field := ⟨0x004018, 0x20, 64, 0, 1, .w1c, none, 0⟩
/-- KEEP_TMR_STAT.cmp1_hit (R446). -/
def keepTmrStat_cmp1_hit : Field := ⟨0x004018, 0x20, 64, 1, 1, .w1c, none, 0⟩
/-- KEEP_TMR_STAT.wrap (R446). -/
def keepTmrStat_wrap : Field := ⟨0x004018, 0x20, 64, 2, 1, .w1c, none, 0⟩
/-- KEEP_TMR_STAT.cap_hit (R446). -/
def keepTmrStat_cap_hit : Field := ⟨0x004018, 0x20, 64, 3, 1, .w1c, none, 0⟩
/-- KEEP_TMR_STAT.cap_ovf (R446). -/
def keepTmrStat_cap_ovf : Field := ⟨0x004018, 0x20, 64, 4, 1, .w1c, none, 0⟩
/-- KEEP_TMR_STAT.cmp_late (R446). -/
def keepTmrStat_cmp_late : Field := ⟨0x004018, 0x20, 64, 5, 1, .w1c, none, 0⟩
/-- KEEP_TMR_STAT.reload_cut (R446). -/
def keepTmrStat_reload_cut : Field := ⟨0x004018, 0x20, 64, 6, 1, .w1c, none, 0⟩
/-- KEEP_TMR_STAT.cfg_reject (R446). -/
def keepTmrStat_cfg_reject : Field := ⟨0x004018, 0x20, 64, 7, 1, .w1c, none, 0⟩
/-- KEEP_TMR_STAT.out (R446). -/
def keepTmrStat_out : Field := ⟨0x004018, 0x20, 64, 8, 1, .ro, none, 0⟩
/-- KEEP_TMR_STAT.rl_pending (R446). -/
def keepTmrStat_rl_pending : Field := ⟨0x004018, 0x20, 64, 9, 1, .ro, none, 0⟩
/-- KEEP_TMR_Q_POP.element (R446). -/
def keepTmrQPop_element : Field := ⟨0x004800, 0x20, 8, 0, 6, .rs, none, 0⟩
/-- KEEP_TMR_Q_POP.lowres (R446). -/
def keepTmrQPop_lowres : Field := ⟨0x004800, 0x20, 8, 6, 1, .rs, none, 0⟩
/-- KEEP_TMR_Q_POP.valid (R446). -/
def keepTmrQPop_valid : Field := ⟨0x004800, 0x20, 8, 7, 1, .rs, none, 0⟩
/-- KEEP_TMR_Q_VAL.value (R446). -/
def keepTmrQVal_value : Field := ⟨0x004804, 0x20, 8, 0, 32, .ro, none, 0⟩
/-- KEEP_TMR_Q_TLO.time_lo (R446). -/
def keepTmrQTlo_time_lo : Field := ⟨0x004808, 0x20, 8, 0, 32, .ro, none, 0⟩
/-- KEEP_TMR_Q_THI.time_hi (R446). -/
def keepTmrQThi_time_hi : Field := ⟨0x00480C, 0x20, 8, 0, 32, .ro, none, 0⟩
/-- KEEP_TMR_BLK_STAT.q_fill (R446). -/
def keepTmrBlkStat_q_fill : Field := ⟨0x004810, 0x20, 8, 0, 4, .ro, none, 0⟩
/-- KEEP_TMR_BLK_STAT.rd_running (R446). -/
def keepTmrBlkStat_rd_running : Field := ⟨0x004810, 0x20, 8, 8, 1, .w1c, none, 0⟩
/-- KEEP_TMR_BLK_STAT.wr_running (R446). -/
def keepTmrBlkStat_wr_running : Field := ⟨0x004810, 0x20, 8, 9, 1, .w1c, none, 0⟩
/-- KEEP_TMR_BLK_STAT.wide_reject (R446). -/
def keepTmrBlkStat_wide_reject : Field := ⟨0x004810, 0x20, 8, 10, 1, .w1c, none, 0⟩
/-- KEEP_TMR_WIDE_CFG.run (R446). -/
def keepTmrWideCfg_run : Field := ⟨0x004814, 0x20, 8, 0, 1, .rw, none, 0⟩
/-- KEEP_TMR_WIDE_CFG.chain (R446). -/
def keepTmrWideCfg_chain : Field := ⟨0x004814, 0x20, 8, 1, 1, .rw, none, 0⟩
/-- KEEP_TMR_WIDE_CFG.tick (R446). -/
def keepTmrWideCfg_tick : Field := ⟨0x004814, 0x20, 8, 2, 2, .rw, none, 0⟩
/-- KEEP_TMR_WIDE_CFG.chain_elem (R446). -/
def keepTmrWideCfg_chain_elem : Field := ⟨0x004814, 0x20, 8, 4, 3, .rw, none, 0⟩
/-- KEEP_TMR_WIDE_LO.wide_lo (R446). -/
def keepTmrWideLo_wide_lo : Field := ⟨0x004818, 0x20, 8, 0, 32, .rw, none, 0⟩
/-- KEEP_TMR_WIDE_HI.wide_hi (R446). -/
def keepTmrWideHi_wide_hi : Field := ⟨0x00481C, 0x20, 8, 0, 32, .rw, none, 0⟩
/-- KEEP_TMR_ROUTE_CAP.element0 (R446). -/
def keepTmrRouteCap_element0 : Field := ⟨0x004900, 0x4, 2, 0, 6, .rw, none, 0⟩
/-- KEEP_TMR_ROUTE_CAP.en0 (R446). -/
def keepTmrRouteCap_en0 : Field := ⟨0x004900, 0x4, 2, 7, 1, .rw, none, 0⟩
/-- KEEP_TMR_ROUTE_CAP.element1 (R446). -/
def keepTmrRouteCap_element1 : Field := ⟨0x004900, 0x4, 2, 8, 6, .rw, none, 0⟩
/-- KEEP_TMR_ROUTE_CAP.en1 (R446). -/
def keepTmrRouteCap_en1 : Field := ⟨0x004900, 0x4, 2, 15, 1, .rw, none, 0⟩
/-- KEEP_TMR_ROUTE_CAP.element2 (R446). -/
def keepTmrRouteCap_element2 : Field := ⟨0x004900, 0x4, 2, 16, 6, .rw, none, 0⟩
/-- KEEP_TMR_ROUTE_CAP.en2 (R446). -/
def keepTmrRouteCap_en2 : Field := ⟨0x004900, 0x4, 2, 23, 1, .rw, none, 0⟩
/-- KEEP_TMR_ROUTE_CAP.element3 (R446). -/
def keepTmrRouteCap_element3 : Field := ⟨0x004900, 0x4, 2, 24, 6, .rw, none, 0⟩
/-- KEEP_TMR_ROUTE_CAP.en3 (R446). -/
def keepTmrRouteCap_en3 : Field := ⟨0x004900, 0x4, 2, 31, 1, .rw, none, 0⟩
/-- KEEP_TMR_ROUTE_CMP.element0 (R446). -/
def keepTmrRouteCmp_element0 : Field := ⟨0x004908, 0x4, 2, 0, 6, .rw, none, 0⟩
/-- KEEP_TMR_ROUTE_CMP.en0 (R446). -/
def keepTmrRouteCmp_en0 : Field := ⟨0x004908, 0x4, 2, 7, 1, .rw, none, 0⟩
/-- KEEP_TMR_ROUTE_CMP.element1 (R446). -/
def keepTmrRouteCmp_element1 : Field := ⟨0x004908, 0x4, 2, 8, 6, .rw, none, 0⟩
/-- KEEP_TMR_ROUTE_CMP.en1 (R446). -/
def keepTmrRouteCmp_en1 : Field := ⟨0x004908, 0x4, 2, 15, 1, .rw, none, 0⟩
/-- KEEP_TMR_ROUTE_CMP.element2 (R446). -/
def keepTmrRouteCmp_element2 : Field := ⟨0x004908, 0x4, 2, 16, 6, .rw, none, 0⟩
/-- KEEP_TMR_ROUTE_CMP.en2 (R446). -/
def keepTmrRouteCmp_en2 : Field := ⟨0x004908, 0x4, 2, 23, 1, .rw, none, 0⟩
/-- KEEP_TMR_ROUTE_CMP.element3 (R446). -/
def keepTmrRouteCmp_element3 : Field := ⟨0x004908, 0x4, 2, 24, 6, .rw, none, 0⟩
/-- KEEP_TMR_ROUTE_CMP.en3 (R446). -/
def keepTmrRouteCmp_en3 : Field := ⟨0x004908, 0x4, 2, 31, 1, .rw, none, 0⟩
/-- KEEP_TMR_PEND.pend (R446). -/
def keepTmrPend_pend : Field := ⟨0x004910, 0x4, 2, 0, 32, .ro, none, 0⟩
/-- KEEP_TT_CFG.arm (R446). -/
def keepTtCfg_arm : Field := ⟨0x004A00, 0x10, 16, 0, 1, .rw, none, 0⟩
/-- KEEP_TT_CFG.action (R446). -/
def keepTtCfg_action : Field := ⟨0x004A00, 0x10, 16, 1, 3, .rw, none, 0⟩
/-- KEEP_TT_CFG.target (R446). -/
def keepTtCfg_target : Field := ⟨0x004A00, 0x10, 16, 4, 6, .rw, none, 0⟩
/-- KEEP_TT_CFG.reject (R446). -/
def keepTtCfg_reject : Field := ⟨0x004A00, 0x10, 16, 15, 1, .ro, none, 0⟩
/-- KEEP_TT_CFG.count (R446). -/
def keepTtCfg_count : Field := ⟨0x004A00, 0x10, 16, 16, 16, .rw, none, 0⟩
/-- KEEP_TT_TIME_LO.time_lo (R446). -/
def keepTtTimeLo_time_lo : Field := ⟨0x004A04, 0x10, 16, 0, 32, .rw, none, 0⟩
/-- KEEP_TT_TIME_HI.time_hi (R446). -/
def keepTtTimeHi_time_hi : Field := ⟨0x004A08, 0x10, 16, 0, 32, .rw, none, 0⟩
/-- KEEP_TT_PERIOD.period (R446). -/
def keepTtPeriod_period : Field := ⟨0x004A0C, 0x10, 16, 0, 32, .rw, none, 0⟩
/-- KEEP_TT_STAT.late (R446). -/
def keepTtStat_late : Field := ⟨0x004B00, 0x0, 1, 0, 16, .w1c, none, 0⟩
/-- KEEP_TT_STAT.fired (R446). -/
def keepTtStat_fired : Field := ⟨0x004B00, 0x0, 1, 16, 16, .w1c, none, 0⟩
/-- KEEP_TT_CYCLE_LO.asn_lo (R446). -/
def keepTtCycleLo_asn_lo : Field := ⟨0x004B04, 0x0, 1, 0, 32, .ro, none, 0⟩
/-- KEEP_TT_CYCLE_HI.asn_hi (R446). -/
def keepTtCycleHi_asn_hi : Field := ⟨0x004B08, 0x0, 1, 0, 8, .ro, none, 0⟩
/-- KEEP_TT_CYCLE_HI.into_slot_us (R446). -/
def keepTtCycleHi_into_slot_us : Field := ⟨0x004B08, 0x0, 1, 8, 24, .ro, none, 0⟩
/-- KEEP_TIME_LO.time_lo (R446). -/
def keepTimeLo_time_lo : Field := ⟨0x004C00, 0x0, 1, 0, 32, .ro, none, 0⟩
/-- KEEP_TIME_HI.time_hi (R446). -/
def keepTimeHi_time_hi : Field := ⟨0x004C04, 0x0, 1, 0, 32, .ro, none, 0⟩
/-- KEEP_TIME_STATE.state (R446). -/
def keepTimeState_state : Field := ⟨0x004C08, 0x0, 1, 0, 3, .ro, none, 0⟩
/-- KEEP_TIME_STATE.source_ok (R446). -/
def keepTimeState_source_ok : Field := ⟨0x004C08, 0x0, 1, 3, 1, .ro, none, 0⟩
/-- KEEP_TIME_STATE.source (R446). -/
def keepTimeState_source : Field := ⟨0x004C08, 0x0, 1, 4, 2, .ro, none, 0⟩
/-- KEEP_TIME_STATE.glide (R446). -/
def keepTimeState_glide : Field := ⟨0x004C08, 0x0, 1, 6, 1, .ro, none, 0⟩
/-- KEEP_TIME_STATE.ptp_port (R446). -/
def keepTimeState_ptp_port : Field := ⟨0x004C08, 0x0, 1, 7, 1, .ro, none, 0⟩
/-- KEEP_TIME_STATE.agree (R446). -/
def keepTimeState_agree : Field := ⟨0x004C08, 0x0, 1, 8, 4, .ro, none, 0⟩
/-- KEEP_TIME_RATE.rate_adj (R446). -/
def keepTimeRate_rate_adj : Field := ⟨0x004C0C, 0x0, 1, 0, 32, .ro, none, 0⟩
/-- KEEP_TIME_OFFSET.last_offset (R446). -/
def keepTimeOffset_last_offset : Field := ⟨0x004C10, 0x0, 1, 0, 32, .ro, none, 0⟩
/-- KEEP_TIME_CFG.jump_ns (R446). -/
def keepTimeCfg_jump_ns : Field := ⟨0x004C14, 0x0, 1, 0, 16, .ro, none, 0⟩
/-- KEEP_TIME_CFG.servo_tc_s (R446). -/
def keepTimeCfg_servo_tc_s : Field := ⟨0x004C14, 0x0, 1, 16, 6, .ro, none, 0⟩
/-- KEEP_TIME_CFG.policy (R446). -/
def keepTimeCfg_policy : Field := ⟨0x004C14, 0x0, 1, 22, 2, .ro, none, 0⟩
/-- KEEP_TIME_PPSIN_LO.ppsin_lo (R446). -/
def keepTimePpsinLo_ppsin_lo : Field := ⟨0x004C18, 0x0, 1, 0, 32, .ro, none, 0⟩
/-- KEEP_TIME_PPSIN_HI.ppsin_hi (R446). -/
def keepTimePpsinHi_ppsin_hi : Field := ⟨0x004C1C, 0x0, 1, 0, 32, .ro, none, 0⟩
/-- KEEP_TIME_PPS_CFG.pps_width_us (R446). -/
def keepTimePpsCfg_pps_width_us : Field := ⟨0x004C20, 0x0, 1, 0, 16, .rw, none, 100⟩
/-- KEEP_TIME_PPS_CFG.pps_pol (R446). -/
def keepTimePpsCfg_pps_pol : Field := ⟨0x004C20, 0x0, 1, 16, 1, .rw, none, 0⟩
/-- KEEP_TIME_PPS_CFG.ppsin_seq (R446). -/
def keepTimePpsCfg_ppsin_seq : Field := ⟨0x004C20, 0x0, 1, 24, 8, .ro, none, 0⟩
/-- KEEP_TIME_CNT_SYNC.syncs (R446). -/
def keepTimeCntSync_syncs : Field := ⟨0x004C30, 0x0, 1, 0, 32, .rc, some 0xD8, 0⟩
/-- KEEP_TIME_CNT_EVT.refused (R446). -/
def keepTimeCntEvt_refused : Field := ⟨0x004C34, 0x0, 1, 0, 16, .rc, some 0xD9, 0⟩
/-- KEEP_TIME_CNT_EVT.steps (R446). -/
def keepTimeCntEvt_steps : Field := ⟨0x004C34, 0x0, 1, 16, 16, .rc, some 0xDA, 0⟩
/-- KEEP_TIME_CNT_FREE.losses (R446). -/
def keepTimeCntFree_losses : Field := ⟨0x004C38, 0x0, 1, 0, 16, .rc, some 0xDB, 0⟩
/-- KEEP_TIME_CNT_FREE.changes (R446). -/
def keepTimeCntFree_changes : Field := ⟨0x004C38, 0x0, 1, 16, 16, .rc, some 0xDC, 0⟩
/-- KEEP_AADC_RES.value (R446). -/
def keepAadcRes_value : Field := ⟨0x004D00, 0x10, 4, 0, 12, .ro, none, 0⟩
/-- KEEP_AADC_RES.seq (R446). -/
def keepAadcRes_seq : Field := ⟨0x004D00, 0x10, 4, 16, 16, .ro, none, 0⟩
/-- KEEP_AADC_TLO.time_lo (R446). -/
def keepAadcTlo_time_lo : Field := ⟨0x004D04, 0x10, 4, 0, 32, .ro, none, 0⟩
/-- KEEP_AADC_THI.time_hi (R446). -/
def keepAadcThi_time_hi : Field := ⟨0x004D08, 0x10, 4, 0, 32, .ro, none, 0⟩
/-- KEEP_AADC_CNT.conversions (R446). -/
def keepAadcCnt_conversions : Field := ⟨0x004D40, 0x0, 1, 0, 16, .rc, some 0xDD, 0⟩
/-- KEEP_AADC_CNT.aadc_drop (R446). -/
def keepAadcCnt_aadc_drop : Field := ⟨0x004D40, 0x0, 1, 16, 16, .rc, some 0xDE, 0⟩
/-- KEEP_GPIO_OE.oe (R552). -/
def keepGpioOe_oe : Field := ⟨0x004D80, 0x0, 1, 0, 24, .rw, none, 0⟩
/-- KEEP_GPIO_OUT.out (R552). -/
def keepGpioOut_out : Field := ⟨0x004D84, 0x0, 1, 0, 24, .rw, none, 0⟩
/-- KEEP_GPIO_SET.set (R552). -/
def keepGpioSet_set : Field := ⟨0x004D88, 0x0, 1, 0, 24, .wo, none, 0⟩
/-- KEEP_GPIO_CLR.clr (R552). -/
def keepGpioClr_clr : Field := ⟨0x004D8C, 0x0, 1, 0, 24, .wo, none, 0⟩
/-- KEEP_GPIO_IN.in (R552). -/
def keepGpioIn_in : Field := ⟨0x004D90, 0x0, 1, 0, 24, .ro, none, 0⟩
/-- KEEP_GPIO_PULL.pull_dn (R552). -/
def keepGpioPull_pull_dn : Field := ⟨0x004D94, 0x0, 1, 0, 24, .rw, none, 0⟩
/-- KEEP_GPIO_WAKE.wake_en (R552). -/
def keepGpioWake_wake_en : Field := ⟨0x004D98, 0x0, 1, 0, 24, .rw, none, 0⟩
/-- KEEP_GPIO_EDGE.edge (R552). -/
def keepGpioEdge_edge : Field := ⟨0x004D9C, 0x0, 1, 0, 24, .w1c, none, 0⟩
/-- KEEP_TORCH_STATUS.role (R505). -/
def keepTorchStatus_role : Field := ⟨0x005000, 0x0, 1, 0, 2, .ro, none, 0⟩
/-- KEEP_TORCH_STATUS.mirror (R505). -/
def keepTorchStatus_mirror : Field := ⟨0x005000, 0x0, 1, 2, 2, .ro, none, 0⟩
/-- KEEP_TORCH_STATUS.yield (R505). -/
def keepTorchStatus_yield : Field := ⟨0x005000, 0x0, 1, 4, 1, .ro, none, 0⟩
/-- KEEP_TORCH_STATUS.emitter_gate (R505). -/
def keepTorchStatus_emitter_gate : Field := ⟨0x005000, 0x0, 1, 5, 1, .ro, none, 0⟩
/-- KEEP_TORCH_STATUS.peer_seen (R505). -/
def keepTorchStatus_peer_seen : Field := ⟨0x005000, 0x0, 1, 6, 1, .ro, none, 0⟩
/-- KEEP_TORCH_STATUS.pin_fault (R505). -/
def keepTorchStatus_pin_fault : Field := ⟨0x005000, 0x0, 1, 7, 1, .ro, none, 0⟩
/-- KEEP_TORCH_STATUS.unit_id (R505). -/
def keepTorchStatus_unit_id : Field := ⟨0x005000, 0x0, 1, 8, 8, .ro, none, 0⟩
/-- KEEP_TORCH_STATUS.winner (R505). -/
def keepTorchStatus_winner : Field := ⟨0x005000, 0x0, 1, 16, 16, .ro, none, 0⟩
/-- KEEP_TORCH_CLAIM.own_claim (R505). -/
def keepTorchClaim_own_claim : Field := ⟨0x005004, 0x0, 1, 0, 16, .ro, none, 0⟩
/-- KEEP_TORCH_CLAIM.claim_priority (R505). -/
def keepTorchClaim_claim_priority : Field := ⟨0x005004, 0x0, 1, 16, 8, .ro, none, 0⟩
/-- KEEP_TORCH_CLAIM.hold_period_ms (R505). -/
def keepTorchClaim_hold_period_ms : Field := ⟨0x005004, 0x0, 1, 24, 5, .ro, none, 0⟩
/-- KEEP_TORCH_CNT.takeovers (R505). -/
def keepTorchCnt_takeovers : Field := ⟨0x005008, 0x0, 1, 0, 16, .rc, some 0xF0, 0⟩
/-- KEEP_TORCH_CNT.losses (R505). -/
def keepTorchCnt_losses : Field := ⟨0x005008, 0x0, 1, 16, 16, .rc, some 0xF1, 0⟩
/-- KEEP_TORCH_CNT_MIRROR.lapses (R505). -/
def keepTorchCntMirror_lapses : Field := ⟨0x00500C, 0x0, 1, 0, 16, .rc, some 0xF2, 0⟩
/-- KEEP_TORCH_CNT_MIRROR.divergences (R505). -/
def keepTorchCntMirror_divergences : Field := ⟨0x00500C, 0x0, 1, 16, 16, .rc, some 0xF3, 0⟩
/-- KEEP_TORCH_CNT_ROUND.rounds (R505). -/
def keepTorchCntRound_rounds : Field := ⟨0x005010, 0x0, 1, 0, 32, .rc, some 0xF4, 0⟩
/-- KEEP_TORCH_LAST.switch_us (R505). -/
def keepTorchLast_switch_us : Field := ⟨0x005014, 0x0, 1, 0, 32, .ro, none, 0⟩
/-- KEEP_TORCH_GATE.gpio_gate (R505). -/
def keepTorchGate_gpio_gate : Field := ⟨0x005018, 0x0, 1, 0, 24, .rw, none, 0⟩
/-- KEEP_TORCH_GATE.tcmp_gate (R505). -/
def keepTorchGate_tcmp_gate : Field := ⟨0x005018, 0x0, 1, 24, 8, .rw, none, 0⟩
/-- KEEP_TORCH_PPS.pps_gate (R505). -/
def keepTorchPps_pps_gate : Field := ⟨0x00501C, 0x0, 1, 0, 1, .rw, none, 0⟩
/-- LINK_SEQ_CFG.ack_turnaround_us (R264). -/
def linkSeqCfg_ack_turnaround_us : Field := ⟨0x400000, 0x0, 1, 0, 13, .ro, none, 0⟩
/-- LINK_SEQ_CFG.ack_guard_10us (R264). -/
def linkSeqCfg_ack_guard_10us : Field := ⟨0x400000, 0x0, 1, 16, 8, .ro, none, 0⟩
/-- LINK_SEQ_CFG.admit_unknown (R264). -/
def linkSeqCfg_admit_unknown : Field := ⟨0x400000, 0x0, 1, 24, 1, .ro, none, 0⟩
/-- LINK_SEQ_CFG.configured (R264). -/
def linkSeqCfg_configured : Field := ⟨0x400000, 0x0, 1, 31, 1, .ro, none, 0⟩
/-- LINK_SEQ_AGE.max_age_ms (R264). -/
def linkSeqAge_max_age_ms : Field := ⟨0x400004, 0x0, 1, 0, 16, .ro, none, 0⟩
/-- LINK_SEQ_AGE.dup_window_ms (R264). -/
def linkSeqAge_dup_window_ms : Field := ⟨0x400004, 0x0, 1, 16, 16, .ro, none, 0⟩
/-- LINK_SEQ_EXT_LO.ext_lo (R264). -/
def linkSeqExtLo_ext_lo : Field := ⟨0x400008, 0x0, 1, 0, 32, .ro, none, 0⟩
/-- LINK_SEQ_EXT_HI.ext_hi (R264). -/
def linkSeqExtHi_ext_hi : Field := ⟨0x40000C, 0x0, 1, 0, 32, .ro, none, 0⟩
/-- LINK_SEQ_PAN.pan_id (R264). -/
def linkSeqPan_pan_id : Field := ⟨0x400010, 0x0, 1, 0, 16, .ro, none, 0⟩
/-- LINK_SEQ_PAN.short_addr (R264). -/
def linkSeqPan_short_addr : Field := ⟨0x400010, 0x0, 1, 16, 16, .ro, none, 0⟩
/-- LINK_SEQ_STATUS.tx_stopped (R264). -/
def linkSeqStatus_tx_stopped : Field := ⟨0x400014, 0x0, 1, 0, 1, .ro, none, 0⟩
/-- LINK_SEQ_STATUS.ack_stopped (R264). -/
def linkSeqStatus_ack_stopped : Field := ⟨0x400014, 0x0, 1, 1, 1, .ro, none, 0⟩
/-- LINK_SEQ_STATUS.parked_total (R264). -/
def linkSeqStatus_parked_total : Field := ⟨0x400014, 0x0, 1, 8, 9, .ro, none, 0⟩
/-- LINK_SEQ_STATUS.last_ack_miss (R264). -/
def linkSeqStatus_last_ack_miss : Field := ⟨0x400014, 0x0, 1, 20, 4, .ro, none, 0⟩
/-- LINK_SEQ_CNT_RX_ACCEPT.rx_accepted (R264). -/
def linkSeqCntRxAccept_rx_accepted : Field := ⟨0x400020, 0x0, 1, 0, 32, .rc, some 0x58, 0⟩
/-- LINK_SEQ_CNT_FILTER.not_for_us (R264). -/
def linkSeqCntFilter_not_for_us : Field := ⟨0x400024, 0x0, 1, 0, 16, .rc, some 0x59, 0⟩
/-- LINK_SEQ_CNT_FILTER.ftype_unsupported (R264). -/
def linkSeqCntFilter_ftype_unsupported : Field := ⟨0x400024, 0x0, 1, 16, 16, .rc, some 0x5A, 0⟩
/-- LINK_SEQ_CNT_SRC.unknown_src (R264). -/
def linkSeqCntSrc_unknown_src : Field := ⟨0x400028, 0x0, 1, 0, 16, .rc, some 0x5B, 0⟩
/-- LINK_SEQ_CNT_SRC.sec_unsupported (R264). -/
def linkSeqCntSrc_sec_unsupported : Field := ⟨0x400028, 0x0, 1, 16, 16, .rc, some 0x5C, 0⟩
/-- LINK_SEQ_CNT_SEC.key_unknown (R264). -/
def linkSeqCntSec_key_unknown : Field := ⟨0x40002C, 0x0, 1, 0, 16, .rc, some 0x5D, 0⟩
/-- LINK_SEQ_CNT_SEC.mic_fail (R264). -/
def linkSeqCntSec_mic_fail : Field := ⟨0x40002C, 0x0, 1, 16, 16, .rc, some 0x5E, 0⟩
/-- LINK_SEQ_CNT_REPLAY.replay (R264). -/
def linkSeqCntReplay_replay : Field := ⟨0x400030, 0x0, 1, 0, 16, .rc, some 0x5F, 0⟩
/-- LINK_SEQ_CNT_REPLAY.dup_dsn (R264). -/
def linkSeqCntReplay_dup_dsn : Field := ⟨0x400030, 0x0, 1, 16, 16, .rc, some 0x60, 0⟩
/-- LINK_SEQ_CNT_LATE.late_fault (R264). -/
def linkSeqCntLate_late_fault : Field := ⟨0x400034, 0x0, 1, 0, 16, .rc, some 0x61, 0⟩
/-- LINK_SEQ_CNT_LATE.late_expired (R264). -/
def linkSeqCntLate_late_expired : Field := ⟨0x400034, 0x0, 1, 16, 16, .rc, some 0x62, 0⟩
/-- LINK_SEQ_CNT_ACK.ack_sent (R264). -/
def linkSeqCntAck_ack_sent : Field := ⟨0x400038, 0x0, 1, 0, 32, .rc, some 0x63, 0⟩
/-- LINK_SEQ_CNT_ACK_MISS.ack_not_sent (R264). -/
def linkSeqCntAckMiss_ack_not_sent : Field := ⟨0x40003C, 0x0, 1, 0, 16, .rc, some 0x64, 0⟩
/-- LINK_SEQ_CNT_ACK_MISS.cipher_late (R264). -/
def linkSeqCntAckMiss_cipher_late : Field := ⟨0x40003C, 0x0, 1, 16, 16, .rc, some 0x65, 0⟩
/-- LINK_SEQ_CNT_TX.tx_attempts (R264). -/
def linkSeqCntTx_tx_attempts : Field := ⟨0x400040, 0x0, 1, 0, 32, .rc, some 0x66, 0⟩
/-- LINK_SEQ_CNT_TX_OK.tx_ok (R264). -/
def linkSeqCntTxOk_tx_ok : Field := ⟨0x400044, 0x0, 1, 0, 32, .rc, some 0x67, 0⟩
/-- LINK_SEQ_CNT_TX_FAIL.no_ack (R264). -/
def linkSeqCntTxFail_no_ack : Field := ⟨0x400048, 0x0, 1, 0, 16, .rc, some 0x68, 0⟩
/-- LINK_SEQ_CNT_TX_FAIL.tx_late (R264). -/
def linkSeqCntTxFail_tx_late : Field := ⟨0x400048, 0x0, 1, 16, 16, .rc, some 0x69, 0⟩
/-- LINK_SEQ_CNT_TX_SKIP.hold_skip (R264). -/
def linkSeqCntTxSkip_hold_skip : Field := ⟨0x40004C, 0x0, 1, 0, 16, .rc, some 0x6A, 0⟩
/-- LINK_SEQ_CNT_TX_SKIP.exhausted (R264). -/
def linkSeqCntTxSkip_exhausted : Field := ⟨0x40004C, 0x0, 1, 16, 16, .rc, some 0x6B, 0⟩
/-- LINK_SEQ_CNT_REFUSE.uplink_refused (R264). -/
def linkSeqCntRefuse_uplink_refused : Field := ⟨0x400050, 0x0, 1, 0, 16, .rc, some 0x6C, 0⟩
/-- LINK_SEQ_CNT_REFUSE.parked_full (R264). -/
def linkSeqCntRefuse_parked_full : Field := ⟨0x400050, 0x0, 1, 16, 16, .rc, some 0x6D, 0⟩
/-- LINK_FTQ_STAT.free_words (R264). -/
def linkFtqStat_free_words : Field := ⟨0x400200, 0x4, 64, 0, 12, .ro, none, 0⟩
/-- LINK_FTQ_STAT.parked (R264). -/
def linkFtqStat_parked : Field := ⟨0x400200, 0x4, 64, 12, 3, .ro, none, 0⟩
/-- LINK_FTQ_STAT.held_words (R264). -/
def linkFtqStat_held_words : Field := ⟨0x400200, 0x4, 64, 16, 12, .ro, none, 0⟩
/-- LINK_SLM_STATUS.running (R301). -/
def linkSlmStatus_running : Field := ⟨0x401000, 0x0, 1, 0, 1, .ro, none, 0⟩
/-- LINK_SLM_STATUS.source_ok (R301). -/
def linkSlmStatus_source_ok : Field := ⟨0x401000, 0x0, 1, 1, 1, .ro, none, 0⟩
/-- LINK_SLM_STATUS.follower (R301). -/
def linkSlmStatus_follower : Field := ⟨0x401000, 0x0, 1, 2, 1, .ro, none, 0⟩
/-- LINK_SLM_STATUS.auto_rescan (R301). -/
def linkSlmStatus_auto_rescan : Field := ⟨0x401000, 0x0, 1, 3, 1, .ro, none, 0⟩
/-- LINK_SLM_STATUS.sync_state (R301). -/
def linkSlmStatus_sync_state : Field := ⟨0x401000, 0x0, 1, 4, 2, .ro, none, 0⟩
/-- LINK_SLM_STATUS.missed_eb (R301). -/
def linkSlmStatus_missed_eb : Field := ⟨0x401000, 0x0, 1, 8, 8, .ro, none, 0⟩
/-- LINK_SLM_STATUS.u_self_10us (R301). -/
def linkSlmStatus_u_self_10us : Field := ⟨0x401000, 0x0, 1, 16, 16, .ro, none, 0⟩
/-- LINK_SLM_ASN_LO.asn_lo (R301). -/
def linkSlmAsnLo_asn_lo : Field := ⟨0x401004, 0x0, 1, 0, 32, .ro, none, 0⟩
/-- LINK_SLM_ASN_HI.asn_hi (R301). -/
def linkSlmAsnHi_asn_hi : Field := ⟨0x401008, 0x0, 1, 0, 8, .ro, none, 0⟩
/-- LINK_SLM_SLOT.slot_len_10us (R301). -/
def linkSlmSlot_slot_len_10us : Field := ⟨0x40100C, 0x0, 1, 0, 16, .ro, none, 0⟩
/-- LINK_SLM_SLOT.sf_running (R301). -/
def linkSlmSlot_sf_running : Field := ⟨0x40100C, 0x0, 1, 24, 8, .ro, none, 0⟩
/-- LINK_SLM_SF.length (R301). -/
def linkSlmSf_length : Field := ⟨0x401020, 0x4, 8, 0, 16, .ro, none, 0⟩
/-- LINK_SLM_SF.template (R301). -/
def linkSlmSf_template : Field := ⟨0x401020, 0x4, 8, 16, 3, .ro, none, 0⟩
/-- LINK_SLM_SF.hop (R301). -/
def linkSlmSf_hop : Field := ⟨0x401020, 0x4, 8, 19, 3, .ro, none, 0⟩
/-- LINK_SLM_SF.pool (R301). -/
def linkSlmSf_pool : Field := ⟨0x401020, 0x4, 8, 22, 4, .ro, none, 0⟩
/-- LINK_SLM_SF.enabled (R301). -/
def linkSlmSf_enabled : Field := ⟨0x401020, 0x4, 8, 26, 1, .ro, none, 0⟩
/-- LINK_SLM_SF.autonomous (R301). -/
def linkSlmSf_autonomous : Field := ⟨0x401020, 0x4, 8, 27, 1, .ro, none, 0⟩
/-- LINK_SLM_SF.advertise (R301). -/
def linkSlmSf_advertise : Field := ⟨0x401020, 0x4, 8, 28, 1, .ro, none, 0⟩
/-- LINK_SLM_CELLS.installed (R301). -/
def linkSlmCells_installed : Field := ⟨0x401040, 0x0, 1, 0, 19, .ro, none, 0⟩
/-- LINK_SLM_GAP.start_ms (R301). -/
def linkSlmGap_start_ms : Field := ⟨0x401050, 0x4, 3, 0, 16, .ro, none, 65535⟩
/-- LINK_SLM_GAP.len_100us (R301). -/
def linkSlmGap_len_100us : Field := ⟨0x401050, 0x4, 3, 16, 16, .ro, none, 0⟩
/-- LINK_SLM_NBR_DESYNC.desync_now (R301). -/
def linkSlmNbrDesync_desync_now : Field := ⟨0x401060, 0x0, 1, 0, 17, .ro, none, 0⟩
/-- LINK_SLM_NBR_LOST.lost_phase_now (R301). -/
def linkSlmNbrLost_lost_phase_now : Field := ⟨0x401064, 0x0, 1, 0, 17, .ro, none, 0⟩
/-- LINK_SLM_CNT_FIT.fit_skip (R301). -/
def linkSlmCntFit_fit_skip : Field := ⟨0x401080, 0x0, 1, 0, 16, .rc, some 0x70, 0⟩
/-- LINK_SLM_CNT_FIT.oversize (R301). -/
def linkSlmCntFit_oversize : Field := ⟨0x401080, 0x0, 1, 16, 16, .rc, some 0x71, 0⟩
/-- LINK_SLM_CNT_UNHEARD.rx_unheard (R301). -/
def linkSlmCntUnheard_rx_unheard : Field := ⟨0x401084, 0x0, 1, 0, 16, .rc, some 0x72, 0⟩
/-- LINK_SLM_CNT_UNHEARD.tx_unreachable (R301). -/
def linkSlmCntUnheard_tx_unreachable : Field := ⟨0x401084, 0x0, 1, 16, 16, .rc, some 0x73, 0⟩
/-- LINK_SLM_CNT_WITHDRAW.rx_withdrawn (R301). -/
def linkSlmCntWithdraw_rx_withdrawn : Field := ⟨0x401088, 0x0, 1, 0, 16, .rc, some 0x74, 0⟩
/-- LINK_SLM_CNT_WITHDRAW.blank_conflict (R301). -/
def linkSlmCntWithdraw_blank_conflict : Field := ⟨0x401088, 0x0, 1, 16, 16, .rc, some 0x75, 0⟩
/-- LINK_SLM_CNT_EMITTER.emitter_short (R301). -/
def linkSlmCntEmitter_emitter_short : Field := ⟨0x40108C, 0x0, 1, 0, 16, .rc, some 0x76, 0⟩
/-- LINK_SLM_CNT_EMITTER.desync_skip (R301). -/
def linkSlmCntEmitter_desync_skip : Field := ⟨0x40108C, 0x0, 1, 16, 16, .rc, some 0x77, 0⟩
/-- LINK_SLM_CNT_LOOKAHEAD.berth_requests (R301). -/
def linkSlmCntLookahead_berth_requests : Field := ⟨0x401090, 0x0, 1, 0, 32, .rc, some 0x78, 0⟩
/-- LINK_SLM_CNT_RETUNE.retunes (R301). -/
def linkSlmCntRetune_retunes : Field := ⟨0x401094, 0x0, 1, 0, 32, .rc, some 0x79, 0⟩
/-- LINK_SLM_CNT_CSL.wakeups (R301). -/
def linkSlmCntCsl_wakeups : Field := ⟨0x401098, 0x0, 1, 0, 16, .rc, some 0x7A, 0⟩
/-- LINK_SLM_CNT_CSL.full_wakeups (R301). -/
def linkSlmCntCsl_full_wakeups : Field := ⟨0x401098, 0x0, 1, 16, 16, .rc, some 0x7B, 0⟩
/-- LINK_SLM_CNT_CSL_MISS.missed_contacts (R301). -/
def linkSlmCntCslMiss_missed_contacts : Field := ⟨0x40109C, 0x0, 1, 0, 16, .rc, some 0x7C, 0⟩
/-- LINK_SLM_CNT_CSL_MISS.csl_defer (R301). -/
def linkSlmCntCslMiss_csl_defer : Field := ⟨0x40109C, 0x0, 1, 16, 16, .rc, some 0x7D, 0⟩
/-- LINK_SLM_CNT_EB.eb_sent (R301). -/
def linkSlmCntEb_eb_sent : Field := ⟨0x4010A0, 0x0, 1, 0, 16, .rc, some 0x7E, 0⟩
/-- LINK_SLM_CNT_EB.eb_missed (R301). -/
def linkSlmCntEb_eb_missed : Field := ⟨0x4010A0, 0x0, 1, 16, 16, .rc, some 0x7F, 0⟩
/-- LINK_SLM_CNT_SKIP.slots_skipped (R301). -/
def linkSlmCntSkip_slots_skipped : Field := ⟨0x4010A4, 0x0, 1, 0, 16, .rc, some 0x80, 0⟩
/-- LINK_SLM_CNT_SKIP.budget_skip (R301). -/
def linkSlmCntSkip_budget_skip : Field := ⟨0x4010A4, 0x0, 1, 16, 16, .rc, some 0x81, 0⟩
/-- LINK_STORE_CFG.free_reserve (R334). -/
def linkStoreCfg_free_reserve : Field := ⟨0x402000, 0x0, 1, 0, 14, .ro, none, 0⟩
/-- LINK_STORE_CFG.rx_persist_s (R334). -/
def linkStoreCfg_rx_persist_s : Field := ⟨0x402000, 0x0, 1, 16, 12, .ro, none, 0⟩
/-- LINK_STORE_CFG.spill_low_1k (R334). -/
def linkStoreCfg_spill_low_1k : Field := ⟨0x402000, 0x0, 1, 28, 4, .ro, none, 0⟩
/-- LINK_STORE_STATUS.records (R334). -/
def linkStoreStatus_records : Field := ⟨0x402004, 0x0, 1, 0, 18, .ro, none, 0⟩
/-- LINK_STORE_STATUS.quarantined (R334). -/
def linkStoreStatus_quarantined : Field := ⟨0x402004, 0x0, 1, 18, 14, .ro, none, 0⟩
/-- LINK_STORE_BERTHS.resident (R334). -/
def linkStoreBerths_resident : Field := ⟨0x402008, 0x0, 1, 0, 16, .ro, none, 0⟩
/-- LINK_STORE_BERTHS.free (R334). -/
def linkStoreBerths_free : Field := ⟨0x402008, 0x0, 1, 16, 16, .ro, none, 0⟩
/-- LINK_STORE_PINS.hard_pinned (R334). -/
def linkStorePins_hard_pinned : Field := ⟨0x40200C, 0x0, 1, 0, 16, .ro, none, 0⟩
/-- LINK_STORE_PINS.host_pins (R334). -/
def linkStorePins_host_pins : Field := ⟨0x40200C, 0x0, 1, 16, 11, .ro, none, 0⟩
/-- LINK_STORE_SPILL.spilled (R334). -/
def linkStoreSpill_spilled : Field := ⟨0x402010, 0x0, 1, 0, 19, .ro, none, 0⟩
/-- LINK_STORE_CNT_MISS_A.miss_a (R334). -/
def linkStoreCntMissA_miss_a : Field := ⟨0x402020, 0x0, 1, 0, 32, .rc, some 0x88, 0⟩
/-- LINK_STORE_CNT_MISS_B.miss_b (R334). -/
def linkStoreCntMissB_miss_b : Field := ⟨0x402024, 0x0, 1, 0, 32, .rc, some 0x89, 0⟩
/-- LINK_STORE_CNT_MISS_C.miss_c (R334). -/
def linkStoreCntMissC_miss_c : Field := ⟨0x402028, 0x0, 1, 0, 32, .rc, some 0x8A, 0⟩
/-- LINK_STORE_CNT_MISS_D.miss_d (R334). -/
def linkStoreCntMissD_miss_d : Field := ⟨0x40202C, 0x0, 1, 0, 32, .rc, some 0x8B, 0⟩
/-- LINK_STORE_CNT_PREEMPT.preempts (R334). -/
def linkStoreCntPreempt_preempts : Field := ⟨0x402030, 0x0, 1, 0, 32, .rc, some 0x8C, 0⟩
/-- LINK_STORE_CNT_EVICT.evictions (R334). -/
def linkStoreCntEvict_evictions : Field := ⟨0x402034, 0x0, 1, 0, 32, .rc, some 0x8D, 0⟩
/-- LINK_STORE_CNT_WRITEBACK.writebacks (R334). -/
def linkStoreCntWriteback_writebacks : Field := ⟨0x402038, 0x0, 1, 0, 32, .rc, some 0x8E, 0⟩
/-- LINK_STORE_CNT_SPILL.spills (R334). -/
def linkStoreCntSpill_spills : Field := ⟨0x40203C, 0x0, 1, 0, 32, .rc, some 0x8F, 0⟩
/-- LINK_STORE_CNT_FILL.fills (R334). -/
def linkStoreCntFill_fills : Field := ⟨0x402040, 0x0, 1, 0, 32, .rc, some 0x90, 0⟩
/-- LINK_STORE_CNT_PARK.cipher_park (R334). -/
def linkStoreCntPark_cipher_park : Field := ⟨0x402044, 0x0, 1, 0, 16, .rc, some 0x91, 0⟩
/-- LINK_STORE_CNT_PARK.slot_full (R334). -/
def linkStoreCntPark_slot_full : Field := ⟨0x402044, 0x0, 1, 16, 16, .rc, some 0x92, 0⟩
/-- LINK_STORE_CNT_SKIP.sched_skip (R334). -/
def linkStoreCntSkip_sched_skip : Field := ⟨0x402048, 0x0, 1, 0, 32, .rc, some 0x93, 0⟩
/-- LINK_STORE_CNT_ECC.corrected (R334). -/
def linkStoreCntEcc_corrected : Field := ⟨0x40204C, 0x0, 1, 0, 16, .rc, some 0x94, 0⟩
/-- LINK_STORE_CNT_ECC.poisoned (R334). -/
def linkStoreCntEcc_poisoned : Field := ⟨0x40204C, 0x0, 1, 16, 16, .rc, some 0x95, 0⟩
/-- LINK_STORE_CNT_REBUILD.rebuilds (R334). -/
def linkStoreCntRebuild_rebuilds : Field := ⟨0x402050, 0x0, 1, 0, 16, .rc, some 0x96, 0⟩
/-- LINK_STORE_CNT_REBUILD.quarantined_rx (R334). -/
def linkStoreCntRebuild_quarantined_rx : Field := ⟨0x402050, 0x0, 1, 16, 16, .rc, some 0x97, 0⟩
/-- LINK_STORE_CNT_EXHAUST.berth_exhausted (R334). -/
def linkStoreCntExhaust_berth_exhausted : Field := ⟨0x402054, 0x0, 1, 0, 16, .rc, some 0x98, 0⟩
/-- LINK_STORE_CNT_EXHAUST.promotions (R334). -/
def linkStoreCntExhaust_promotions : Field := ⟨0x402054, 0x0, 1, 16, 16, .rc, some 0x99, 0⟩
/-- LINK_CIPH_STATUS.in_service (R416). -/
def linkCiphStatus_in_service : Field := ⟨0x403000, 0x0, 1, 0, 2, .ro, none, 3⟩
/-- LINK_CIPH_STATUS.parked0 (R416). -/
def linkCiphStatus_parked0 : Field := ⟨0x403000, 0x0, 1, 4, 3, .ro, none, 0⟩
/-- LINK_CIPH_STATUS.parked1 (R416). -/
def linkCiphStatus_parked1 : Field := ⟨0x403000, 0x0, 1, 8, 3, .ro, none, 0⟩
/-- LINK_CIPH_STATUS.cache_used (R416). -/
def linkCiphStatus_cache_used : Field := ⟨0x403000, 0x0, 1, 16, 13, .ro, none, 0⟩
/-- LINK_CIPH_CNT_JOBS.jobs (R416). -/
def linkCiphCntJobs_jobs : Field := ⟨0x403004, 0x4, 2, 0, 32, .rc, some 0xCC, 0⟩
/-- LINK_CIPH_CNT_CACHE.cache_miss (R416). -/
def linkCiphCntCache_cache_miss : Field := ⟨0x40300C, 0x0, 1, 0, 32, .rc, some 0xCD, 0⟩
/-- LINK_CIPH_CNT_KAT.kat_runs (R416). -/
def linkCiphCntKat_kat_runs : Field := ⟨0x403010, 0x0, 1, 0, 16, .rc, some 0xCE, 0⟩
/-- LINK_CIPH_CNT_KAT.kat_fail (R416). -/
def linkCiphCntKat_kat_fail : Field := ⟨0x403010, 0x0, 1, 16, 16, .rc, some 0xCF, 0⟩
/-- LINK_CIPH_CNT_OVERFLOW.overflow (R416). -/
def linkCiphCntOverflow_overflow : Field := ⟨0x403014, 0x0, 1, 0, 32, .rc, some 0xD0, 0⟩
/-- LINK_CIPH_CNT_LEASE.lease_wait (R416). -/
def linkCiphCntLease_lease_wait : Field := ⟨0x403018, 0x0, 1, 0, 16, .rc, some 0xD1, 0⟩
/-- LINK_CIPH_CNT_LEASE.exhausted_keys (R416). -/
def linkCiphCntLease_exhausted_keys : Field := ⟨0x403018, 0x0, 1, 16, 16, .rc, some 0xD2, 0⟩
/-- LINK_TSQ_POP.word0 (R446). -/
def linkTsqPop_word0 : Field := ⟨0x404000, 0x0, 1, 0, 32, .rs, none, 0⟩
/-- LINK_TSQ_W.word (R446). -/
def linkTsqW_word : Field := ⟨0x404004, 0x4, 3, 0, 32, .ro, none, 0⟩
/-- LINK_TSQ_STAT.fill (R446). -/
def linkTsqStat_fill : Field := ⟨0x404010, 0x0, 1, 0, 5, .ro, none, 0⟩
/-- LINK_TSQ_OVF.ovf (R446). -/
def linkTsqOvf_ovf : Field := ⟨0x404014, 0x0, 1, 0, 32, .rc, some 0xDF, 0⟩
/-- NET_SCHED_CFG.urgent_cap_pct (R356). -/
def netSchedCfg_urgent_cap_pct : Field := ⟨0x800000, 0x0, 1, 0, 7, .ro, none, 0⟩
/-- NET_SCHED_CFG.sampler_en (R356). -/
def netSchedCfg_sampler_en : Field := ⟨0x800000, 0x0, 1, 8, 1, .ro, none, 0⟩
/-- NET_SCHED_VT_LO.vt_lo (R356). -/
def netSchedVtLo_vt_lo : Field := ⟨0x800004, 0x0, 1, 0, 32, .ro, none, 0⟩
/-- NET_SCHED_VT_HI.vt_hi (R356). -/
def netSchedVtHi_vt_hi : Field := ⟨0x800008, 0x0, 1, 0, 16, .ro, none, 0⟩
/-- NET_SCHED_STATUS.active (R356). -/
def netSchedStatus_active : Field := ⟨0x80000C, 0x0, 1, 0, 20, .ro, none, 0⟩
/-- NET_SCHED_STATUS.urgent (R356). -/
def netSchedStatus_urgent : Field := ⟨0x80000C, 0x0, 1, 20, 12, .ro, none, 0⟩
/-- NET_SCHED_CLASS.urgency_ms (R356). -/
def netSchedClass_urgency_ms : Field := ⟨0x800010, 0x4, 4, 0, 16, .ro, none, 0⟩
/-- NET_SCHED_CLASS.default_weight (R356). -/
def netSchedClass_default_weight : Field := ⟨0x800010, 0x4, 4, 16, 8, .ro, none, 0⟩
/-- NET_SCHED_CLASS.default_profile (R356). -/
def netSchedClass_default_profile : Field := ⟨0x800010, 0x4, 4, 24, 4, .ro, none, 0⟩
/-- NET_SCHED_PROF_RATE.rate (R356). -/
def netSchedProfRate_rate : Field := ⟨0x800040, 0x8, 16, 0, 20, .ro, none, 0⟩
/-- NET_SCHED_PROF_CEIL.ceiling (R356). -/
def netSchedProfCeil_ceiling : Field := ⟨0x800044, 0x8, 16, 0, 31, .ro, none, 0⟩
/-- NET_PBUF_QUOTA.reserve (R356). -/
def netPbufQuota_reserve : Field := ⟨0x8000C0, 0x4, 8, 0, 16, .ro, none, 0⟩
/-- NET_PBUF_QUOTA.limit (R356). -/
def netPbufQuota_limit : Field := ⟨0x8000C0, 0x4, 8, 16, 16, .ro, none, 0⟩
/-- NET_PBUF_USED.used (R356). -/
def netPbufUsed_used : Field := ⟨0x8000E0, 0x4, 8, 0, 16, .ro, none, 0⟩
/-- NET_PBUF_USED.peak (R356). -/
def netPbufUsed_peak : Field := ⟨0x8000E0, 0x4, 8, 16, 16, .rc, none, 0⟩
/-- NET_PBUF_FREE.free (R356). -/
def netPbufFree_free : Field := ⟨0x800100, 0x0, 1, 0, 16, .ro, none, 0⟩
/-- NET_PBUF_FREE.shared_free (R356). -/
def netPbufFree_shared_free : Field := ⟨0x800100, 0x0, 1, 16, 16, .ro, none, 0⟩
/-- NET_SCHED_CNT_OFFER.offers_taken (R356). -/
def netSchedCntOffer_offers_taken : Field := ⟨0x800110, 0x0, 1, 0, 32, .rc, some 0xA0, 0⟩
/-- NET_SCHED_CNT_URGENT.urgent_entries (R356). -/
def netSchedCntUrgent_urgent_entries : Field := ⟨0x800114, 0x0, 1, 0, 16, .rc, some 0xA1, 0⟩
/-- NET_SCHED_CNT_URGENT.urgent_capped (R356). -/
def netSchedCntUrgent_urgent_capped : Field := ⟨0x800114, 0x0, 1, 16, 16, .rc, some 0xA2, 0⟩
/-- NET_SCHED_CNT_REFUSE.refused_quota (R356). -/
def netSchedCntRefuse_refused_quota : Field := ⟨0x800118, 0x0, 1, 0, 16, .rc, some 0xA3, 0⟩
/-- NET_SCHED_CNT_REFUSE.refused_depth (R356). -/
def netSchedCntRefuse_refused_depth : Field := ⟨0x800118, 0x0, 1, 16, 16, .rc, some 0xA4, 0⟩
/-- NET_SCHED_CNT_POLICED.policed (R356). -/
def netSchedCntPoliced_policed : Field := ⟨0x80011C, 0x0, 1, 0, 32, .rc, some 0xA5, 0⟩
/-- NET_SCHED_CNT_SAMPLE.passes (R356). -/
def netSchedCntSample_passes : Field := ⟨0x800120, 0x0, 1, 0, 16, .rc, some 0xA6, 0⟩
/-- NET_SCHED_CNT_SAMPLE.sample_skipped (R356). -/
def netSchedCntSample_sample_skipped : Field := ⟨0x800120, 0x0, 1, 16, 16, .rc, some 0xA7, 0⟩
/-- NET_SCHED_POL_CFG.profile (R356). -/
def netSchedPolCfg_profile : Field := ⟨0x800200, 0x8, 64, 0, 4, .ro, none, 0⟩
/-- NET_SCHED_POL_CFG.octet_cost (R356). -/
def netSchedPolCfg_octet_cost : Field := ⟨0x800200, 0x8, 64, 8, 16, .ro, none, 0⟩
/-- NET_SCHED_POL_CNT.policed (R356). -/
def netSchedPolCnt_policed : Field := ⟨0x800204, 0x8, 64, 0, 32, .rc, some 0xA8, 0⟩
/-- NET_CORE_CNT.items (R356). -/
def netCoreCnt_items : Field := ⟨0x800400, 0x4, 8, 0, 32, .rc, some 0xA9, 0⟩
/-- NET_CORE_STATUS.retired_mask (R356). -/
def netCoreStatus_retired_mask : Field := ⟨0x800420, 0x0, 1, 0, 8, .ro, none, 0⟩
/-- NET_CORE_CNT_HOST.steered (R356). -/
def netCoreCntHost_steered : Field := ⟨0x800424, 0x0, 1, 0, 32, .rc, some 0xAA, 0⟩
/-- NET_CORE_CNT_FAIL.core_failed (R356). -/
def netCoreCntFail_core_failed : Field := ⟨0x800428, 0x0, 1, 0, 32, .rc, some 0xAB, 0⟩
/-- NET_FWD_CFG.lpm_mode (R380). -/
def netFwdCfg_lpm_mode : Field := ⟨0x801000, 0x0, 1, 0, 1, .ro, none, 0⟩
/-- NET_FWD_CFG.learn_up (R380). -/
def netFwdCfg_learn_up : Field := ⟨0x801000, 0x0, 1, 1, 1, .ro, none, 0⟩
/-- NET_FWD_CFG.learn_back (R380). -/
def netFwdCfg_learn_back : Field := ⟨0x801000, 0x0, 1, 2, 1, .ro, none, 0⟩
/-- NET_FWD_CFG.miss_drop (R380). -/
def netFwdCfg_miss_drop : Field := ⟨0x801000, 0x0, 1, 3, 1, .ro, none, 0⟩
/-- NET_FWD_CFG.miss_ring (R380). -/
def netFwdCfg_miss_ring : Field := ⟨0x801000, 0x0, 1, 4, 4, .ro, none, 0⟩
/-- NET_FWD_CFG.local_ring (R380). -/
def netFwdCfg_local_ring : Field := ⟨0x801000, 0x0, 1, 8, 4, .ro, none, 0⟩
/-- NET_FWD_CFG.age_limit (R380). -/
def netFwdCfg_age_limit : Field := ⟨0x801000, 0x0, 1, 12, 8, .ro, none, 0⟩
/-- NET_FWD_CFG.age_tick_s (R380). -/
def netFwdCfg_age_tick_s : Field := ⟨0x801000, 0x0, 1, 20, 12, .ro, none, 0⟩
/-- NET_FWD_FRAG.frag_psdu (R380). -/
def netFwdFrag_frag_psdu : Field := ⟨0x801004, 0x0, 1, 0, 11, .ro, none, 0⟩
/-- NET_FWD_FRAG.reasm_timeout_s (R380). -/
def netFwdFrag_reasm_timeout_s : Field := ⟨0x801004, 0x0, 1, 16, 6, .ro, none, 0⟩
/-- NET_FWD_SPILL.reasm_spill_ms (R380). -/
def netFwdSpill_reasm_spill_ms : Field := ⟨0x801008, 0x0, 1, 0, 16, .ro, none, 0⟩
/-- NET_FWD_SPILL.learn_bucket (R380). -/
def netFwdSpill_learn_bucket : Field := ⟨0x801008, 0x0, 1, 16, 6, .ro, none, 0⟩
/-- NET_FWD_DSCP.classes (R380). -/
def netFwdDscp_classes : Field := ⟨0x801010, 0x4, 4, 0, 32, .ro, none, 0⟩
/-- NET_FWD_ROUTES.used (R380). -/
def netFwdRoutes_used : Field := ⟨0x801020, 0x0, 1, 0, 18, .ro, none, 0⟩
/-- NET_FWD_STATIC.static (R380). -/
def netFwdStatic_static : Field := ⟨0x801024, 0x0, 1, 0, 18, .ro, none, 0⟩
/-- NET_FWD_PREFIXES.count (R380). -/
def netFwdPrefixes_count : Field := ⟨0x801028, 0x0, 1, 0, 17, .ro, none, 0⟩
/-- NET_FWD_PREFIXES.mode (R380). -/
def netFwdPrefixes_mode : Field := ⟨0x801028, 0x0, 1, 24, 1, .ro, none, 0⟩
/-- NET_FWD_PREFIXES.switching (R380). -/
def netFwdPrefixes_switching : Field := ⟨0x801028, 0x0, 1, 25, 1, .ro, none, 0⟩
/-- NET_FWD_REASM.active (R380). -/
def netFwdReasm_active : Field := ⟨0x80102C, 0x0, 1, 0, 13, .ro, none, 0⟩
/-- NET_FWD_REASM.spilled (R380). -/
def netFwdReasm_spilled : Field := ⟨0x80102C, 0x0, 1, 16, 16, .ro, none, 0⟩
/-- NET_FWD_FILTER.lengths (R380). -/
def netFwdFilter_lengths : Field := ⟨0x801030, 0x4, 5, 0, 32, .ro, none, 0⟩
/-- NET_FWD_CNT_UP.fwd_up (R380). -/
def netFwdCntUp_fwd_up : Field := ⟨0x801080, 0x0, 1, 0, 32, .rc, some 0xB0, 0⟩
/-- NET_FWD_CNT_DOWN.fwd_down (R380). -/
def netFwdCntDown_fwd_down : Field := ⟨0x801084, 0x0, 1, 0, 32, .rc, some 0xB1, 0⟩
/-- NET_FWD_CNT_LEARN.learned (R380). -/
def netFwdCntLearn_learned : Field := ⟨0x801088, 0x0, 1, 0, 16, .rc, some 0xB2, 0⟩
/-- NET_FWD_CNT_LEARN.moves (R380). -/
def netFwdCntLearn_moves : Field := ⟨0x801088, 0x0, 1, 16, 16, .rc, some 0xB3, 0⟩
/-- NET_FWD_CNT_LEARN_ERR.learn_full (R380). -/
def netFwdCntLearnErr_learn_full : Field := ⟨0x80108C, 0x0, 1, 0, 16, .rc, some 0xB4, 0⟩
/-- NET_FWD_CNT_LEARN_ERR.static_conflict (R380). -/
def netFwdCntLearnErr_static_conflict : Field := ⟨0x80108C, 0x0, 1, 16, 16, .rc, some 0xB5, 0⟩
/-- NET_FWD_CNT_AGE.aged (R380). -/
def netFwdCntAge_aged : Field := ⟨0x801090, 0x0, 1, 0, 16, .rc, some 0xB6, 0⟩
/-- NET_FWD_CNT_AGE.hit_at_age (R380). -/
def netFwdCntAge_hit_at_age : Field := ⟨0x801090, 0x0, 1, 16, 16, .rc, some 0xB7, 0⟩
/-- NET_FWD_CNT_MISS.no_route (R380). -/
def netFwdCntMiss_no_route : Field := ⟨0x801094, 0x0, 1, 0, 16, .rc, some 0xB8, 0⟩
/-- NET_FWD_CNT_MISS.no_nbr (R380). -/
def netFwdCntMiss_no_nbr : Field := ⟨0x801094, 0x0, 1, 16, 16, .rc, some 0xB9, 0⟩
/-- NET_FWD_CNT_EXC.hop_limit (R380). -/
def netFwdCntExc_hop_limit : Field := ⟨0x801098, 0x0, 1, 0, 16, .rc, some 0xBA, 0⟩
/-- NET_FWD_CNT_EXC.too_big (R380). -/
def netFwdCntExc_too_big : Field := ⟨0x801098, 0x0, 1, 16, 16, .rc, some 0xBB, 0⟩
/-- NET_FWD_CNT_DROP.gate_drop (R380). -/
def netFwdCntDrop_gate_drop : Field := ⟨0x80109C, 0x0, 1, 0, 16, .rc, some 0xBC, 0⟩
/-- NET_FWD_CNT_DROP.hairpin (R380). -/
def netFwdCntDrop_hairpin : Field := ⟨0x80109C, 0x0, 1, 16, 16, .rc, some 0xBD, 0⟩
/-- NET_FWD_CNT_RETRY.lookup_retry (R380). -/
def netFwdCntRetry_lookup_retry : Field := ⟨0x8010A0, 0x0, 1, 0, 32, .rc, some 0xBE, 0⟩
/-- NET_FWD_CNT_IPHC.iphc_bad (R380). -/
def netFwdCntIphc_iphc_bad : Field := ⟨0x8010A4, 0x0, 1, 0, 16, .rc, some 0xBF, 0⟩
/-- NET_FWD_CNT_IPHC.to_cores (R380). -/
def netFwdCntIphc_to_cores : Field := ⟨0x8010A4, 0x0, 1, 16, 16, .rc, some 0xC0, 0⟩
/-- NET_FWD_CNT_REASM.reasm_done (R380). -/
def netFwdCntReasm_reasm_done : Field := ⟨0x8010A8, 0x0, 1, 0, 16, .rc, some 0xC1, 0⟩
/-- NET_FWD_CNT_REASM.reasm_timeout (R380). -/
def netFwdCntReasm_reasm_timeout : Field := ⟨0x8010A8, 0x0, 1, 16, 16, .rc, some 0xC2, 0⟩
/-- NET_FWD_CNT_FRAG.reasm_full (R380). -/
def netFwdCntFrag_reasm_full : Field := ⟨0x8010AC, 0x0, 1, 0, 16, .rc, some 0xC3, 0⟩
/-- NET_FWD_CNT_FRAG.frag_overlap (R380). -/
def netFwdCntFrag_frag_overlap : Field := ⟨0x8010AC, 0x0, 1, 16, 16, .rc, some 0xC4, 0⟩
/-- NET_FWD_CNT_FRAG2.frag_dup (R380). -/
def netFwdCntFrag2_frag_dup : Field := ⟨0x8010B0, 0x0, 1, 0, 16, .rc, some 0xC5, 0⟩
/-- NET_FWD_CNT_FRAG2.frag_abandon (R380). -/
def netFwdCntFrag2_frag_abandon : Field := ⟨0x8010B0, 0x0, 1, 16, 16, .rc, some 0xC6, 0⟩
/-- NET_FWD_CNT_FRAGS.frags_sent (R380). -/
def netFwdCntFrags_frags_sent : Field := ⟨0x8010B4, 0x0, 1, 0, 32, .rc, some 0xC7, 0⟩
/-- NET_HCIPH_STATUS.in_service (R416). -/
def netHciphStatus_in_service : Field := ⟨0x803000, 0x0, 1, 0, 1, .ro, none, 1⟩
/-- NET_HCIPH_STATUS.parked (R416). -/
def netHciphStatus_parked : Field := ⟨0x803000, 0x0, 1, 1, 3, .ro, none, 0⟩
/-- NET_HCIPH_STATUS.preempted (R416). -/
def netHciphStatus_preempted : Field := ⟨0x803000, 0x0, 1, 4, 1, .ro, none, 0⟩
/-- NET_HCIPH_CNT_JOBS.jobs (R416). -/
def netHciphCntJobs_jobs : Field := ⟨0x803004, 0x0, 1, 0, 32, .rc, some 0xD3, 0⟩
/-- NET_HCIPH_CNT_PREEMPT.preempts (R416). -/
def netHciphCntPreempt_preempts : Field := ⟨0x803008, 0x0, 1, 0, 32, .rc, some 0xD4, 0⟩
/-- NET_HCIPH_CNT_KAT.kat_runs (R416). -/
def netHciphCntKat_kat_runs : Field := ⟨0x80300C, 0x0, 1, 0, 16, .rc, some 0xD5, 0⟩
/-- NET_HCIPH_CNT_KAT.kat_fail (R416). -/
def netHciphCntKat_kat_fail : Field := ⟨0x80300C, 0x0, 1, 16, 16, .rc, some 0xD6, 0⟩
/-- NET_RING_BASE_LO.base_lo (R475). -/
def netRingBaseLo_base_lo : Field := ⟨0x804000, 0x20, 32, 0, 32, .rw, none, 0⟩
/-- NET_RING_BASE_HI.base_hi (R475). -/
def netRingBaseHi_base_hi : Field := ⟨0x804004, 0x20, 32, 0, 32, .rw, none, 0⟩
/-- NET_RING_CFG.enable (R475). -/
def netRingCfg_enable : Field := ⟨0x804008, 0x20, 32, 0, 1, .rw, none, 0⟩
/-- NET_RING_CFG.size_log2 (R475). -/
def netRingCfg_size_log2 : Field := ⟨0x804008, 0x20, 32, 2, 5, .rw, none, 0⟩
/-- NET_RING_CFG.type (R475). -/
def netRingCfg_type : Field := ⟨0x804008, 0x20, 32, 8, 3, .rw, none, 0⟩
/-- NET_RING_CFG.vector (R475). -/
def netRingCfg_vector : Field := ⟨0x804008, 0x20, 32, 16, 6, .rw, none, 0⟩
/-- NET_RING_CFG.irq_en (R475). -/
def netRingCfg_irq_en : Field := ⟨0x804008, 0x20, 32, 22, 1, .rw, none, 0⟩
/-- NET_RING_CFG.coal_count (R475). -/
def netRingCfg_coal_count : Field := ⟨0x804008, 0x20, 32, 24, 8, .rw, none, 0⟩
/-- NET_RING_TAIL.tail (R475). -/
def netRingTail_tail : Field := ⟨0x80400C, 0x20, 32, 0, 17, .rw, none, 0⟩
/-- NET_RING_HEAD.head (R475). -/
def netRingHead_head : Field := ⟨0x804010, 0x20, 32, 0, 17, .ro, none, 0⟩
/-- NET_RING_STAT.halted (R475). -/
def netRingStat_halted : Field := ⟨0x804014, 0x20, 32, 0, 1, .ro, none, 0⟩
/-- NET_RING_STAT.cfg_reject (R475). -/
def netRingStat_cfg_reject : Field := ⟨0x804014, 0x20, 32, 1, 1, .w1c, none, 0⟩
/-- NET_RING_STAT.halt_reason (R475). -/
def netRingStat_halt_reason : Field := ⟨0x804014, 0x20, 32, 2, 2, .ro, none, 0⟩
/-- NET_RING_STAT.no_desc (R475). -/
def netRingStat_no_desc : Field := ⟨0x804014, 0x20, 32, 16, 16, .rc, some 0xE0, 0⟩
/-- NET_RING_CNT.completed (R475). -/
def netRingCnt_completed : Field := ⟨0x804018, 0x20, 32, 0, 32, .rc, some 0xE1, 0⟩
/-- NET_RING_COAL.coal_us (R475). -/
def netRingCoal_coal_us : Field := ⟨0x80401C, 0x20, 32, 0, 16, .rw, none, 0⟩
/-- NET_PCIE_STATUS.link_up (R475). -/
def netPcieStatus_link_up : Field := ⟨0x806000, 0x0, 1, 0, 1, .ro, none, 0⟩
/-- NET_PCIE_STATUS.speed (R475). -/
def netPcieStatus_speed : Field := ⟨0x806000, 0x0, 1, 1, 2, .ro, none, 0⟩
/-- NET_PCIE_STATUS.width (R475). -/
def netPcieStatus_width : Field := ⟨0x806000, 0x0, 1, 3, 2, .ro, none, 0⟩
/-- NET_PCIE_STATUS.msix_en (R475). -/
def netPcieStatus_msix_en : Field := ⟨0x806000, 0x0, 1, 5, 1, .ro, none, 0⟩
/-- NET_PCIE_STATUS.bus_master (R475). -/
def netPcieStatus_bus_master : Field := ⟨0x806000, 0x0, 1, 6, 1, .ro, none, 0⟩
/-- NET_HOST_CFG.steer_ring (R475). -/
def netHostCfg_steer_ring : Field := ⟨0x806004, 0x0, 1, 0, 4, .ro, none, 0⟩
/-- NET_HOST_CFG.tmr_vector (R475). -/
def netHostCfg_tmr_vector : Field := ⟨0x806004, 0x0, 1, 8, 6, .ro, none, 0⟩
/-- NET_HOST_CFG.tmr_irqn (R475). -/
def netHostCfg_tmr_irqn : Field := ⟨0x806004, 0x0, 1, 14, 1, .ro, none, 0⟩
/-- NET_HOST_CFG.tmr_en (R475). -/
def netHostCfg_tmr_en : Field := ⟨0x806004, 0x0, 1, 15, 1, .ro, none, 0⟩
/-- NET_PCIE_CNT.resets (R475). -/
def netPcieCnt_resets : Field := ⟨0x806008, 0x0, 1, 0, 16, .rc, some 0xE2, 0⟩
/-- NET_PCIE_CNT.dma_errors (R475). -/
def netPcieCnt_dma_errors : Field := ⟨0x806008, 0x0, 1, 16, 16, .rc, some 0xE3, 0⟩
/-- NET_ETH_STATUS.link (R475). -/
def netEthStatus_link : Field := ⟨0x808000, 0x100, 2, 0, 1, .ro, none, 0⟩
/-- NET_ETH_STATUS.speed (R475). -/
def netEthStatus_speed : Field := ⟨0x808000, 0x100, 2, 1, 2, .ro, none, 0⟩
/-- NET_ETH_STATUS.an_done (R475). -/
def netEthStatus_an_done : Field := ⟨0x808000, 0x100, 2, 3, 1, .ro, none, 0⟩
/-- NET_ETH_STATUS.remote_fault (R475). -/
def netEthStatus_remote_fault : Field := ⟨0x808000, 0x100, 2, 4, 1, .ro, none, 0⟩
/-- NET_ETH_CNT_RX.rx_frames (R475). -/
def netEthCntRx_rx_frames : Field := ⟨0x808010, 0x100, 2, 0, 32, .rc, some 0xE4, 0⟩
/-- NET_ETH_CNT_TX.tx_frames (R475). -/
def netEthCntTx_tx_frames : Field := ⟨0x808014, 0x100, 2, 0, 32, .rc, some 0xE5, 0⟩
/-- NET_ETH_CNT_ERR.fcs_err (R475). -/
def netEthCntErr_fcs_err : Field := ⟨0x808018, 0x100, 2, 0, 16, .rc, some 0xE6, 0⟩
/-- NET_ETH_CNT_ERR.oversize (R475). -/
def netEthCntErr_oversize : Field := ⟨0x808018, 0x100, 2, 16, 16, .rc, some 0xE7, 0⟩
/-- NET_ETH_CNT_TYPE.other_type (R475). -/
def netEthCntType_other_type : Field := ⟨0x80801C, 0x100, 2, 0, 16, .rc, some 0xE8, 0⟩
/-- NET_ETH_CNT_TYPE.vid_drop (R475). -/
def netEthCntType_vid_drop : Field := ⟨0x80801C, 0x100, 2, 16, 16, .rc, some 0xE9, 0⟩
/-- NET_ETH_CNT_DROP.link_drop (R475). -/
def netEthCntDrop_link_drop : Field := ⟨0x808020, 0x100, 2, 0, 16, .rc, some 0xEA, 0⟩
/-- NET_ETH_CNT_DROP.no_gw (R475). -/
def netEthCntDrop_no_gw : Field := ⟨0x808020, 0x100, 2, 16, 16, .rc, some 0xEB, 0⟩
/-- NET_ETH_CNT_DUP.dup_discard (R475). -/
def netEthCntDup_dup_discard : Field := ⟨0x808024, 0x100, 2, 0, 32, .rc, some 0xEC, 0⟩
/-- NET_DDR_STATUS.trained (R475). -/
def netDdrStatus_trained : Field := ⟨0x809000, 0x0, 1, 0, 1, .ro, none, 0⟩
/-- NET_DDR_STATUS.rate (R475). -/
def netDdrStatus_rate : Field := ⟨0x809000, 0x0, 1, 1, 2, .ro, none, 0⟩
/-- NET_DDR_STATUS.fallback (R475). -/
def netDdrStatus_fallback : Field := ⟨0x809000, 0x0, 1, 3, 1, .ro, none, 0⟩
/-- NET_DDR_STATUS.device_mib (R475). -/
def netDdrStatus_device_mib : Field := ⟨0x809000, 0x0, 1, 4, 12, .ro, none, 0⟩
/-- NET_DDR_STATUS.usable_mib (R475). -/
def netDdrStatus_usable_mib : Field := ⟨0x809000, 0x0, 1, 16, 12, .ro, none, 0⟩
/-- NET_DDR_ECC.corrected (R475). -/
def netDdrEcc_corrected : Field := ⟨0x809004, 0x0, 1, 0, 16, .rc, some 0xED, 0⟩
/-- NET_DDR_ECC.uncorrectable (R475). -/
def netDdrEcc_uncorrectable : Field := ⟨0x809004, 0x0, 1, 16, 16, .rc, some 0xEE, 0⟩
/-- NET_DDR_BADPG.retired (R475). -/
def netDdrBadpg_retired : Field := ⟨0x809008, 0x0, 1, 0, 13, .ro, none, 0⟩
/-- NET_DDR_BADPG.spares_left (R475). -/
def netDdrBadpg_spares_left : Field := ⟨0x809008, 0x0, 1, 16, 13, .ro, none, 4096⟩
/-- NET_DDR_SCRUB.passes (R475). -/
def netDdrScrub_passes : Field := ⟨0x80900C, 0x0, 1, 0, 32, .rc, some 0xEF, 0⟩
/-- NET_YOW_STATUS.state (R505). -/
def netYowStatus_state : Field := ⟨0x80A000, 0x0, 1, 0, 3, .ro, none, 0⟩
/-- NET_YOW_STATUS.upstream_port (R505). -/
def netYowStatus_upstream_port : Field := ⟨0x80A000, 0x0, 1, 3, 1, .ro, none, 0⟩
/-- NET_YOW_STATUS.upstream_valid (R505). -/
def netYowStatus_upstream_valid : Field := ⟨0x80A000, 0x0, 1, 4, 1, .ro, none, 0⟩
/-- NET_YOW_STATUS.relay (R505). -/
def netYowStatus_relay : Field := ⟨0x80A000, 0x0, 1, 5, 1, .ro, none, 0⟩
/-- NET_YOW_STATUS.slot_mismatch (R505). -/
def netYowStatus_slot_mismatch : Field := ⟨0x80A000, 0x0, 1, 6, 1, .ro, none, 0⟩
/-- NET_YOW_STATUS.root_priority (R505). -/
def netYowStatus_root_priority : Field := ⟨0x80A000, 0x0, 1, 8, 8, .ro, none, 0⟩
/-- NET_YOW_LATENCY.acc_ns (R505). -/
def netYowLatency_acc_ns : Field := ⟨0x80A004, 0x0, 1, 0, 32, .ro, none, 0⟩
/-- NET_YOW_BUDGET.budget_ns (R505). -/
def netYowBudget_budget_ns : Field := ⟨0x80A008, 0x0, 1, 0, 32, .ro, none, 0⟩
/-- NET_YOW_SPAN.span (R505). -/
def netYowSpan_span : Field := ⟨0x80A00C, 0x0, 1, 0, 32, .ro, none, 1⟩
/-- NET_YOW_ROOT_LO.root_lo (R505). -/
def netYowRootLo_root_lo : Field := ⟨0x80A010, 0x0, 1, 0, 32, .ro, none, 0⟩
/-- NET_YOW_ROOT_HI.root_hi (R505). -/
def netYowRootHi_root_hi : Field := ⟨0x80A014, 0x0, 1, 0, 32, .ro, none, 0⟩
/-- NET_YOW_LINK.delay_ns (R505). -/
def netYowLink_delay_ns : Field := ⟨0x80A020, 0x4, 2, 0, 16, .ro, none, 0⟩
/-- NET_YOW_LINK.peer_up (R505). -/
def netYowLink_peer_up : Field := ⟨0x80A020, 0x4, 2, 16, 1, .ro, none, 0⟩
/-- NET_YOW_LINK.torch_peer (R505). -/
def netYowLink_torch_peer : Field := ⟨0x80A020, 0x4, 2, 17, 1, .ro, none, 0⟩
/-- NET_YOW_CNT_RX.rx_frames (R505). -/
def netYowCntRx_rx_frames : Field := ⟨0x80A040, 0x0, 1, 0, 32, .rc, some 0xF5, 0⟩
/-- NET_YOW_CNT_TX.tx_frames (R505). -/
def netYowCntTx_tx_frames : Field := ⟨0x80A044, 0x0, 1, 0, 32, .rc, some 0xF6, 0⟩
/-- NET_YOW_CNT_REJECT.auth_fail (R505). -/
def netYowCntReject_auth_fail : Field := ⟨0x80A048, 0x0, 1, 0, 16, .rc, some 0xF7, 0⟩
/-- NET_YOW_CNT_REJECT.stale_claim (R505). -/
def netYowCntReject_stale_claim : Field := ⟨0x80A048, 0x0, 1, 16, 16, .rc, some 0xF8, 0⟩
/-- NET_YOW_CNT_DROP.replay (R505). -/
def netYowCntDrop_replay : Field := ⟨0x80A04C, 0x0, 1, 0, 16, .rc, some 0xF9, 0⟩
/-- NET_YOW_CNT_DROP.standby_drop (R505). -/
def netYowCntDrop_standby_drop : Field := ⟨0x80A04C, 0x0, 1, 16, 16, .rc, some 0xFA, 0⟩
/-- NET_YOW_CNT_TAG.dup_tagged (R505). -/
def netYowCntTag_dup_tagged : Field := ⟨0x80A050, 0x0, 1, 0, 32, .rc, some 0xFB, 0⟩
/-- AIR_RF_STATUS.synth (R168). -/
def airRfStatus_synth : Field := ⟨0xC00000, 0x100, 3, 0, 2, .ro, none, 3⟩
/-- AIR_RF_STATUS.cal_pending (R168). -/
def airRfStatus_cal_pending : Field := ⟨0xC00000, 0x100, 3, 2, 1, .ro, none, 0⟩
/-- AIR_RF_STATUS.cal_forced (R168). -/
def airRfStatus_cal_forced : Field := ⟨0xC00000, 0x100, 3, 3, 1, .ro, none, 0⟩
/-- AIR_RF_STATUS.vswr_backoff (R168). -/
def airRfStatus_vswr_backoff : Field := ⟨0xC00000, 0x100, 3, 4, 1, .ro, none, 0⟩
/-- AIR_RF_STATUS.search_pending (R168). -/
def airRfStatus_search_pending : Field := ⟨0xC00000, 0x100, 3, 5, 1, .ro, none, 0⟩
/-- AIR_RF_STATUS.split_aerial (R168). -/
def airRfStatus_split_aerial : Field := ⟨0xC00000, 0x100, 3, 6, 1, .ro, none, 0⟩
/-- AIR_RF_STATUS.gain_fixed (R168). -/
def airRfStatus_gain_fixed : Field := ⟨0xC00000, 0x100, 3, 7, 1, .ro, none, 0⟩
/-- AIR_RF_STATUS.gain_index (R168). -/
def airRfStatus_gain_index : Field := ⟨0xC00000, 0x100, 3, 8, 5, .ro, none, 0⟩
/-- AIR_RF_STATUS.fem_state (R168). -/
def airRfStatus_fem_state : Field := ⟨0xC00000, 0x100, 3, 13, 3, .ro, none, 0⟩
/-- AIR_RF_STATUS.temp_c (R168). -/
def airRfStatus_temp_c : Field := ⟨0xC00000, 0x100, 3, 16, 8, .ro, none, 0⟩
/-- AIR_RF_STATUS.cal_temp_c (R168). -/
def airRfStatus_cal_temp_c : Field := ⟨0xC00000, 0x100, 3, 24, 8, .ro, none, 0⟩
/-- AIR_RF_VSWR.last (R168). -/
def airRfVswr_last : Field := ⟨0xC00004, 0x100, 3, 0, 16, .ro, none, 0⟩
/-- AIR_RF_VSWR.peak (R168). -/
def airRfVswr_peak : Field := ⟨0xC00004, 0x100, 3, 16, 16, .rc, none, 0⟩
/-- AIR_RF_LO.lo_khz (R168). -/
def airRfLo_lo_khz : Field := ⟨0xC00008, 0x100, 3, 0, 22, .ro, none, 0⟩
/-- AIR_RF_LO.match_series (R168). -/
def airRfLo_match_series : Field := ⟨0xC00008, 0x100, 3, 22, 5, .ro, none, 0⟩
/-- AIR_RF_LO.match_shunt (R168). -/
def airRfLo_match_shunt : Field := ⟨0xC00008, 0x100, 3, 27, 5, .ro, none, 0⟩
/-- AIR_RF_CNT_CAL.cals (R168). -/
def airRfCntCal_cals : Field := ⟨0xC00010, 0x100, 3, 0, 32, .rc, some 0x20, 0⟩
/-- AIR_RF_CNT_FORCED.forced (R168). -/
def airRfCntForced_forced : Field := ⟨0xC00014, 0x100, 3, 0, 32, .rc, some 0x21, 0⟩
/-- AIR_RF_CNT_SYNTH_BUSY.synth_busy (R168). -/
def airRfCntSynthBusy_synth_busy : Field := ⟨0xC00018, 0x100, 3, 0, 32, .rc, some 0x22, 0⟩
/-- AIR_RF_CNT_VSWR_HIGH.vswr_high (R168). -/
def airRfCntVswrHigh_vswr_high : Field := ⟨0xC0001C, 0x100, 3, 0, 32, .rc, some 0x23, 0⟩
/-- AIR_RF_CNT_BACKOFF.backoffs (R168). -/
def airRfCntBackoff_backoffs : Field := ⟨0xC00020, 0x100, 3, 0, 32, .rc, some 0x24, 0⟩
/-- AIR_RF_CNT_SEARCH.searches (R168). -/
def airRfCntSearch_searches : Field := ⟨0xC00024, 0x100, 3, 0, 32, .rc, some 0x25, 0⟩
/-- AIR_RF_CNT_GAIN.steps_down (R168). -/
def airRfCntGain_steps_down : Field := ⟨0xC00028, 0x100, 3, 0, 16, .rc, some 0x26, 0⟩
/-- AIR_RF_CNT_GAIN.steps_up (R168). -/
def airRfCntGain_steps_up : Field := ⟨0xC00028, 0x100, 3, 16, 16, .rc, some 0x27, 0⟩
/-- AIR_TX_EM_STATUS.port (R168). -/
def airTxEmStatus_port : Field := ⟨0xC00400, 0x10, 8, 0, 2, .ro, none, 0⟩
/-- AIR_TX_EM_STATUS.bound (R168). -/
def airTxEmStatus_bound : Field := ⟨0xC00400, 0x10, 8, 2, 1, .ro, none, 0⟩
/-- AIR_TX_EM_STATUS.on_air (R168). -/
def airTxEmStatus_on_air : Field := ⟨0xC00400, 0x10, 8, 3, 1, .ro, none, 0⟩
/-- AIR_TX_EM_STATUS.clamped (R168). -/
def airTxEmStatus_clamped : Field := ⟨0xC00400, 0x10, 8, 4, 1, .ro, none, 0⟩
/-- AIR_TX_EM_STATUS.backoff_q (R168). -/
def airTxEmStatus_backoff_q : Field := ⟨0xC00400, 0x10, 8, 8, 8, .ro, none, 0⟩
/-- AIR_TX_EM_STATUS.power_q (R168). -/
def airTxEmStatus_power_q : Field := ⟨0xC00400, 0x10, 8, 16, 16, .ro, none, 0⟩
/-- AIR_TX_EM_CNT_AIRTIME.airtime_ms (R168). -/
def airTxEmCntAirtime_airtime_ms : Field := ⟨0xC00404, 0x10, 8, 0, 32, .rc, none, 0⟩
/-- AIR_TX_EM_CNT_FRAMES.frames (R168). -/
def airTxEmCntFrames_frames : Field := ⟨0xC00408, 0x10, 8, 0, 32, .rc, some 0x3B, 0⟩
/-- AIR_LST_CFG.kind (R202). -/
def airLstCfg_kind : Field := ⟨0xC10000, 0x40, 64, 0, 2, .ro, none, 0⟩
/-- AIR_LST_CFG.port (R202). -/
def airLstCfg_port : Field := ⟨0xC10000, 0x40, 64, 2, 2, .ro, none, 0⟩
/-- AIR_LST_CFG.pool (R202). -/
def airLstCfg_pool : Field := ⟨0xC10000, 0x40, 64, 4, 4, .ro, none, 0⟩
/-- AIR_LST_CFG.sic_en (R202). -/
def airLstCfg_sic_en : Field := ⟨0xC10000, 0x40, 64, 8, 1, .ro, none, 0⟩
/-- AIR_LST_CFG.det_level (R202). -/
def airLstCfg_det_level : Field := ⟨0xC10000, 0x40, 64, 9, 2, .ro, none, 0⟩
/-- AIR_LST_CFG.capture_margin (R202). -/
def airLstCfg_capture_margin : Field := ⟨0xC10000, 0x40, 64, 16, 6, .ro, none, 0⟩
/-- AIR_LST_CFG.width_10khz (R202). -/
def airLstCfg_width_10khz : Field := ⟨0xC10000, 0x40, 64, 24, 8, .ro, none, 0⟩
/-- AIR_LST_MODES.mode0 (R202). -/
def airLstModes_mode0 : Field := ⟨0xC10004, 0x40, 64, 0, 8, .ro, none, 0⟩
/-- AIR_LST_MODES.mode1 (R202). -/
def airLstModes_mode1 : Field := ⟨0xC10004, 0x40, 64, 8, 8, .ro, none, 0⟩
/-- AIR_LST_MODES.mode2 (R202). -/
def airLstModes_mode2 : Field := ⟨0xC10004, 0x40, 64, 16, 8, .ro, none, 0⟩
/-- AIR_LST_MODES.mode3 (R202). -/
def airLstModes_mode3 : Field := ⟨0xC10004, 0x40, 64, 24, 8, .ro, none, 0⟩
/-- AIR_LST_FREQ.centre_khz (R202). -/
def airLstFreq_centre_khz : Field := ⟨0xC10008, 0x40, 64, 0, 22, .ro, none, 0⟩
/-- AIR_LST_FREQ.retuning (R202). -/
def airLstFreq_retuning : Field := ⟨0xC10008, 0x40, 64, 22, 1, .ro, none, 0⟩
/-- AIR_LST_FREQ.channel (R202). -/
def airLstFreq_channel : Field := ⟨0xC10008, 0x40, 64, 23, 9, .ro, none, 0⟩
/-- AIR_LST_STATUS.ctx0_state (R202). -/
def airLstStatus_ctx0_state : Field := ⟨0xC1000C, 0x40, 64, 0, 3, .ro, none, 4⟩
/-- AIR_LST_STATUS.ctx1_state (R202). -/
def airLstStatus_ctx1_state : Field := ⟨0xC1000C, 0x40, 64, 3, 3, .ro, none, 4⟩
/-- AIR_LST_STATUS.primary (R202). -/
def airLstStatus_primary : Field := ⟨0xC1000C, 0x40, 64, 6, 1, .ro, none, 0⟩
/-- AIR_LST_STATUS.blanked (R202). -/
def airLstStatus_blanked : Field := ⟨0xC1000C, 0x40, 64, 7, 1, .ro, none, 0⟩
/-- AIR_LST_STATUS.single (R202). -/
def airLstStatus_single : Field := ⟨0xC1000C, 0x40, 64, 8, 1, .ro, none, 0⟩
/-- AIR_LST_STATUS.retired (R202). -/
def airLstStatus_retired : Field := ⟨0xC1000C, 0x40, 64, 9, 1, .ro, none, 0⟩
/-- AIR_LST_STATUS.ctx0_spare (R202). -/
def airLstStatus_ctx0_spare : Field := ⟨0xC1000C, 0x40, 64, 10, 1, .ro, none, 0⟩
/-- AIR_LST_STATUS.ctx1_spare (R202). -/
def airLstStatus_ctx1_spare : Field := ⟨0xC1000C, 0x40, 64, 11, 1, .ro, none, 0⟩
/-- AIR_LST_CNT_DETECT.detects (R202). -/
def airLstCntDetect_detects : Field := ⟨0xC10010, 0x40, 64, 0, 32, .rc, some 0x40, 0⟩
/-- AIR_LST_CNT_PHR.phr_pass (R202). -/
def airLstCntPhr_phr_pass : Field := ⟨0xC10014, 0x40, 64, 0, 32, .rc, some 0x41, 0⟩
/-- AIR_LST_CNT_PHR_ERR.phr_zero (R202). -/
def airLstCntPhrErr_phr_zero : Field := ⟨0xC10018, 0x40, 64, 0, 16, .rc, some 0x42, 0⟩
/-- AIR_LST_CNT_PHR_ERR.phr_bad (R202). -/
def airLstCntPhrErr_phr_bad : Field := ⟨0xC10018, 0x40, 64, 16, 16, .rc, some 0x43, 0⟩
/-- AIR_LST_CNT_FALSE.false_detect (R202). -/
def airLstCntFalse_false_detect : Field := ⟨0xC1001C, 0x40, 64, 0, 32, .rc, some 0x44, 0⟩
/-- AIR_LST_CNT_CAPTURE.captures (R202). -/
def airLstCntCapture_captures : Field := ⟨0xC10020, 0x40, 64, 0, 16, .rc, some 0x45, 0⟩
/-- AIR_LST_CNT_CAPTURE.capture_below (R202). -/
def airLstCntCapture_capture_below : Field := ⟨0xC10020, 0x40, 64, 16, 16, .rc, some 0x46, 0⟩
/-- AIR_LST_CNT_SIC.sic_ok (R202). -/
def airLstCntSic_sic_ok : Field := ⟨0xC10024, 0x40, 64, 0, 16, .rc, some 0x47, 0⟩
/-- AIR_LST_CNT_SIC.sic_fail (R202). -/
def airLstCntSic_sic_fail : Field := ⟨0xC10024, 0x40, 64, 16, 16, .rc, some 0x48, 0⟩
/-- AIR_LST_CNT_FCS.fcs_fail (R202). -/
def airLstCntFcs_fcs_fail : Field := ⟨0xC10028, 0x40, 64, 0, 16, .rc, some 0x49, 0⟩
/-- AIR_LST_CNT_FCS.sic_skip (R202). -/
def airLstCntFcs_sic_skip : Field := ⟨0xC10028, 0x40, 64, 16, 16, .rc, some 0x4A, 0⟩
/-- AIR_LST_CNT_FTQ_FULL.ftq_full (R202). -/
def airLstCntFtqFull_ftq_full : Field := ⟨0xC1002C, 0x40, 64, 0, 32, .rc, some 0x4B, 0⟩
/-- AIR_LST_CNT_BLANK.blank_10us (R202). -/
def airLstCntBlank_blank_10us : Field := ⟨0xC10030, 0x40, 64, 0, 32, .rc, some 0x4C, 0⟩
/-- AIR_LST_CNT_ABANDON.blank_abandon (R202). -/
def airLstCntAbandon_blank_abandon : Field := ⟨0xC10034, 0x40, 64, 0, 16, .rc, some 0x4D, 0⟩
/-- AIR_LST_CNT_ABANDON.retune_cut (R202). -/
def airLstCntAbandon_retune_cut : Field := ⟨0xC10034, 0x40, 64, 16, 16, .rc, some 0x4E, 0⟩
/-- AIR_LST_CNT_DELIVERED.delivered (R202). -/
def airLstCntDelivered_delivered : Field := ⟨0xC10038, 0x40, 64, 0, 32, .rc, some 0x4F, 0⟩
/-- AIR_LST_LEVEL.last_rssi_q (R202). -/
def airLstLevel_last_rssi_q : Field := ⟨0xC1003C, 0x40, 64, 0, 16, .ro, none, 0⟩
/-- AIR_LST_LEVEL.noise_q (R202). -/
def airLstLevel_noise_q : Field := ⟨0xC1003C, 0x40, 64, 16, 16, .ro, none, 0⟩
/-- AIR_LB_STATUS.spares_used (R202). -/
def airLbStatus_spares_used : Field := ⟨0xC11000, 0x4, 8, 0, 2, .ro, none, 0⟩
/-- AIR_LB_STATUS.single_mask (R202). -/
def airLbStatus_single_mask : Field := ⟨0xC11000, 0x4, 8, 8, 8, .ro, none, 0⟩
/-- AIR_LB_STATUS.retired_mask (R202). -/
def airLbStatus_retired_mask : Field := ⟨0xC11000, 0x4, 8, 16, 8, .ro, none, 0⟩
/-- AIR_LB_STATUS.ctx_retired (R202). -/
def airLbStatus_ctx_retired : Field := ⟨0xC11000, 0x4, 8, 24, 5, .ro, none, 0⟩
/-- AIR_PLAN_CHECK.index (R202). -/
def airPlanCheck_index : Field := ⟨0xC11040, 0x0, 1, 0, 8, .ro, none, 0⟩
/-- AIR_PLAN_CHECK.kind (R202). -/
def airPlanCheck_kind : Field := ⟨0xC11040, 0x0, 1, 8, 4, .ro, none, 0⟩
/-- AIR_PLAN_CHECK.reason (R202). -/
def airPlanCheck_reason : Field := ⟨0xC11040, 0x0, 1, 12, 4, .ro, none, 0⟩
/-- AIR_PLAN_CHECK.param (R202). -/
def airPlanCheck_param : Field := ⟨0xC11040, 0x0, 1, 16, 16, .ro, none, 0⟩
/-- AIR_PLAN_PORT.width_sum_khz (R202). -/
def airPlanPort_width_sum_khz : Field := ⟨0xC11044, 0x4, 3, 0, 17, .ro, none, 0⟩
/-- AIR_PLAN_PORT.listeners (R202). -/
def airPlanPort_listeners : Field := ⟨0xC11044, 0x4, 3, 17, 7, .ro, none, 0⟩
/-- AIR_PLAN_PORT.emitters (R202). -/
def airPlanPort_emitters : Field := ⟨0xC11044, 0x4, 3, 24, 4, .ro, none, 0⟩
/-- AIR_TM_CFG.margin_q (R231). -/
def airTmCfg_margin_q : Field := ⟨0xC12000, 0x0, 1, 0, 5, .ro, none, 0⟩
/-- AIR_TM_CFG.min_interval_s (R231). -/
def airTmCfg_min_interval_s : Field := ⟨0xC12000, 0x0, 1, 8, 8, .ro, none, 0⟩
/-- AIR_TM_CFG.fallback_after (R231). -/
def airTmCfg_fallback_after : Field := ⟨0xC12000, 0x0, 1, 16, 3, .ro, none, 0⟩
/-- AIR_TM_CFG.fallback_mcs (R231). -/
def airTmCfg_fallback_mcs : Field := ⟨0xC12000, 0x0, 1, 20, 2, .ro, none, 0⟩
/-- AIR_TM_CFG.gt_en (R231). -/
def airTmCfg_gt_en : Field := ⟨0xC12000, 0x0, 1, 22, 1, .ro, none, 0⟩
/-- AIR_TM_CFG.map_hold_s (R231). -/
def airTmCfg_map_hold_s : Field := ⟨0xC12000, 0x0, 1, 24, 8, .ro, none, 0⟩
/-- AIR_TM_OUI.oui (R231). -/
def airTmOui_oui : Field := ⟨0xC12004, 0x0, 1, 0, 24, .ro, none, 0⟩
/-- AIR_TM_TABLE.used (R231). -/
def airTmTable_used : Field := ⟨0xC12008, 0x0, 1, 0, 13, .ro, none, 0⟩
/-- AIR_TM_TABLE.peak (R231). -/
def airTmTable_peak : Field := ⟨0xC12008, 0x0, 1, 16, 13, .rc, none, 0⟩
/-- AIR_TM_LAST_UNKNOWN.map_id (R231). -/
def airTmLastUnknown_map_id : Field := ⟨0xC1200C, 0x0, 1, 0, 8, .ro, none, 0⟩
/-- AIR_TM_LAST_UNKNOWN.map_check (R231). -/
def airTmLastUnknown_map_check : Field := ⟨0xC1200C, 0x0, 1, 8, 16, .ro, none, 0⟩
/-- AIR_TM_LAST_UNKNOWN.listener (R231). -/
def airTmLastUnknown_listener : Field := ⟨0xC1200C, 0x0, 1, 24, 6, .ro, none, 0⟩
/-- AIR_TM_CNT_ISSUED.issued (R231). -/
def airTmCntIssued_issued : Field := ⟨0xC12010, 0x0, 1, 0, 32, .rc, some 0x50, 0⟩
/-- AIR_TM_CNT_UNKNOWN.unknown (R231). -/
def airTmCntUnknown_unknown : Field := ⟨0xC12014, 0x0, 1, 0, 32, .rc, some 0x51, 0⟩
/-- AIR_TM_CNT_FULL.table_full (R231). -/
def airTmCntFull_table_full : Field := ⟨0xC12018, 0x0, 1, 0, 32, .rc, some 0x52, 0⟩
/-- AIR_TM_CNT_FALLBACK.fallback (R231). -/
def airTmCntFallback_fallback : Field := ⟨0xC1201C, 0x0, 1, 0, 32, .rc, some 0x53, 0⟩
/-- AIR_TM_CNT_REPORT.reports (R231). -/
def airTmCntReport_reports : Field := ⟨0xC12020, 0x0, 1, 0, 32, .rc, some 0x54, 0⟩
end F

/-- Part 0 of the field table. -/
def fieldTable0 : List Field := [
  F.keepId_device_id,
  F.keepId_family_tag,
  F.keepMapVersion_minor,
  F.keepMapVersion_major,
  F.keepScratch_scratch,
  F.keepCapPart_part_code,
  F.keepCapPart_die_step,
  F.keepCapPart_grade_l,
  F.keepCapPart_band_d,
  F.keepCapPart_listeners_enabled,
  F.keepCapPart_emitters_enabled,
  F.keepCapAir_lb_present,
  F.keepCapAir_emitter_present,
  F.keepCapAir_rfa_present,
  F.keepCapAir_rfb_present,
  F.keepCapAir_rfc_present,
  F.keepCapNet_ddr_present,
  F.keepCapNet_eth0_present,
  F.keepCapNet_eth1_present,
  F.keepCapNet_pcie_present,
  F.keepCapNet_torch_capable,
  F.keepCapNet_cluster_role,
  F.keepCapNet_neighbour_capacity_k,
  F.keepRstCause_cause,
  F.keepRstCause_resets,
  F.keepStart_phase,
  F.keepStart_slot,
  F.keepStart_fallback,
  F.keepStart_debug_root,
  F.keepStart_root_ok,
  F.keepStart_copy_resumed,
  F.keepStart_bad_param,
  F.keepGate_tx_open,
  F.keepGate_fwd_open,
  F.keepGate_torch_open,
  F.keepGate_gpio_open,
  F.keepGate_reasons,
  F.keepCfg_staged,
  F.keepCfg_owner_valid,
  F.keepCfg_owner]

/-- Part 1 of the field table. -/
def fieldTable1 : List Field := [
  F.keepCfg_trim_clamped,
  F.keepCfg_skipped,
  F.keepUpdState_staging,
  F.keepUpdState_recovery,
  F.keepUpdState_pair_seq,
  F.keepUpdState_fail_entry,
  F.keepUpdProgress_resume_offset,
  F.keepUpdCnt_activations,
  F.keepUpdCnt_copies,
  F.keepSpineCntAge_age_grant,
  F.keepPwrState_state,
  F.keepPwrState_member,
  F.keepPwrState_waking,
  F.keepPwrState_stopping,
  F.keepPwrState_blocked,
  F.keepPwrState_absent,
  F.keepPwrState_last_refusal,
  F.keepPwrState_retries,
  F.keepPwrWsrc_code,
  F.keepPwrWsrc_seq,
  F.keepPwrWsrcTlo_time_lo,
  F.keepPwrWsrcThi_time_hi,
  F.keepPwrSupply_core_warn,
  F.keepPwrSupply_v18_warn,
  F.keepPwrSupply_io33_low,
  F.keepPwrSupply_ddr_low,
  F.keepPwrSupply_tx_hold,
  F.keepPwrSupply_core_dip_seen,
  F.keepPwrSupply_v18_dip_seen,
  F.keepPwrSupply_io33_seen,
  F.keepPwrSupply_ddr_seen,
  F.keepPwrSupply_last_dip_mv,
  F.keepPwrDipNs_last_dip_ns,
  F.keepPwrClk_ref_ok,
  F.keepPwrClk_ref_lost,
  F.keepPwrClk_xtal32_ok,
  F.keepPwrClk_xtal32_fail,
  F.keepPwrClk_wick_on_rc,
  F.keepPwrClk_keep_on_rc,
  F.keepPwrClk_pll_core_lock]

/-- Part 2 of the field table. -/
def fieldTable2 : List Field := [
  F.keepPwrClk_pll_air_lock,
  F.keepPwrClk_pll_eth_lock,
  F.keepPwrClk_pll_ddr_lock,
  F.keepPwrWick_lp_mode,
  F.keepPwrWick_brownout,
  F.keepPwrCntDip_dips,
  F.keepPwrCntRefuse_refusals,
  F.keepPwrCntRetry_retries,
  F.keepPwrCntFailed_failed,
  F.keepPwrCntBrownout_brownouts,
  F.keepGzStat_cmd_free,
  F.keepGzStat_resp_fill,
  F.keepGzStat_resp_held,
  F.keepGzStat_empty,
  F.keepGzStat_overrun,
  F.keepGzStat_resp_uncorr,
  F.keepGzStat_mark_valid,
  F.keepGzStat_resync_wait,
  F.keepGzStat_executing,
  F.keepGzStat_spi_bad_type,
  F.keepGzStat_failed,
  F.keepGzCtrl_mark,
  F.keepGzCtrl_rewind,
  F.keepGzCtrl_release,
  F.keepGzCtrl_resync,
  F.keepGzCtrl_irq_en,
  F.keepGzCtrl_seq_err,
  F.keepGzCtrl_vector,
  F.keepGzLimits_stall_us,
  F.keepGzLimits_assembly_ms,
  F.keepGzEcc_corrected,
  F.keepGzEcc_uncorrectable,
  F.keepGzEcc_spares_used,
  F.keepGzOvr_overruns,
  F.keepGzOvr_empty_reads,
  F.keepGzDiscard_words_discarded,
  F.keepKeyIngressData_word,
  F.keepKeyIngressStat_words,
  F.keepKeyIngressStat_overflow,
  F.keepKeyIngressStat_busy]

/-- Part 3 of the field table. -/
def fieldTable3 : List Field := [
  F.keepKeyIngressStat_last_status,
  F.keepKeyState_owned,
  F.keepKeyState_root_ok,
  F.keepKeyState_debug_armed,
  F.keepKeyState_debug_active,
  F.keepKeyState_tamper_hold,
  F.keepKeyState_erased,
  F.keepKeyState_transport_key,
  F.keepKeyState_require_signed_images,
  F.keepKeyState_require_ecdsa,
  F.keepKeyState_debug_permitted,
  F.keepKeyState_lease_log2,
  F.keepKeyState_unit_id,
  F.keepKeyPctrLo_pctr_lo,
  F.keepKeyPctrHi_pctr_hi,
  F.keepKeyVault_keys,
  F.keepTampPolicy_policy,
  F.keepTampPolicy_monitored,
  F.keepTampStatus_active,
  F.keepTampStatus_latched,
  F.keepTampStatus_last_source,
  F.keepTampStatus_last_situation,
  F.keepTampCnt_alarms,
  F.keepTampCnt_snuffs,
  F.keepGciphCntKat_kat_runs,
  F.keepGciphCntKat_kat_fail,
  F.keepTmrCfg_run,
  F.keepTmrCfg_tick,
  F.keepTmrCfg_rl_unbuf,
  F.keepTmrCfg_cap_en,
  F.keepTmrCfg_cap_edge,
  F.keepTmrCfg_filter,
  F.keepTmrCfg_wake_edge,
  F.keepTmrCfg_prescale,
  F.keepTmrCfg_irq_en,
  F.keepTmrCfg_cmp0_act,
  F.keepTmrCfg_cmp1_act,
  F.keepTmrCfg_out_init,
  F.keepTmrCount_count,
  F.keepTmrReload_reload]

/-- Part 4 of the field table. -/
def fieldTable4 : List Field := [
  F.keepTmrCmp0_cmp,
  F.keepTmrCmp1_cmp,
  F.keepTmrCap_cap,
  F.keepTmrStat_cmp0_hit,
  F.keepTmrStat_cmp1_hit,
  F.keepTmrStat_wrap,
  F.keepTmrStat_cap_hit,
  F.keepTmrStat_cap_ovf,
  F.keepTmrStat_cmp_late,
  F.keepTmrStat_reload_cut,
  F.keepTmrStat_cfg_reject,
  F.keepTmrStat_out,
  F.keepTmrStat_rl_pending,
  F.keepTmrQPop_element,
  F.keepTmrQPop_lowres,
  F.keepTmrQPop_valid,
  F.keepTmrQVal_value,
  F.keepTmrQTlo_time_lo,
  F.keepTmrQThi_time_hi,
  F.keepTmrBlkStat_q_fill,
  F.keepTmrBlkStat_rd_running,
  F.keepTmrBlkStat_wr_running,
  F.keepTmrBlkStat_wide_reject,
  F.keepTmrWideCfg_run,
  F.keepTmrWideCfg_chain,
  F.keepTmrWideCfg_tick,
  F.keepTmrWideCfg_chain_elem,
  F.keepTmrWideLo_wide_lo,
  F.keepTmrWideHi_wide_hi,
  F.keepTmrRouteCap_element0,
  F.keepTmrRouteCap_en0,
  F.keepTmrRouteCap_element1,
  F.keepTmrRouteCap_en1,
  F.keepTmrRouteCap_element2,
  F.keepTmrRouteCap_en2,
  F.keepTmrRouteCap_element3,
  F.keepTmrRouteCap_en3,
  F.keepTmrRouteCmp_element0,
  F.keepTmrRouteCmp_en0,
  F.keepTmrRouteCmp_element1]

/-- Part 5 of the field table. -/
def fieldTable5 : List Field := [
  F.keepTmrRouteCmp_en1,
  F.keepTmrRouteCmp_element2,
  F.keepTmrRouteCmp_en2,
  F.keepTmrRouteCmp_element3,
  F.keepTmrRouteCmp_en3,
  F.keepTmrPend_pend,
  F.keepTtCfg_arm,
  F.keepTtCfg_action,
  F.keepTtCfg_target,
  F.keepTtCfg_reject,
  F.keepTtCfg_count,
  F.keepTtTimeLo_time_lo,
  F.keepTtTimeHi_time_hi,
  F.keepTtPeriod_period,
  F.keepTtStat_late,
  F.keepTtStat_fired,
  F.keepTtCycleLo_asn_lo,
  F.keepTtCycleHi_asn_hi,
  F.keepTtCycleHi_into_slot_us,
  F.keepTimeLo_time_lo,
  F.keepTimeHi_time_hi,
  F.keepTimeState_state,
  F.keepTimeState_source_ok,
  F.keepTimeState_source,
  F.keepTimeState_glide,
  F.keepTimeState_ptp_port,
  F.keepTimeState_agree,
  F.keepTimeRate_rate_adj,
  F.keepTimeOffset_last_offset,
  F.keepTimeCfg_jump_ns,
  F.keepTimeCfg_servo_tc_s,
  F.keepTimeCfg_policy,
  F.keepTimePpsinLo_ppsin_lo,
  F.keepTimePpsinHi_ppsin_hi,
  F.keepTimePpsCfg_pps_width_us,
  F.keepTimePpsCfg_pps_pol,
  F.keepTimePpsCfg_ppsin_seq,
  F.keepTimeCntSync_syncs,
  F.keepTimeCntEvt_refused,
  F.keepTimeCntEvt_steps]

/-- Part 6 of the field table. -/
def fieldTable6 : List Field := [
  F.keepTimeCntFree_losses,
  F.keepTimeCntFree_changes,
  F.keepAadcRes_value,
  F.keepAadcRes_seq,
  F.keepAadcTlo_time_lo,
  F.keepAadcThi_time_hi,
  F.keepAadcCnt_conversions,
  F.keepAadcCnt_aadc_drop,
  F.keepGpioOe_oe,
  F.keepGpioOut_out,
  F.keepGpioSet_set,
  F.keepGpioClr_clr,
  F.keepGpioIn_in,
  F.keepGpioPull_pull_dn,
  F.keepGpioWake_wake_en,
  F.keepGpioEdge_edge,
  F.keepTorchStatus_role,
  F.keepTorchStatus_mirror,
  F.keepTorchStatus_yield,
  F.keepTorchStatus_emitter_gate,
  F.keepTorchStatus_peer_seen,
  F.keepTorchStatus_pin_fault,
  F.keepTorchStatus_unit_id,
  F.keepTorchStatus_winner,
  F.keepTorchClaim_own_claim,
  F.keepTorchClaim_claim_priority,
  F.keepTorchClaim_hold_period_ms,
  F.keepTorchCnt_takeovers,
  F.keepTorchCnt_losses,
  F.keepTorchCntMirror_lapses,
  F.keepTorchCntMirror_divergences,
  F.keepTorchCntRound_rounds,
  F.keepTorchLast_switch_us,
  F.keepTorchGate_gpio_gate,
  F.keepTorchGate_tcmp_gate,
  F.keepTorchPps_pps_gate,
  F.linkSeqCfg_ack_turnaround_us,
  F.linkSeqCfg_ack_guard_10us,
  F.linkSeqCfg_admit_unknown,
  F.linkSeqCfg_configured]

/-- Part 7 of the field table. -/
def fieldTable7 : List Field := [
  F.linkSeqAge_max_age_ms,
  F.linkSeqAge_dup_window_ms,
  F.linkSeqExtLo_ext_lo,
  F.linkSeqExtHi_ext_hi,
  F.linkSeqPan_pan_id,
  F.linkSeqPan_short_addr,
  F.linkSeqStatus_tx_stopped,
  F.linkSeqStatus_ack_stopped,
  F.linkSeqStatus_parked_total,
  F.linkSeqStatus_last_ack_miss,
  F.linkSeqCntRxAccept_rx_accepted,
  F.linkSeqCntFilter_not_for_us,
  F.linkSeqCntFilter_ftype_unsupported,
  F.linkSeqCntSrc_unknown_src,
  F.linkSeqCntSrc_sec_unsupported,
  F.linkSeqCntSec_key_unknown,
  F.linkSeqCntSec_mic_fail,
  F.linkSeqCntReplay_replay,
  F.linkSeqCntReplay_dup_dsn,
  F.linkSeqCntLate_late_fault,
  F.linkSeqCntLate_late_expired,
  F.linkSeqCntAck_ack_sent,
  F.linkSeqCntAckMiss_ack_not_sent,
  F.linkSeqCntAckMiss_cipher_late,
  F.linkSeqCntTx_tx_attempts,
  F.linkSeqCntTxOk_tx_ok,
  F.linkSeqCntTxFail_no_ack,
  F.linkSeqCntTxFail_tx_late,
  F.linkSeqCntTxSkip_hold_skip,
  F.linkSeqCntTxSkip_exhausted,
  F.linkSeqCntRefuse_uplink_refused,
  F.linkSeqCntRefuse_parked_full,
  F.linkFtqStat_free_words,
  F.linkFtqStat_parked,
  F.linkFtqStat_held_words,
  F.linkSlmStatus_running,
  F.linkSlmStatus_source_ok,
  F.linkSlmStatus_follower,
  F.linkSlmStatus_auto_rescan,
  F.linkSlmStatus_sync_state]

/-- Part 8 of the field table. -/
def fieldTable8 : List Field := [
  F.linkSlmStatus_missed_eb,
  F.linkSlmStatus_u_self_10us,
  F.linkSlmAsnLo_asn_lo,
  F.linkSlmAsnHi_asn_hi,
  F.linkSlmSlot_slot_len_10us,
  F.linkSlmSlot_sf_running,
  F.linkSlmSf_length,
  F.linkSlmSf_template,
  F.linkSlmSf_hop,
  F.linkSlmSf_pool,
  F.linkSlmSf_enabled,
  F.linkSlmSf_autonomous,
  F.linkSlmSf_advertise,
  F.linkSlmCells_installed,
  F.linkSlmGap_start_ms,
  F.linkSlmGap_len_100us,
  F.linkSlmNbrDesync_desync_now,
  F.linkSlmNbrLost_lost_phase_now,
  F.linkSlmCntFit_fit_skip,
  F.linkSlmCntFit_oversize,
  F.linkSlmCntUnheard_rx_unheard,
  F.linkSlmCntUnheard_tx_unreachable,
  F.linkSlmCntWithdraw_rx_withdrawn,
  F.linkSlmCntWithdraw_blank_conflict,
  F.linkSlmCntEmitter_emitter_short,
  F.linkSlmCntEmitter_desync_skip,
  F.linkSlmCntLookahead_berth_requests,
  F.linkSlmCntRetune_retunes,
  F.linkSlmCntCsl_wakeups,
  F.linkSlmCntCsl_full_wakeups,
  F.linkSlmCntCslMiss_missed_contacts,
  F.linkSlmCntCslMiss_csl_defer,
  F.linkSlmCntEb_eb_sent,
  F.linkSlmCntEb_eb_missed,
  F.linkSlmCntSkip_slots_skipped,
  F.linkSlmCntSkip_budget_skip,
  F.linkStoreCfg_free_reserve,
  F.linkStoreCfg_rx_persist_s,
  F.linkStoreCfg_spill_low_1k,
  F.linkStoreStatus_records]

/-- Part 9 of the field table. -/
def fieldTable9 : List Field := [
  F.linkStoreStatus_quarantined,
  F.linkStoreBerths_resident,
  F.linkStoreBerths_free,
  F.linkStorePins_hard_pinned,
  F.linkStorePins_host_pins,
  F.linkStoreSpill_spilled,
  F.linkStoreCntMissA_miss_a,
  F.linkStoreCntMissB_miss_b,
  F.linkStoreCntMissC_miss_c,
  F.linkStoreCntMissD_miss_d,
  F.linkStoreCntPreempt_preempts,
  F.linkStoreCntEvict_evictions,
  F.linkStoreCntWriteback_writebacks,
  F.linkStoreCntSpill_spills,
  F.linkStoreCntFill_fills,
  F.linkStoreCntPark_cipher_park,
  F.linkStoreCntPark_slot_full,
  F.linkStoreCntSkip_sched_skip,
  F.linkStoreCntEcc_corrected,
  F.linkStoreCntEcc_poisoned,
  F.linkStoreCntRebuild_rebuilds,
  F.linkStoreCntRebuild_quarantined_rx,
  F.linkStoreCntExhaust_berth_exhausted,
  F.linkStoreCntExhaust_promotions,
  F.linkCiphStatus_in_service,
  F.linkCiphStatus_parked0,
  F.linkCiphStatus_parked1,
  F.linkCiphStatus_cache_used,
  F.linkCiphCntJobs_jobs,
  F.linkCiphCntCache_cache_miss,
  F.linkCiphCntKat_kat_runs,
  F.linkCiphCntKat_kat_fail,
  F.linkCiphCntOverflow_overflow,
  F.linkCiphCntLease_lease_wait,
  F.linkCiphCntLease_exhausted_keys,
  F.linkTsqPop_word0,
  F.linkTsqW_word,
  F.linkTsqStat_fill,
  F.linkTsqOvf_ovf,
  F.netSchedCfg_urgent_cap_pct]

/-- Part 10 of the field table. -/
def fieldTable10 : List Field := [
  F.netSchedCfg_sampler_en,
  F.netSchedVtLo_vt_lo,
  F.netSchedVtHi_vt_hi,
  F.netSchedStatus_active,
  F.netSchedStatus_urgent,
  F.netSchedClass_urgency_ms,
  F.netSchedClass_default_weight,
  F.netSchedClass_default_profile,
  F.netSchedProfRate_rate,
  F.netSchedProfCeil_ceiling,
  F.netPbufQuota_reserve,
  F.netPbufQuota_limit,
  F.netPbufUsed_used,
  F.netPbufUsed_peak,
  F.netPbufFree_free,
  F.netPbufFree_shared_free,
  F.netSchedCntOffer_offers_taken,
  F.netSchedCntUrgent_urgent_entries,
  F.netSchedCntUrgent_urgent_capped,
  F.netSchedCntRefuse_refused_quota,
  F.netSchedCntRefuse_refused_depth,
  F.netSchedCntPoliced_policed,
  F.netSchedCntSample_passes,
  F.netSchedCntSample_sample_skipped,
  F.netSchedPolCfg_profile,
  F.netSchedPolCfg_octet_cost,
  F.netSchedPolCnt_policed,
  F.netCoreCnt_items,
  F.netCoreStatus_retired_mask,
  F.netCoreCntHost_steered,
  F.netCoreCntFail_core_failed,
  F.netFwdCfg_lpm_mode,
  F.netFwdCfg_learn_up,
  F.netFwdCfg_learn_back,
  F.netFwdCfg_miss_drop,
  F.netFwdCfg_miss_ring,
  F.netFwdCfg_local_ring,
  F.netFwdCfg_age_limit,
  F.netFwdCfg_age_tick_s,
  F.netFwdFrag_frag_psdu]

/-- Part 11 of the field table. -/
def fieldTable11 : List Field := [
  F.netFwdFrag_reasm_timeout_s,
  F.netFwdSpill_reasm_spill_ms,
  F.netFwdSpill_learn_bucket,
  F.netFwdDscp_classes,
  F.netFwdRoutes_used,
  F.netFwdStatic_static,
  F.netFwdPrefixes_count,
  F.netFwdPrefixes_mode,
  F.netFwdPrefixes_switching,
  F.netFwdReasm_active,
  F.netFwdReasm_spilled,
  F.netFwdFilter_lengths,
  F.netFwdCntUp_fwd_up,
  F.netFwdCntDown_fwd_down,
  F.netFwdCntLearn_learned,
  F.netFwdCntLearn_moves,
  F.netFwdCntLearnErr_learn_full,
  F.netFwdCntLearnErr_static_conflict,
  F.netFwdCntAge_aged,
  F.netFwdCntAge_hit_at_age,
  F.netFwdCntMiss_no_route,
  F.netFwdCntMiss_no_nbr,
  F.netFwdCntExc_hop_limit,
  F.netFwdCntExc_too_big,
  F.netFwdCntDrop_gate_drop,
  F.netFwdCntDrop_hairpin,
  F.netFwdCntRetry_lookup_retry,
  F.netFwdCntIphc_iphc_bad,
  F.netFwdCntIphc_to_cores,
  F.netFwdCntReasm_reasm_done,
  F.netFwdCntReasm_reasm_timeout,
  F.netFwdCntFrag_reasm_full,
  F.netFwdCntFrag_frag_overlap,
  F.netFwdCntFrag2_frag_dup,
  F.netFwdCntFrag2_frag_abandon,
  F.netFwdCntFrags_frags_sent,
  F.netHciphStatus_in_service,
  F.netHciphStatus_parked,
  F.netHciphStatus_preempted,
  F.netHciphCntJobs_jobs]

/-- Part 12 of the field table. -/
def fieldTable12 : List Field := [
  F.netHciphCntPreempt_preempts,
  F.netHciphCntKat_kat_runs,
  F.netHciphCntKat_kat_fail,
  F.netRingBaseLo_base_lo,
  F.netRingBaseHi_base_hi,
  F.netRingCfg_enable,
  F.netRingCfg_size_log2,
  F.netRingCfg_type,
  F.netRingCfg_vector,
  F.netRingCfg_irq_en,
  F.netRingCfg_coal_count,
  F.netRingTail_tail,
  F.netRingHead_head,
  F.netRingStat_halted,
  F.netRingStat_cfg_reject,
  F.netRingStat_halt_reason,
  F.netRingStat_no_desc,
  F.netRingCnt_completed,
  F.netRingCoal_coal_us,
  F.netPcieStatus_link_up,
  F.netPcieStatus_speed,
  F.netPcieStatus_width,
  F.netPcieStatus_msix_en,
  F.netPcieStatus_bus_master,
  F.netHostCfg_steer_ring,
  F.netHostCfg_tmr_vector,
  F.netHostCfg_tmr_irqn,
  F.netHostCfg_tmr_en,
  F.netPcieCnt_resets,
  F.netPcieCnt_dma_errors,
  F.netEthStatus_link,
  F.netEthStatus_speed,
  F.netEthStatus_an_done,
  F.netEthStatus_remote_fault,
  F.netEthCntRx_rx_frames,
  F.netEthCntTx_tx_frames,
  F.netEthCntErr_fcs_err,
  F.netEthCntErr_oversize,
  F.netEthCntType_other_type,
  F.netEthCntType_vid_drop]

/-- Part 13 of the field table. -/
def fieldTable13 : List Field := [
  F.netEthCntDrop_link_drop,
  F.netEthCntDrop_no_gw,
  F.netEthCntDup_dup_discard,
  F.netDdrStatus_trained,
  F.netDdrStatus_rate,
  F.netDdrStatus_fallback,
  F.netDdrStatus_device_mib,
  F.netDdrStatus_usable_mib,
  F.netDdrEcc_corrected,
  F.netDdrEcc_uncorrectable,
  F.netDdrBadpg_retired,
  F.netDdrBadpg_spares_left,
  F.netDdrScrub_passes,
  F.netYowStatus_state,
  F.netYowStatus_upstream_port,
  F.netYowStatus_upstream_valid,
  F.netYowStatus_relay,
  F.netYowStatus_slot_mismatch,
  F.netYowStatus_root_priority,
  F.netYowLatency_acc_ns,
  F.netYowBudget_budget_ns,
  F.netYowSpan_span,
  F.netYowRootLo_root_lo,
  F.netYowRootHi_root_hi,
  F.netYowLink_delay_ns,
  F.netYowLink_peer_up,
  F.netYowLink_torch_peer,
  F.netYowCntRx_rx_frames,
  F.netYowCntTx_tx_frames,
  F.netYowCntReject_auth_fail,
  F.netYowCntReject_stale_claim,
  F.netYowCntDrop_replay,
  F.netYowCntDrop_standby_drop,
  F.netYowCntTag_dup_tagged,
  F.airRfStatus_synth,
  F.airRfStatus_cal_pending,
  F.airRfStatus_cal_forced,
  F.airRfStatus_vswr_backoff,
  F.airRfStatus_search_pending,
  F.airRfStatus_split_aerial]

/-- Part 14 of the field table. -/
def fieldTable14 : List Field := [
  F.airRfStatus_gain_fixed,
  F.airRfStatus_gain_index,
  F.airRfStatus_fem_state,
  F.airRfStatus_temp_c,
  F.airRfStatus_cal_temp_c,
  F.airRfVswr_last,
  F.airRfVswr_peak,
  F.airRfLo_lo_khz,
  F.airRfLo_match_series,
  F.airRfLo_match_shunt,
  F.airRfCntCal_cals,
  F.airRfCntForced_forced,
  F.airRfCntSynthBusy_synth_busy,
  F.airRfCntVswrHigh_vswr_high,
  F.airRfCntBackoff_backoffs,
  F.airRfCntSearch_searches,
  F.airRfCntGain_steps_down,
  F.airRfCntGain_steps_up,
  F.airTxEmStatus_port,
  F.airTxEmStatus_bound,
  F.airTxEmStatus_on_air,
  F.airTxEmStatus_clamped,
  F.airTxEmStatus_backoff_q,
  F.airTxEmStatus_power_q,
  F.airTxEmCntAirtime_airtime_ms,
  F.airTxEmCntFrames_frames,
  F.airLstCfg_kind,
  F.airLstCfg_port,
  F.airLstCfg_pool,
  F.airLstCfg_sic_en,
  F.airLstCfg_det_level,
  F.airLstCfg_capture_margin,
  F.airLstCfg_width_10khz,
  F.airLstModes_mode0,
  F.airLstModes_mode1,
  F.airLstModes_mode2,
  F.airLstModes_mode3,
  F.airLstFreq_centre_khz,
  F.airLstFreq_retuning,
  F.airLstFreq_channel]

/-- Part 15 of the field table. -/
def fieldTable15 : List Field := [
  F.airLstStatus_ctx0_state,
  F.airLstStatus_ctx1_state,
  F.airLstStatus_primary,
  F.airLstStatus_blanked,
  F.airLstStatus_single,
  F.airLstStatus_retired,
  F.airLstStatus_ctx0_spare,
  F.airLstStatus_ctx1_spare,
  F.airLstCntDetect_detects,
  F.airLstCntPhr_phr_pass,
  F.airLstCntPhrErr_phr_zero,
  F.airLstCntPhrErr_phr_bad,
  F.airLstCntFalse_false_detect,
  F.airLstCntCapture_captures,
  F.airLstCntCapture_capture_below,
  F.airLstCntSic_sic_ok,
  F.airLstCntSic_sic_fail,
  F.airLstCntFcs_fcs_fail,
  F.airLstCntFcs_sic_skip,
  F.airLstCntFtqFull_ftq_full,
  F.airLstCntBlank_blank_10us,
  F.airLstCntAbandon_blank_abandon,
  F.airLstCntAbandon_retune_cut,
  F.airLstCntDelivered_delivered,
  F.airLstLevel_last_rssi_q,
  F.airLstLevel_noise_q,
  F.airLbStatus_spares_used,
  F.airLbStatus_single_mask,
  F.airLbStatus_retired_mask,
  F.airLbStatus_ctx_retired,
  F.airPlanCheck_index,
  F.airPlanCheck_kind,
  F.airPlanCheck_reason,
  F.airPlanCheck_param,
  F.airPlanPort_width_sum_khz,
  F.airPlanPort_listeners,
  F.airPlanPort_emitters,
  F.airTmCfg_margin_q,
  F.airTmCfg_min_interval_s,
  F.airTmCfg_fallback_after]

/-- Part 16 of the field table. -/
def fieldTable16 : List Field := [
  F.airTmCfg_fallback_mcs,
  F.airTmCfg_gt_en,
  F.airTmCfg_map_hold_s,
  F.airTmOui_oui,
  F.airTmTable_used,
  F.airTmTable_peak,
  F.airTmLastUnknown_map_id,
  F.airTmLastUnknown_map_check,
  F.airTmLastUnknown_listener,
  F.airTmCntIssued_issued,
  F.airTmCntUnknown_unknown,
  F.airTmCntFull_table_full,
  F.airTmCntFallback_fallback,
  F.airTmCntReport_reports]

/-- Every field of every register, in address order. -/
def fieldTable : List Field :=
  fieldTable0 ++ fieldTable1 ++ fieldTable2 ++ fieldTable3 ++ fieldTable4 ++ fieldTable5 ++ fieldTable6 ++ fieldTable7 ++ fieldTable8 ++ fieldTable9 ++ fieldTable10 ++ fieldTable11 ++ fieldTable12 ++ fieldTable13 ++ fieldTable14 ++ fieldTable15 ++ fieldTable16

end Sys2Proof.Machine
end

