-- ==== Sys2Proof/Machine/State.lean ====
section
/-! DEFINITION. The state of the part, whole: registers, queues, memories, engines, and the queue of waiting commands. -/

namespace Sys2Proof.Machine
open Sys2Proof

/-- Why a step stops with a fault. -/
inductive Fault where
  /-- A register access beyond the 16 MiB of BAR0 (chapter "Register map"): no such address exists. Raised by
  REGISTER_WRITE, RC_REGISTER_READ and LATCHED_PAIR_READ. Safe. -/
  | outsideBar0
  deriving DecidableEq, Repr

/-- Why a command has no meaning. -/
inductive Refusal where
  /-- The command has no meaning in the model yet. Raised by the arms of exec alone. Safe. -/
  | notModelled (mnemonic : String)
  deriving DecidableEq, Repr

/-- What the header of a frame sent holds, where the sequencer or the lantern builds it (R250, R251, R254, R300). -/
structure Mhr where
  /-- It is built as frame version 0b10; sequence number, none where it is suppressed. -/
  v2 : Bool := true
  seq : Option Nat := none
  pending : Bool := false
  /-- Time Correction IE: correction in µs, and the NACK bit. -/
  tc : Option (Int × Bool) := none
  /-- Security level, vault entry and frame counter; none where it is unsecured. -/
  sec : Option (Nat × Nat × Nat) := none
  /-- TONE_MAP carried: direction, identifier and check (R221). -/
  map : Option (Nat × Nat × Nat) := none
  /-- ASN of the TSCH Synchronization IE, and join metric. -/
  asn : Option (Nat × Nat) := none
  deriving DecidableEq, Repr

/-- What the part puts out: on its buses, towards host memory, on the air and on the wire. -/
inductive Out where
  /-- A register read returned a value. -/
  | readData (addr : Nat) (value : Nat)
  /-- A word of a lane's response window, or of an SPI transaction. -/
  | laneWord (lane : Nat) (w : Word)
  /-- A message on an MSI-X vector: address and data of its table entry (R557). -/
  | msix (vector : Nat) (addr : Nat) (data : Nat)
  /-- A descriptor or record written back to a ring's slot in host memory. -/
  | ring (r : Nat) (slot : Nat) (ws : List Word)
  /-- What a CIPHER job leaves in its buffer: ring, address and words (R461). -/
  | buffer (r : Nat) (addr : Nat) (ws : List Word)
  /-- A frame whose first chip goes on the air: emitter, PHY mode, frequency in kHz, PSDU length, and what it is. -/
  | air (emitter : Nat) (mode : Nat) (khz : Nat) (len : Nat) (what : Nat)
  /-- The header of the frame that an emitter sends, and the neighbour it is sent to. -/
  | mhr (emitter : Nat) (handle : Nat) (m : Mhr)
  /-- A frame sent on an Ethernet port: EtherType and length. -/
  | eth (port : Nat) (ethertype : Nat) (len : Nat)
  /-- A Yowiob message sent on an Ethernet port: its type code and payload words. -/
  | yowiob (port : Nat) (type : Nat) (ws : List Word)
  /-- A frame of a redundancy pair: port, source MAC, sequence number (R470, R489). -/
  | redTag (port : Nat) (mac : Nat) (seq : Nat)
  /-- A management access on a port's MDIO: the word of the frame sent. -/
  | mdio (port : Nat) (w : Nat)
  /-- A word shifted to an RF port's tuner (R166). -/
  | tuner (port : Nat) (w : Nat)
  deriving DecidableEq, Repr

/-- The fuse word of the part (R43, R48): the three capability registers as blown. Nothing writes it. -/
structure Fuse where
  part : Nat
  air : Nat
  net : Nat
  deriving DecidableEq, Repr

/-- An event waiting for its record to be written (R464): its number, its region code, its keep time and its packed contents. -/
structure EvRec where
  num : Nat
  region : Nat
  time : Nat
  contents : Nat
  deriving DecidableEq, Repr

/-- The rate limit of an event within one scope (R574): when its present second began, the occurrences counted since,
and the contents of the latest. -/
structure RateSt where
  ev : Nat × Nat
  start : Nat
  pend : Nat
  items : List (Nat × Nat)
  deriving DecidableEq, Repr

/-- The event queue of R139 and R464. -/
structure EvQueue where
  q : List EvRec := []
  lost : Nat := 0
  seq : Nat := 0
  rate : Tab RateSt := []
  deriving DecidableEq, Repr

/-- A command taken whose response is written at a later step: its opcode, TAG and what it works on. -/
structure Exec where
  opcode : Nat
  tag : Byte
  data : List Nat := []
  /-- Its response is discarded (R453). -/
  dropped : Bool := false
  deriving DecidableEq, Repr

/-- A Goruz lane (R110 to R134). -/
structure Lane where
  /-- Words of the command FTQ, head first, with what the check of each finds when it leaves. -/
  cmd : List (Word × Ecc) := []
  /-- Words of the command being assembled. -/
  asm : List Word := []
  /-- Arrival of the latest command word. -/
  asmAt : Nat := 0
  /-- A complete command that has not started (R122). -/
  ready : Option (List Word) := none
  /-- The command executing, while its response is still to come. -/
  ex : Option Exec := none
  /-- Response words not yet read: those in the FTQ and, behind them, those waiting for space. -/
  resp : List Word := []
  /-- Words read and held by the mark (R119). -/
  held : List Word := []
  mark : Bool := false
  /-- TAG and count for the GZ_LANE_ERROR response (R121). -/
  discTag : Byte := 0
  discarded : Nat := 0
  /-- A resync has been written and its response is owed (R121). -/
  errDue : Bool := false
  /-- Stages failed in the command and in the response FTQ, and pattern tests due (R113). -/
  badCmd : Nat := 0
  badResp : Nat := 0
  testCmd : Bool := false
  testResp : Bool := false
  deriving DecidableEq, Repr

/-- Supplies, clocks and the Lamplighter (chapter 3), beside its registers. -/
structure Pwr where
  /-- Dips in progress: rail (0 VDD_CORE, 1 VDD_1V8) to its start (R54). -/
  dip : Tab Nat := []
  /-- End of the last dip, and of the hold that follows it. -/
  dipEnd : Nat := 0
  /-- Wakes deferred by a dip: domain to the wake source code (R54). -/
  deferred : Tab Nat := []
  vddqLow : Bool := false
  vdd2Low : Bool := false
  /-- Consecutive loss of the reference not yet ended by PWR_REF_RESUME (R58), and the domains it put in retention. -/
  refLost : Bool := false
  refDoms : List Nat := []
  /-- The active sleep set and its definition as entered: members, off mask, idle hold in µs (R72). -/
  active : Option (Nat × Nat × Nat × Nat) := none
  /-- Domains among KEEP_CPU and KEEP_MRAM whose escalation set DOMAIN_FAILED, each with whether it has returned (R107). -/
  escalated : Tab Bool := []
  /-- KEEP_MRAM failed during the start (R576). -/
  mramAtStart : Bool := false
  /-- The domains held in reset at chip level: holds of R13 by domain. -/
  held : List Nat := []
  deriving DecidableEq, Repr

/-- Start-up and the output gate (chapter 4), beside its registers. -/
structure Start where
  /-- TEST_EN was high at the release: the part does not start (R41). -/
  testHeld : Bool := false
  /-- The capability registers hold the fuse word (R47). -/
  capsRead : Bool := false
  /-- The start sequence has reached the opening of the gate. -/
  gateReady : Bool := false
  /-- The lines that HOST_HOLD closes (R99). -/
  holdLines : Nat := 0
  /-- SYS_RESET is due 1 ms after its response (R137): the instant. -/
  resetDue : Option Nat := none
  /-- The image step has passed since the start: WATCHDOG_MS governs (R82). -/
  imageStep : Bool := false
  jtag : Jtag := .idcode
  deriving DecidableEq, Repr

/-- A configuration slot of MRAM (R90 to R95): its words by word index. -/
abbrev Slot := Tab Word

/-- The committed and the staged configuration (R96, R103 to R106), by parameter and resource. -/
structure Cfg where
  committed : Tab (List Word) := []
  staged : Tab (List Word) := []
  dirty : Bool := false
  owner : Option (Fin 4) := none
  commitSeq : Nat := 0
  commitAt : Nat := 0
  /-- MAC_CFG as it was before the commit that last changed it, and the keep time of that commit (R266). -/
  macOld : Option (List Word) := none
  macAt : Nat := 0
  /-- A commit whose check has passed: its lane, and the keep time from which a slot boundary serves as the instant. -/
  pending : Option (Nat × Nat) := none
  /-- Slots A and B. -/
  slotA : Slot := []
  slotB : Slot := []
  /-- Factory calibration: quantity key to value (R96, R98). -/
  factory : Tab Int := []
  deriving DecidableEq, Repr

/-- A transmission an emitter is making (R151 to R157): what it is, how far it has come, and what its completion needs. -/
structure Tx where
  /-- 0 data, 1 acknowledgement, 2 beacon, 3 immediate, 4 test tone, 5 wake-up sequence, 6 search probe. -/
  kind : Nat
  /-- 0 held for lock, 1 prepared, 2 lines to TX, 3 ramping up, 4 on the air, 5 ramping down. -/
  phase : Nat
  /-- First chip, as an instant of `now`. -/
  start : Nat
  mode : Nat := 0
  khz : Nat := 0
  /-- Occupied width in kHz. -/
  width : Nat := 0
  /-- PSDU octets, and airtime in ns. -/
  len : Nat := 0
  air : Nat := 0
  /-- Power at the ball in 0.05 dBm (R154). -/
  power : Int := 0
  clamped : Bool := false
  /-- Start of the ramp-up. -/
  rampAt : Nat := 0
  /-- The neighbour, the traffic class of its frame, the sequence number sent and whether an acknowledgement is requested. -/
  handle : Nat := 0
  cls : Nat := 0
  seq : Nat := 0
  ackReq : Bool := false
  /-- The keep time of the frame's reference point (R230), and the frame's identification in its queue. -/
  ts : Nat := 0
  frameId : Nat := 0
  /-- The acknowledgement window in keep time (R259); the attempt used a SHARED cell, was a contact, or a full-period one; it was
  served from the urgent tier; it carries a direction-1 TONE_MAP; the immediate transmission it is of. -/
  ackFrom : Nat := 0
  ackTo : Nat := 0
  shared : Bool := false
  contact : Bool := false
  full : Bool := false
  urgent : Bool := false
  carry : Bool := false
  imm : Option Nat := none
  /-- The last acknowledgement was a NACK; what the frame's header holds. -/
  nacked : Bool := false
  mhr : Mhr := {}
  deriving DecidableEq, Repr

/-- A test tone (R171): its lane while its response is due, its duration in ms, and its offset and power. -/
structure Tone where
  lane : Option Nat
  durMs : Nat
  offset : Int
  power : Int
  /-- 0 waiting for the emitter, 1 judged, 2 running. -/
  stage : Nat
  deriving DecidableEq, Repr

/-- An emitter, beside its registers (R153 to R157). -/
structure Em where
  tx : Option Tx := none
  tone : Option Tone := none
  /-- Nanoseconds of airtime not yet counted as a whole millisecond. -/
  airNs : Nat := 0
  deriving DecidableEq, Repr

/-- An RF port, beside its registers (R144 to R166). -/
structure RfPort where
  /-- Start of the calibration or settling in progress, and the lock due time (R151). -/
  calAt : Nat := 0
  lockDue : Nat := 0
  /-- The calibration in progress is a forced one; its retry has been used (R152). -/
  forcedRun : Bool := false
  retried : Bool := false
  /-- When cal_pending was set (R149), and the announced start of a forced calibration. -/
  pendAt : Nat := 0
  announced : Nat := 0
  /-- A forced request of RF_SYNTH_CAL, of RF_TUNER_SEARCH, waits for the next slot boundary. -/
  forceCal : Bool := false
  forceSearch : Bool := false
  /-- Latest reading and calibration temperature, in 0.1 degrees, and whether a calibration has been made (R148). -/
  temp : Int := 0
  calTemp : Int := 0
  hasCal : Bool := false
  /-- Instants of the last gain steps, and since when the peak has stayed low (R145). -/
  downAt : Option Nat := none
  upAt : Option Nat := none
  /-- Frequency of the last frame above 6:1, and the earliest next search (R165). -/
  highKhz : Nat := 0
  searchFrom : Nat := 0
  searching : Bool := false
  /-- The external tuner's state and the last word written to it (R166). -/
  extState : Nat := 0
  tunerWord : Nat := 0
  deriving DecidableEq, Repr

/-- A frame that a demodulator context holds (R185 to R195). -/
structure RxCtx where
  /-- Mode-set slot and mode code. -/
  slot : Nat
  mode : Nat
  /-- Instant of the detection, and the frozen reference level in 0.25 dBm. -/
  detAt : Nat
  level : Int := 0
  /-- Timestamp in keep time, and the instant of the end of the SFD. -/
  ts : Nat := 0
  sfdAt : Nat := 0
  afc : Int := 0
  /-- PSDU length, the record reserved, and the instant of the last sample. -/
  len : Nat := 0
  recId : Option Nat := none
  endAt : Nat := 0
  captured : Bool := false
  deriving DecidableEq, Repr

/-- A captured pair (R191 to R195): the overlap point, the context of the stronger frame, the weaker frame's record and
whether its own decode has ended without a pass; the stronger frame's end once it has passed its FCS. -/
structure Pair where
  o : Nat
  strong : Nat
  weak : Option Nat
  weakEnded : Bool := false
  weakOk : Bool := false
  strongEnd : Option Nat := none
  deriving DecidableEq, Repr

/-- A listener, beside its registers (chapter 7). -/
structure Lst where
  c0 : Option RxCtx := none
  c1 : Option RxCtx := none
  /-- The shadow's detection awaits its capture test (R191). -/
  test : Bool := false
  pair : Option Pair := none
  /-- Cancellation in progress: the context in RECON (R195). -/
  recon : Option Nat := none
  /-- Start of the blanking in progress, and nanoseconds blanked and not yet counted. -/
  blankAt : Option Nat := none
  blankNs : Nat := 0
  /-- Centre held by a pool listener, in kHz (R177). -/
  khz : Nat := 0
  /-- A retune that waits: frequency, channel, and its latest start (R181, R182). -/
  next : Option (Nat × Nat × Nat) := none
  /-- Instants of the checkpoints kept, newest first (R192). -/
  ckpts : List Nat := []
  deriving DecidableEq, Repr

/-- A record in a listener's FTQ (R197), and how far the sequencer has come with it (R237 to R248). -/
structure Rec where
  id : Nat
  listener : Nat
  ctx : Nat
  captured : Bool := false
  slot : Nat
  mode : Nat
  ts : Nat
  level : Int
  len : Nat
  /-- Instant of the last sample (t_end). -/
  endAt : Nat
  /-- The trailer: result (1 FCS_OK, 2 FCS_FAIL, 3 ABANDONED), sic, withheld, abandon reason. -/
  trailer : Option (Nat × Bool × Bool × Nat) := none
  withheld : Bool := false
  /-- The trailer's withheld octets have been met by the sequencer's rewind (R237). -/
  reread : Bool := false
  /-- The header as parsed, and the handle resolved. -/
  frame : Option Frame := none
  handle : Option Nat := none
  /-- Late fault or cipher late: no acknowledgement is sent; parked (R242, R248). -/
  late : Bool := false
  cipherLate : Bool := false
  parked : Bool := false
  /-- The checks have passed; the record was a duplicate; NET refused it (R247, R252). -/
  verified : Bool := false
  nack : Bool := false
  /-- The cell it was received in gives its acknowledgement delay in ns. -/
  ackDelay : Nat := 0
  /-- Expected reception of its reference point in a TSCH cell, in keep time (R251). -/
  expect : Option Nat := none
  done : Bool := false
  /-- The map by which a GT-OFDM frame was decoded: identifier and check. -/
  gtMap : Option (Nat × Nat) := none
  /-- Its acknowledgement has been judged; the quality of its trailer (R197). -/
  acked : Bool := false
  lqi : Nat := 0
  /-- Its trailer has been taken by the sequencer; its space has been released, and it stays for its acknowledgement alone (R244).
  Its cipher job: 0 none, 1 running, 2 and 3 parked on air engine 0 and 1 (R322). -/
  closed : Bool := false
  freed : Bool := false
  job : Nat := 0
  deriving DecidableEq, Repr

/-- An installed cell (R273): slotframe, slot offset, channel offset, options (bits TX, RX, SHARED, TIMEKEEPING, BEACON),
its neighbour, and the ASNs from which it holds and, once deleted, no longer does (R283). -/
structure Cell where
  sf : Nat
  off : Nat
  choff : Nat
  opts : Nat
  handle : Option Nat
  since : Nat
  until' : Option Nat := none
  deriving DecidableEq, Repr

/-- A transmission of a slot in processing (R276, R284): the cell, the flow whose head was chosen, the channel, and, once
admitted, its emitter; instants in keep time. -/
structure SlotTx where
  asn : Nat
  sf : Nat
  handle : Option Nat
  cls : Nat
  beacon : Bool
  shared : Bool
  port : Nat
  khz : Nat
  plan : Nat
  channel : Nat
  mode : Nat
  /-- First chip; airtime and octets of the PSDU; the acknowledgement window, empty where none is requested. -/
  start : Nat
  air : Nat
  ackFrom : Nat
  ackTo : Nat
  emitter : Option Nat := none
  /-- A contact's data frame: its rendezvous is the start. -/
  contact : Bool := false
  /-- Chosen from the urgent tier (R344), and the listener given the acknowledgement window (R279). -/
  urgent : Bool := false
  listener : Option Nat := none
  /-- It has reached its preparation point. -/
  prep : Bool := false
  deriving DecidableEq, Repr

/-- A receive expectation (R278): port, channel, the window in keep time, its rank in the channel demand order (R279),
whether it marks the time parent's beacon, and the listener that holds it. -/
structure Expect where
  asn : Nat
  sf : Nat
  rank : Nat
  port : Nat
  khz : Nat
  plan : Nat
  channel : Nat
  handle : Option Nat
  keeping : Bool := false
  /-- Expected instant of the first chip, half width of the window, and the acknowledgement delay of the cell, in ns. -/
  mid : Nat
  half : Nat
  ackDelay : Nat
  listener : Option Nat := none
  deriving DecidableEq, Repr

/-- A contact with a sampled neighbour (R289): the nominal sample instant and the half-length of its wake-up, in ns. -/
structure Contact where
  handle : Nat
  tnom : Nat
  uw : Nat
  full : Bool
  emitter : Nat
  port : Nat
  khz : Nat
  cls : Nat
  /-- 0 placed, 1 its data frame is due, 2 its data frame has been sent. -/
  stage : Nat := 0
  urgent : Bool := false
  /-- Rendezvous, first chip of its next data frame, and end of its acknowledgement window, in keep time; the listener given
  that window (R289, R290). -/
  rdv : Nat := 0
  start : Nat := 0
  ackEnd : Nat := 0
  listener : Option Nat := none
  deriving DecidableEq, Repr

/-- Slalom (chapter 10), beside its registers. -/
structure Slalom where
  /-- The epoch: keep time and ASN of a boundary (R268). -/
  epoch : Option (Nat × Nat) := none
  /-- ASN of the slot in progress; none before the epoch's boundary. -/
  asn : Option Nat := none
  /-- The greatest ASN that has entered the look-ahead (R282). -/
  look : Option Nat := none
  cells : List Cell := []
  /-- Offered and admitted transmissions, and receive expectations of slots in processing. -/
  offers : List SlotTx := []
  expects : List Expect := []
  contacts : List Contact := []
  /-- Rotation pointer of each pool (R280). -/
  rotation : Tab Nat := []
  /-- Gaps claimed by a calibration or a search: port to its interval in keep time (R286). -/
  claims : Tab (Nat × Nat) := []
  /-- Keep time of the latest sync with the time parent (R297). -/
  parentSync : Option Nat := none
  /-- A keep time step has been made and the boundaries wait to be re-based: the step in ns (R299). -/
  stepped : Option Int := none
  /-- WEAK follows LOST or RESCAN: SYNCED waits for the agreement of keep time (R298). -/
  fromLost : Bool := false
  deriving DecidableEq, Repr

/-- A tone map (R219): identifier, check, option (0 is option 1), rate, and the codes of its data tones. -/
structure ToneMap where
  id : Nat
  check : Nat
  option : Nat
  rate : Nat
  codes : List Nat
  deriving DecidableEq, Repr

/-- A downlink frame queued in a flow (R339). -/
structure QFrame where
  id : Nat
  /-- Enqueue instant; payload octets of the frame (above MHR, security and FCS); pages held, and how many are spilled. -/
  enq : Nat
  octets : Nat
  pages : Nat
  spilled : Nat := 0
  /-- Attempts made, and whether the last received a NACK. -/
  attempts : Nat := 0
  nacked : Bool := false
  /-- The sequence number it has taken (R254). -/
  seq : Option Nat := none
  /-- The datagram it is a fragment of (R376), and the quota group of its pages. -/
  dgram : Option Nat := none
  group : Nat
  deriving DecidableEq, Repr

/-- A flow (R311, R338): its frames in order and its scheduling state. -/
structure Flow where
  frames : List QFrame := []
  vft : Nat := 0
  weight : Nat := 0
  profile : Nat := 0
  credit : Int := 0
  urgent : Bool := false
  parked : Bool := false
  skipped : Bool := false
  /-- An attempt is between its preparation point and its outcome (R342). -/
  busy : Bool := false
  deriving DecidableEq, Repr

/-- A berth (R310): the record of a neighbour. -/
structure Berth where
  sampled : Bool := false
  unsecuredOk : Bool := false
  shortSrc : Bool := false
  gtAllowed : Bool := true
  gtOpt1 : Bool := false
  gtOpt2 : Bool := false
  ctrValid : Bool × Bool := (false, false)
  pendForce : Bool := false
  hostPin : Bool := false
  retryLimit : Nat := 0
  ext : Nat
  short : Nat := 0xFFFE
  pan : Nat := 0
  txMode : Nat := 0
  mrMcs : Nat := 0
  gtMiss : Nat := 0
  gtFallback : Bool := false
  txDsn : Nat := 0
  lastRxDsn : Nat := 0
  power : Int := 0
  period : Nat := 0
  phase : Nat := 0
  keyRef : Nat × Nat := (0, 0)
  rxCtr : Nat × Nat := (0, 0)
  lastRxMs : Nat := 0
  plan : Nat := 0
  channel : Nat := 0
  timing : Nat := 0
  misses : Nat := 0
  fullWakeMs : Nat := 0
  sync : Nat := 0
  rptAge : Nat := 0
  pMeas : Int := 0
  oldRx : Option (Nat × Nat) := none
  txConfirmed : Bool := false
  flows : Flow × Flow × Flow × Flow := ({}, {}, {}, {})
  txMap : Option ToneMap := none
  rxMap : Option ToneMap := none
  /-- Uplink SNR per group in 0.5 dB, reported downlink SNR per group (none: not reported), tone deviation codes. -/
  ulSnr : List Int := []
  dlSnr : List (Option Int) := []
  toneDev : List Nat := []
  deriving DecidableEq, Repr

/-- A fetch in progress (R316): its class (0 is A), and when it was requested. -/
structure Fetch where
  cls : Nat
  at' : Nat
  deriving DecidableEq, Repr

/-- A neighbour (chapter 11). `b` is its record as it stands, in its berth or, where that is not resident, in DRAM. -/
structure Nbr where
  b : Berth
  resident : Bool := true
  dirty : Bool := true
  /-- Used since the last sweep; an eviction's write-back runs, and a change has met it (R319). -/
  used : Bool := true
  writing : Bool := false
  changed : Bool := false
  /-- The record has been built since the start or the last NET_DDR reset (R331). -/
  built : Bool := true
  quarantined : Bool := false
  fetch : Option Fetch := none
  /-- The instant of the cell or contact for which the look-ahead claims the berth (R318). -/
  claim : Option Nat := none
  /-- A frame has been accepted, and its instant (R247); the original of it was refused (R252). -/
  lastRx : Option Nat := none
  lastRefused : Bool := false
  /-- Last write of the persistent entry, and a change not yet written (R314): the instant of it. -/
  persistedAt : Option Nat := none
  dirtyAt : Option Nat := none
  /-- TSCH backoff: exponent and remaining shared cells (R275). -/
  be : Nat := 1
  backoff : Nat := 0
  /-- Full-period wake-ups sent: keep time and length in µs (R294); failures in a row towards LOST_PHASE, and contacts
  refused by the budget since (R295). -/
  wakes : List (Nat × Nat) := []
  fullFails : Nat := 0
  refusals : Nat := 0
  /-- Issue of the last map of each direction (R225), TONE_MAP due in each direction (R221), and a map sent that waits for its
  acknowledgement. -/
  issued : Option Nat × Option Nat := (none, none)
  mapDue : Bool × Bool := (false, false)
  newTx : Option ToneMap := none
  /-- The instant of its last SNR_REPORT (R223). -/
  reportAt : Option Nat := none
  /-- Power of the last frame sent to it, in 0.25 dBm (R223); a frame has been received under its present receive map. -/
  lastPower : Int := 0
  rxConfirmed : Bool := false
  deriving DecidableEq, Repr

/-- A persistent entry (R313). -/
structure Persist where
  sampled : Bool
  unsecuredOk : Bool
  shortSrc : Bool
  pendForce : Bool
  retryLimit : Nat
  ext : Nat
  short : Nat
  pan : Nat
  keyRef : Nat × Nat
  ctrValid : Bool × Bool
  rxCtr : Nat × Nat
  period : Nat
  phase : Nat
  deriving DecidableEq, Repr

/-- An item of the flow cores (R352 to R355). -/
structure CoreItem where
  id : Nat
  /-- Its dispatch flow: 4 × handle + class for a neighbour; 2^20 + class for unknown sources; 2^21 + id for any other. -/
  dflow : Nat
  cls : Nat
  /-- The reason of its delivery (R462), octets, pages of group CORES, ingress, handle (2^17: none), timestamp, word 5. -/
  what : Nat
  len : Nat
  pages : Nat
  ingress : Nat := 0
  handle : Nat := 2 ^ 17
  ts : Nat := 0
  air : Nat := 0
  core : Option Nat := none
  /-- Event flags and mask of its task; waiting while none of its mask is set (R354). -/
  flags : Nat := 1
  mask : Nat := 1
  deriving DecidableEq, Repr

/-- Traffic scheduling, the packet buffer and the flow cores (chapter 12), beside the registers. -/
structure Traffic where
  v : Nat := 0
  /-- Pages used by group, credits of police buckets, last refill. -/
  used : Tab Nat := []
  police : Tab Int := []
  refillAt : Nat := 0
  /-- Urgent airtime charged per listener: second and µs (R348). -/
  urgentUse : Tab (Nat × Nat) := []
  /-- Sampler histograms: kind × 512 + index × 16 + bin; the flow visited last (4 × handle + class). -/
  hist : Tab Nat := []
  cursor : Option Nat := none
  items : List CoreItem := []
  nextItem : Nat := 0
  nextFrame : Nat := 0
  deriving DecidableEq, Repr

/-- A route record, or the entry of a prefix (R361): entry word without its static bit, age, static. -/
structure Route where
  entry : Nat
  age : Nat := 0
  static : Bool
  deriving DecidableEq, Repr

/-- A reassembly (R377). -/
structure Reasm where
  handle : Nat
  tag : Nat
  size : Nat
  first : Nat
  latest : Nat
  /-- Fragments held: offset and length; pages on die, and spilled. -/
  parts : List (Nat × Nat)
  pages : Nat
  spilled : Nat := 0
  /-- The datagram, and whether its fragments cover it; timestamp of the fragment that completed it (R368). -/
  pkt : Pkt
  complete : Bool := false
  ts : Nat := 0
  /-- The page with its first octets is on die (R378). -/
  headDie : Bool := false
  deriving DecidableEq, Repr

/-- A packet that waits for its decision (R366): where it came from (0 mesh, 1 ETH0, 2 ETH1, 3 host ring), the handle or
ring, and the pages it holds. -/
structure UpPkt where
  pkt : Pkt
  origin : Nat
  handle : Nat
  pages : Nat
  group : Nat := 0
  ts : Nat := 0
  air : Nat := 0
  /-- Pages of it that are spilled (R378). -/
  spilled : Nat := 0
  deriving DecidableEq, Repr

/-- A fragment handed on that waits to be placed (R377), with its pages of group REASSEMBLY. -/
structure FragIn where
  handle : Nat
  tag : Nat
  size : Nat
  offset : Nat
  len : Nat
  pkt : Pkt
  pages : Nat
  ts : Nat
  deriving DecidableEq, Repr

/-- A delivery to a host ring that waits to be written (R462): ring, ingress (0 air, 1 ETH0, 2 ETH1, 3 host ring), octets,
handle (2^17: none), class, pages, quota group, timestamp and reason. -/
structure Delivery where
  ring : Nat
  kind : Nat
  len : Nat
  handle : Nat
  cls : Nat
  pages : Nat
  group : Nat
  ts : Nat := 0
  reason : Nat := 0
  /-- Word 5 of its write-back: level, quality and listener for air ingress (R462). -/
  air : Nat := 0
  /-- Pages of it that are spilled, octets already moved, and whether its ring is parked for the fill (R323). -/
  spilled : Nat := 0
  moved : Nat := 0
  parked : Bool := false
  /-- Its wait for a descriptor has been counted (R463). -/
  waits : Bool := false
  deriving DecidableEq, Repr

/-- Forwarding and 6LoWPAN (chapter 13), beside the registers. -/
structure Fwd where
  routes : Tab Route := []
  /-- Prefixes: length × 2^128 + prefix. -/
  prefixes : Tab Nat := []
  reasm : List Reasm := []
  dtag : Nat := 0
  up : List UpPkt := []
  frags : List FragIn := []
  deliver : List Delivery := []
  deriving DecidableEq, Repr

/-- An entry of the receive map table (R226): the map, and the instant of its last use. -/
structure GtEntry where
  map : ToneMap
  lastUse : Nat
  deriving DecidableEq, Repr

/-- A slot of a vault entry (R389): the tag of the parcel that wrote it, the attributes of the key record, and the key that it
wraps; a length of 0 marks the key deleted. -/
structure KSlot where
  tag : Nat
  usage : Nat
  length : Nat
  idMode : Nat
  group : Bool
  txLevel : Nat
  index : Nat
  source : Nat
  key : Nat
  deriving DecidableEq, Repr

/-- A vault entry (R389, R406): its two slots, its lease locations as boundary and sequence, the next value of its counter,
and the boundary that the standby has acknowledged (R408). -/
structure VEntry where
  a : Option KSlot := none
  b : Option KSlot := none
  leases : Tab (Nat × Nat) := []
  next : Nat := 0
  acked : Nat := 0
  /-- KEEP_KEY_REKEY has been raised: 1 LOW, 2 EXHAUSTED (R404). -/
  rekey : Nat := 0
  deriving DecidableEq, Repr

/-- Keys, owner and tamper (chapter 14), beside the registers. -/
structure Keys where
  /-- The root in use, whether it is available, the helper data, and the root of an enrolment that takes effect at the next
  start (R385, R387). -/
  root : Nat
  rootOk : Bool := false
  helper : Bool := true
  nextRoot : Option Nat := none
  debugArmed : Bool := false
  debugActive : Bool := false
  /-- Ownership: the owner's key, the policy bits, and the tamper policy of each source, 2 bits each (R386). -/
  owned : Bool := false
  ownerKey : Nat := 0
  requireSigned : Bool := false
  requireEcdsa : Bool := false
  debugPermitted : Bool := true
  tamper : Nat := 0
  erased : Bool := false
  /-- Commit areas A and B: counter and digest; the area of the latest commit (R396). -/
  areaA : Nat × Nat := (0, 0)
  areaB : Nat × Nat := (0, 0)
  latestB : Bool := false
  vault : Tab VEntry := []
  ingress : List Word := []
  /-- The entries cached, latest use first (R391). -/
  cache : List Nat := []
  /-- The hold was set at the tamper step of a start (R410, R414). -/
  holdAtStart : Bool := false
  /-- The general engine is in service. -/
  general : Bool := true
  deriving DecidableEq, Repr

/-- An entry of the transmit timestamp queue (R431): word 0 without its valid bit, the keep time and the mode. -/
structure TsqEntry where
  word : Nat
  ts : Nat
  mode : Nat
  deriving DecidableEq, Repr

/-- A timer element, beside its registers (R437 to R441): its effective reload, and the edges accepted since the last that the
prescaler passed. -/
structure Tmr where
  eff : Nat := 0
  edges : Nat := 0
  deriving DecidableEq, Repr

/-- An entry of a capture queue (R441): element, count, keep time, and lowres. -/
structure CapEntry where
  elem : Nat
  value : Nat
  time : Nat
  lowres : Bool := false
  deriving DecidableEq, Repr

/-- A time trigger that is armed (R433): its scheduled time and its period. -/
structure Trig where
  time : Nat
  period : Nat
  deriving DecidableEq, Repr

/-- An input of the auxiliary ADC (R436): the sample instant of the conversion that keeps it busy, in keep time, and whether a
request is queued behind it. -/
structure Aadc where
  sample : Nat
  queued : Bool := false
  deriving DecidableEq, Repr

/-- Keep time, its sources and its servo (R421 to R430), beside the registers. -/
structure TimeSt where
  /-- Keep time in ns, below 2^64, and the fraction of a ns as a numerator over 2^40 × 10^9 (R421). -/
  ns : Nat := 0
  frac : Nat := 0
  /-- The servo's integrator, as a numerator over `servoUnit`, and the held rate as a rate_adj (R425, R428). -/
  integ : Int := 0
  heldRate : Int := 0
  /-- Offset held in HELD; the offsets counted towards agreement, newest first; the offset and the keep time at which a slew
  began (R428). -/
  heldOffset : Int := 0
  offsets : List Int := []
  slew : Int × Nat := (0, 0)
  /-- Keep time of the latest sync, if any. -/
  lastSync : Option Nat := none
  /-- The effective policy at the latest sync: glide or not (R578). -/
  lastGlide : Bool := false
  /-- PTP: grandmaster identity, mean path delay, the Sync that waits for its Follow_Up as sequence and reception, and the
  difference of reception and origin of the latest Sync (R424). -/
  master : Nat := 0
  pathDelay : Int := 0
  syncPending : Option (Nat × Nat) := none
  syncDiff : Option Int := none
  /-- Keep time runs on the RC of a lost reference (R430). -/
  onRc : Bool := false
  /-- Latched halves of the pairs of R548: register address to value. -/
  latch : Tab Nat := []
  /-- The transmit timestamp queue, head first, and the entries lost since the last LINK_TSQ_OVERFLOW (R432, R447). -/
  tsq : List TsqEntry := []
  tsqLost : Nat := 0
  /-- Timer elements, the capture queue of each block, armed triggers, ADC inputs that are busy, and the instant at which
  PPS_OUT returns (R433 to R442). -/
  tmrs : Tab Tmr := []
  caps : Tab (List CapEntry) := []
  trigs : Tab Trig := []
  aadc : Tab Aadc := []
  ppsUntil : Option Nat := none
  deriving DecidableEq, Repr

/-- An immediate host transmission (R460): its ring and slot, its descriptor, what its MHR holds, and how far it has come. -/
structure Imm where
  id : Nat
  ring : Nat
  slot : Nat
  ws : List Word
  ackReq : Bool
  seq : Option Nat
  pages : Nat
  attempts : Nat := 0
  nacked : Bool := false
  /-- Its emitter and first chip in keep time, once placed; the cause that holds it, as a completion status. -/
  place : Option (Nat × Nat) := none
  cause : Nat := 0x0C
  /-- The emitter, channel and acknowledgement window that it has been admitted with. -/
  tx : Option SlotTx := none
  deriving DecidableEq, Repr

/-- Host interfaces (chapter 16), beside the registers. -/
structure Net where
  /-- The MSI-X table: 4 × vector + word to its value, and the pending bits (R557). -/
  msix : Tab Nat := []
  pba : Nat := 0
  /-- MSI-X Enable, Function Mask and Bus Master of configuration space; the function is in D3hot (R453). -/
  msixEn : Bool := false
  funcMask : Bool := false
  busMaster : Bool := false
  d3hot : Bool := false
  /-- NET_DDR has been reset, and what that loses is not yet taken out (R330). -/
  ddrLost : Bool := false
  /-- Immediate transmissions not yet completed, oldest first. -/
  imms : List Imm := []
  nextImm : Nat := 0
  /-- Completions of a ring not yet signalled, and the instant of the first of them (R465). -/
  irq : Tab (Nat × Nat) := []
  /-- The duplicate table of PRP and HSR, oldest first: source MAC, sequence number, instant; the sequence number last sent; the
  instant of the last supervision frame, and of the end of the last scrub pass (R470, R473). -/
  dups : List (Nat × Nat × Nat) := []
  redSeq : Nat := 0
  supAt : Nat := 0
  scrubAt : Nat := 0
  deriving DecidableEq, Repr

/-- The peer that a HELLO has shown on a link (R482, R483), as its body gives it. -/
structure YowPeer where
  serial : Nat
  hello : HelloBody
  deriving DecidableEq, Repr

/-- A cluster link (R481 to R486): its peer, root and correction of the latest TIME, delay in ns, the last accepted sequence
of each sender, the last sequence sent, the DELAY_REQ that waits, and when HELLO and DELAY_REQ were sent. -/
structure YowLink where
  peer : Option YowPeer := none
  corr : Option (Nat × Nat) := none
  delay : Nat := 0
  seqs : Tab Nat := []
  txSeq : Nat := 0
  reqAt : Option Nat := none
  helloAt : Option Nat := none
  reqSent : Option Nat := none
  deriving DecidableEq, Repr

/-- Yowiob clusters (chapter 17), beside the registers. -/
structure Yow where
  links : Tab YowLink := []
  /-- The part has stopped sending for the unit_id it shares with a serial number (R482). -/
  silent : Option Nat := none
  /-- The root of the latest TIME accepted, and when the root last sent TIME. -/
  timeRoot : Option Nat := none
  timeAt : Option Nat := none
  deriving DecidableEq, Repr

/-- A LANE frame that waits for its acknowledgement (R504): response words or commands, when it was sent, and how often again. -/
structure LaneOut where
  seq : Nat
  resp : Bool
  ws : List Word
  sentAt : Nat
  tries : Nat := 0
  deriving DecidableEq, Repr

/-- The update sequence of a pair (R538): lane of its command; step (0 UPD_BEGIN, 1 UPD_WRITE, 2 UPD_FINISH, 3 UPD_ACTIVATE,
4 SYS_INFO awaited, 5 TORCH_STATUS awaited, 6 handover); word offset delivered; since when step 4 runs; a command waits for its
response; the peer runs the new version. -/
structure PairSeq where
  lane : Nat
  step : Nat := 0
  off : Nat := 0
  since : Nat := 0
  waiting : Bool := false
  verOk : Bool := false
  deriving DecidableEq, Repr

/-- Torch redundancy (chapter 17), beside the registers. -/
structure Torch where
  /-- Start of the round in progress, start of the latest, and its end; a round has been seen. -/
  round : Option Nat := none
  lastStart : Nat := 0
  lastEnd : Nat := 0
  seen : Bool := false
  /-- The takeover instant of a unit that is SWITCHING, in keep time (R499). -/
  takeAt : Nat := 0
  /-- The peer's claim in its latest Yowiob frame; a conflict with the peer, until a commit changes it (R490). -/
  peerClaim : Nat := 0
  conflict : Bool := false
  /-- Standby: instant of the last MIRROR frame, seq of the last item applied, lease boundaries held by entry, a mirrored commit
  that waits for its instant (R495, R497). -/
  mirrorAt : Nat := 0
  mirrorSeq : Nat := 0
  held : Tab Nat := []
  commit : Option (Nat × List (Nat × Nat × List Word)) := none
  /-- Holder: when MIRROR was last sent, the mirror state of the peer's last MIRROR_ACK, and what the peer has been sent. -/
  sentAt : Nat := 0
  peerMirror : Option Nat := none
  sent : Tab Berth := []
  sentCells : List Cell := []
  sentCfg : Tab (List Word) := []
  sentCommit : Nat := 0
  sentLeases : Tab Nat := []
  /-- A resync of the holder: its lane, the records sent, and the sequence of its last frame once sent (R509). -/
  resync : Option (Nat × Nat × Option Nat) := none
  /-- Levels that gated outputs hold after a loss of the torch (R500). -/
  gpioHold : Option Nat := none
  /-- LANE3: the credit the peer last reported, the frame that waits, and the commands to send (R504). -/
  credit : Nat := 0
  laneOut : Option LaneOut := none
  pair : Option PairSeq := none
  /-- A valid peer is known (R490); an item has failed since the resync in progress began (R497). -/
  peerOk : Bool := false
  bad : Bool := false
  deriving DecidableEq, Repr

/-- A journal entry of the logbook (R523): sequence, type, keep time and contents. -/
structure JEntry where
  seq : Nat
  type : Nat
  time : Nat
  contents : Nat
  deriving DecidableEq, Repr

/-- A logbook location of MRAM (R523). -/
structure LogLoc where
  seq : Nat
  time : Nat
  jseq : Nat
  life : Tab Nat
  hist : Tab Nat
  cls : Tab Nat
  valid : Bool
  deriving DecidableEq, Repr

/-- An element whose targeted self-test is queued or running (R511): its kind and index, when it reached the head of its
block's queue, and whether the test has started. -/
structure TestSt where
  kind : Nat
  /-- Its region: 0 KEEP, 1 LINK, 2 NET, 3 AIR. -/
  region : Nat
  index : Nat
  headAt : Nat
  running : Bool
  deriving DecidableEq, Repr

/-- Self-tests and the logbook (chapter 18). -/
structure Diag where
  /-- Lifetime counters, histogram bins (16 × histogram + bin) and classification (4 × kind + count). -/
  life : Tab Nat := []
  hist : Tab Nat := []
  cls : Tab Nat := []
  /-- The journal, oldest first, and the sequence of its newest entry. -/
  journal : List JEntry := []
  jseq : Nat := 0
  locs : Tab LogLoc := []
  /-- Location written last, its sequence, the locations found invalid at the start. -/
  lastLoc : Nat := 0
  seq : Nat := 0
  invalid : Nat := 0
  /-- End of the last full flush, keep time of it, and lanes waiting for one. -/
  fullAt : Option Nat := none
  fullKeep : Nat := 0
  /-- Per block, the elements queued, head first (R511). -/
  tests : Tab (List TestSt) := []
  /-- Elements retired: kind × 2^40 + index. -/
  retired : Tab Nat := []
  /-- Spares used: SRAM rows by bank, MRAM wear spares. -/
  rowSpares : Tab Nat := []
  wearUsed : Nat := 0
  deriving DecidableEq, Repr

/-- An activation whose commit word is written (R533, R534): the lane of its command, the keep time at which the pause begins,
the kinds whose payloads change, and whether a kind-0x05 image applies; the instant at which the pause began, and its length in
µs. -/
structure Activation where
  lane : Nat
  pauseAt : Nat
  kinds : List Nat
  image : Bool
  began : Option (Nat × Nat) := none
  deriving DecidableEq, Repr

/-- The staging area, the activation records and the anti-rollback counters of MRAM (chapter 19). -/
structure Upd where
  /-- 0 EMPTY, 1 RECEIVING, 2 VERIFIED, 3 ACTIVATED, 4 COPYING. -/
  staging : Nat := 0
  len : Nat := 0
  digest : Nat := 0
  /-- The words written, by word index. -/
  data : Tab Word := []
  /-- The persisted contiguous prefix, in octets (R530). -/
  persisted : Nat := 0
  /-- Counters of the bundle and of kinds 0x01 to 0x04 (R532). -/
  ctrs : List Nat := [0, 0, 0, 0, 0]
  /-- The set in force: digest and bundle version, and the version of the payload of each kind. -/
  active : Nat × Nat := (0, 0)
  versions : List Nat := [0, 0, 0, 0]
  /-- The digest of the payload in force of each kind 0x01 to 0x04. -/
  payloads : List Nat := [0, 0, 0, 0]
  /-- The latest activation record: its digest, and marked copied; octets copied (R533, R535). -/
  record : Option (Nat × Bool) := none
  copied : Nat := 0
  act : Option Activation := none
  deriving DecidableEq, Repr

/-- The state of the part, on which one stream of commands acts (DESIGN CHOICE, log 102). -/
structure State where
  /-- The commands waiting, first in, first out: the queue of the block, not the spec's (DESIGN CHOICE, log 32). -/
  pending : List Instr := []
  fuse : Fuse
  /-- Cycles of PLL_CORE since power-on, by which durations are compared (DESIGN CHOICE, log 3). -/
  now : Nat := 0
  /-- The counter that free values are applied to: the model's own (DESIGN CHOICE, log 4). -/
  freeCtr : Nat := 0
  /-- What the part has put out, newest first (DESIGN CHOICE, log 8). -/
  outs : List Out := []
  /-- The register fields: bit address to the value held, exclusive-or the field's reset value. -/
  regs : Tab Nat := []
  evq : EvQueue := {}
  lanes : Tab Lane := []
  lastLane : Nat := 3
  pwr : Pwr := {}
  start : Start := {}
  cfg : Cfg := {}
  rf : Tab RfPort := []
  em : Tab Em := []
  /-- Attempts whose frame has ended and whose acknowledgement window is open, oldest first (R258 to R260). -/
  awaiting : List Tx := []
  time : TimeSt := {}
  diag : Diag := {}
  net : Net := {}
  /-- Listeners, and the records in their FTQs in the order of their PHR checks. -/
  lst : Tab Lst := []
  recs : List Rec := []
  nextRec : Nat := 0
  /-- Neighbours by handle, and the persistent entries of MRAM. -/
  nbrs : Tab Nbr := []
  persist : Tab Persist := []
  trf : Traffic := {}
  fwd : Fwd := {}
  slm : Slalom := {}
  /-- The receive map table (R226), by map_id + 256 × map_check. -/
  gt : Tab GtEntry := []
  keys : Keys
  yow : Yow := {}
  torch : Torch := {}
  upd : Upd := {}
  deriving DecidableEq, Repr

/-- The fuse word of a KPR64-64TF of the first production step (R43, R48; DESIGN CHOICE, log 2). -/
def Fuse.unit : Fuse := { part := 0x08400011, air := 0x0007FFFF, net := 0x0000801F }

/-- The part right after the power-on reset of VDD_AON, before its start sequence: every register at its reset value, every memory
empty (R36, R82, R545; DESIGN CHOICE, logs 1 and 2). -/
def State.reset : State := { fuse := Fuse.unit, keys := { root := Config.pufRoot } }

end Sys2Proof.Machine
end

