-- ==== Sys2Proof/Machine/Tab.lean ====
section
/-! DEFINITION. The operations of sparse tables, and the bit fields of words. -/

namespace Sys2Proof.Machine
open Sys2Proof

/-- The entry under a key. -/
def tabFind {α : Type} : Tab α → Nat → Option α
  | [], _ => none
  | (k, v) :: t, n => if n = k then some v else tabFind t n

/-- The entry under a key, or what an unlisted key reads as. -/
def tabGet {α : Type} (t : Tab α) (n : Nat) (d : α) : α := (tabFind t n).getD d

/-- Enter a value under a key, replacing what was there. -/
def tabPut {α : Type} : Tab α → Nat → α → Tab α
  | [], n, x => [(n, x)]
  | (k, v) :: t, n, x =>
    if n < k then (n, x) :: (k, v) :: t
    else if n = k then (n, x) :: t
    else (k, v) :: tabPut t n x

/-- Remove the entry under a key. -/
def tabDel {α : Type} : Tab α → Nat → Tab α
  | [], _ => []
  | (k, v) :: t, n => if n = k then tabDel t n else (k, v) :: tabDel t n

/-- The keys of a table rise strictly, above a bound where one is given. -/
def tabRising {α : Type} : Option Nat → Tab α → Bool
  | _, [] => true
  | none, (k, _) :: t => tabRising (some k) t
  | some b, (k, _) :: t => decide (b < k) && tabRising (some k) t

/-- The canonical form of a table: keys strictly rising. -/
def tabWf {α : Type} (t : Tab α) : Bool := tabRising none t

/-- Enter a number under a key; 0, which an unlisted key reads as, removes the entry. -/
def tabSetN (t : Tab Nat) (n x : Nat) : Tab Nat :=
  if x = 0 then tabDel t n else tabPut t n x

/-- The canonical form of a table of numbers: keys strictly rising, no entry 0. -/
def tabWfN (t : Tab Nat) : Bool := tabWf t && t.all (fun e => e.2 != 0)

/-- Enter or remove, as the option says. -/
def tabSet {α : Type} (t : Tab α) (n : Nat) : Option α → Tab α
  | some x => tabPut t n x
  | none => tabDel t n

/-- The values of a table in the order of their keys. -/
def tabVals {α : Type} (t : Tab α) : List α := t.map (·.2)

/-- Bits `[lo + w - 1 : lo]` of a number. -/
def bitsOf (x lo w : Nat) : Nat := x / 2 ^ lo % 2 ^ w

/-- Bit `i` of a number. -/
def bitOf (x i : Nat) : Bool := x / 2 ^ i % 2 == 1

/-- A bit as a number. -/
def b2n (b : Bool) : Nat := if b then 1 else 0

/-- Set or clear bit `i` of a number. -/
def setBit (x i : Nat) (b : Bool) : Nat :=
  if bitOf x i == b then x else if b then x + 2 ^ i else x - 2 ^ i

/-- The numbers below `n` whose bit is set in a mask, in rising order. -/
def bitsSet (x n : Nat) : List Nat := (List.range n).filter (fun i => bitOf x i)

/-- The mask with the bits of a list set. -/
def maskOf (l : List Nat) : Nat := l.foldl (fun m i => if bitOf m i then m else m + 2 ^ i) 0

/-- A word field: bits `[hi : lo]`. -/
def fieldOf (w : Word) (hi lo : Nat) : Nat := bitsOf w.toNat lo (hi + 1 - lo)

/-- Every bit of a word outside the given fields is 0. -/
def onlyBits (w : Word) (fields : List (Nat × Nat)) : Bool :=
  (List.range 32).all (fun i => !w.getLsbD i || fields.any (fun f => decide (f.2 ≤ i) && decide (i ≤ f.1)))

/-- A word made of fields `(value, low bit)`. -/
def wordOf (l : List (Nat × Nat)) : Word := BitVec.ofNat 32 (l.foldl (fun a f => a + f.1 * 2 ^ f.2) 0)

/-- A field of a word read as a signed number of `w` bits. -/
def signedOf (x w : Nat) : Int := if x % 2 ^ w < 2 ^ (w - 1) then (x % 2 ^ w : Nat) else (x % 2 ^ w : Nat) - (2 ^ w : Nat)

/-- A signed number as the two's complement of `w` bits. -/
def unsignedOf (i : Int) (w : Nat) : Nat := (i % (2 ^ w : Nat)).toNat

/-- Addition that saturates at the greatest number of `w` bits (the counters of the part saturate). -/
def satAdd (w a b : Nat) : Nat := min (a + b) (2 ^ w - 1)

/-- Word `k` of a long value, least significant first (R4). -/
def wordAt (x k : Nat) : Word := BitVec.ofNat 32 (x / 2 ^ (32 * k))

/-- The number held by words, least significant word first (R4). -/
def ofWords (ws : List Word) : Nat := ws.foldr (fun w a => w.toNat + 2 ^ 32 * a) 0

/-- Word `i` of a list, or 0. -/
def wAt (ws : List Word) (i : Nat) : Word := ws.getD i 0

/-- The nearest integer to `a / b`, ties away from zero (R98). -/
def roundDiv (a : Int) (b : Nat) : Int :=
  if 0 ≤ a then (2 * a + b) / (2 * b) else -((2 * (-a) + b) / (2 * b))

/-- Clamp to a range. -/
def clampI (lo hi x : Int) : Int := if x < lo then lo else if hi < x then hi else x

end Sys2Proof.Machine
end

