-- ==== Sys2Proof/Machine/Params.lean ====
section
/-! DEFINITION. Parameters of the configuration: the key of a record, and the factory defaults (R93, R96). -/

namespace Sys2Proof.Machine
open Sys2Proof

/-- The key of a parameter's record for one resource (R93). -/
def cfgKey (id res : Nat) : Nat := id + 65536 * res

/-- The factory default of a parameter for a resource; none where the chapter gives it none (R96). -/
def paramDefault (id res : Nat) : Option (List Word) :=
  match id with
  | 0x0110 => some [1]
  | 0x0111 => some [0]
  | 0x0112 => some [0]
  | 0x0113 => some [500]
  | 0x0114 => some [0x110, 100, 0x10110, 100, 0x110, 100, 0x110, 100]
  | 0x0150 => some [0, 0, 0x00FFFFFF]
  | 0x0402 => some [BitVec.ofNat 32 (res + 8 * 256), 2555914, 9830486, 20709603, 33489308, 46334563, 57213724, 64488361, 67044341]
  | 0x0403 => some [BitVec.ofNat 32 res, 0]
  | 0x0404 => some [BitVec.ofNat 32 res]
  | 0x0405 => some [BitVec.ofNat 32 res, 0]
  | 0x0441 => some [BitVec.ofNat 32 res, 0]
  | 0x0442 => some [0x2008]
  | 0x0504 => some [2, 0]
  | 0x0505 => some [BitVec.ofNat 32 (40 + 4 * 256 + 500 * 65536), BitVec.ofNat 32 (2000 + 20 * 65536 + 10 * 16777216)]
  | 0x0609 => some [BitVec.ofNat 32 (1024 + 60 * 65536 + 4 * 268435456)]
  | 0x0C01 => some [BitVec.ofNat 32 (res + (match res with | 0 => 50 | 1 => 200 | 2 => 1000 | _ => 2000) * 4
      + (match res with | 0 => 128 | 1 => 64 | 2 => 32 | _ => 8) * 262144)]
  | 0x0C02 => some [BitVec.ofNat 32 (res + 1000000 * 256), 1000000]
  | 0x0C03 => some [BitVec.ofNat 32 (res + (match res with | 0 => 2048 | 5 => 2048 | 6 => 256 | 7 => 512 | _ => 1024) * 8
      + (match res with | 5 => 1024 | 6 => 256 | 7 => 512 | _ => 2048) * 524288)]
  | 0x0C04 => some [BitVec.ofNat 32 res]
  | 0x0C05 => some [BitVec.ofNat 32 (20 + 256)]
  | 0x0701 => some [18]
  | 0x0801 => some [BitVec.ofNat 32 (2 + 4 + 60 * 4096 + 60 * 1048576), BitVec.ofNat 32 (2047 + 60 * 65536), 2000]
  | 0x0802 => some [0xAAABAAAA, 0xAAAAAAAA, 0x8AAAAAAA, 0xAAA8AAA8]
  | 0x0803 => some [BitVec.ofNat 32 res, 0, 0, 0, 0]
  | 0x0901 => some [BitVec.ofNat 32 (8 * 16777216), 1000]
  | 0x0909 => some [BitVec.ofNat 32 res, 0]
  | 0x0141 => some [BitVec.ofNat 32 res, 0, 0]
  | 0x0144 => some [BitVec.ofNat 32 (400 * 65536)]
  | 0x0145 => some [BitVec.ofNat 32 (256 + 24 * 65536)]
  | 0x0147 => some [BitVec.ofNat 32 (3 * 256)]
  | _ => none

/-- A parameter of the committed configuration; none where nothing supplies it. -/
def paramOpt (s : State) (id res : Nat) : Option (List Word) :=
  match tabFind s.cfg.committed (cfgKey id res) with
  | some ws => some ws
  | none => paramDefault id res

/-- The words of a parameter of the committed configuration. -/
def param (s : State) (id res : Nat) : List Word := (paramOpt s id res).getD []

/-- A word of a parameter, counted from 1 as the tables count request words. -/
def paramW (s : State) (id res k : Nat) : Word := wAt (param s id res) (k - 1)

/-- A field of a parameter's word. -/
def paramF (s : State) (id res k hi lo : Nat) : Nat := fieldOf (paramW s id res k) hi lo

end Sys2Proof.Machine
end

