-- ==== Sys2Proof/Machine/Ops.lean ====
section
/-! DEFINITION. The named operations over the state: register fields, time, counters, the logbook, events, outputs,
messages, the configuration, presence, the output gate and the wake and stop of domains. -/

namespace Sys2Proof.Machine
open Sys2Proof

/-- A meaning that has run: the queue and the fuse word are not its to change (R43). (DESIGN CHOICE, log 7.) -/
def done (s s' : State) : Host.Outcome State Fault Refusal :=
  .next { s' with pending := s.pending, fuse := s.fuse }

/-! Register fields. -/

/-- The key of member `i` of a field: its bit address. -/
def Field.key (f : Field) (i : Nat) : Nat := (f.base + f.stride * i) * 32 + f.lo

/-- The value a register field holds. -/
def getF (f : Field) (i : Nat) (s : State) : Nat := Nat.xor (tabGet s.regs (f.key i) 0) f.reset

/-- Set a register field. -/
def setF (f : Field) (i v : Nat) (s : State) : State :=
  { s with regs := tabSetN s.regs (f.key i) (Nat.xor (v % 2 ^ f.w) f.reset) }

/-- A one-bit field. -/
def getB (f : Field) (i : Nat) (s : State) : Bool := getF f i s == 1

/-- Set a one-bit field. -/
def setB (f : Field) (i : Nat) (b : Bool) (s : State) : State := setF f i (b2n b) s

/-- A field read as a signed number. -/
def getI (f : Field) (i : Nat) (s : State) : Int := signedOf (getF f i s) f.w

/-- Set a signed field. -/
def setI (f : Field) (i : Nat) (v : Int) (s : State) : State := setF f i (unsignedOf v f.w) s

/-! The logbook's counters (R519 to R523). -/

/-- Advance a lifetime counter, saturating at 64 bits (R519). -/
def lifeAdd (k n : Nat) (s : State) : State :=
  { s with diag := { s.diag with life := tabSetN s.diag.life k (satAdd 64 (tabGet s.diag.life k 0) n) } }

/-- Count into bin `b` of histogram `h`, saturating at 32 bits (R521). -/
def histAdd (h b n : Nat) (s : State) : State :=
  { s with diag := { s.diag with
      hist := tabSetN s.diag.hist (16 * h + b) (satAdd 32 (tabGet s.diag.hist (16 * h + b) 0) n) } }

/-- Count an outcome of a self-test: `j` is 0 tests run, 1 TRANSIENT, 2 LASTING, 3 DEFERRED (R522). -/
def classAdd (kind j : Nat) (s : State) : State :=
  { s with diag := { s.diag with
      cls := tabSetN s.diag.cls (4 * kind + j) (satAdd 32 (tabGet s.diag.cls (4 * kind + j) 0) 1) } }

/-- Add to a counter field, saturating; its lifetime counter in the logbook advances with it (R519, R520). The counters of
an RF port have lifetime counters of their own per port. -/
def countBy (f : Field) (i n : Nat) (s : State) : State :=
  let s := setF f i (satAdd f.w (getF f i s) n) s
  match f.life with
  | some k => lifeAdd (if f.base / 0x400 = 0x3000 then k + 8 * i else k) n s
  | none => s

/-- Count one. -/
def count (f : Field) (i : Nat) (s : State) : State := countBy f i 1 s

/-- The first sequence after the newest journal entry; 0 is skipped (R523). -/
def nextJseq (n : Nat) : Nat := if (n + 1) % 2 ^ 32 = 0 then 1 else (n + 1) % 2 ^ 32

/-- Write a journal entry; the 8,192 entries are written in rotation (R523). -/
def journal (type contents : Nat) (s : State) : State :=
  let e : JEntry := ⟨nextJseq s.diag.jseq, type, s.time.ns, contents⟩
  { s with diag := { s.diag with
      jseq := e.seq, journal := (if s.diag.journal.length < 8192 then s.diag.journal else s.diag.journal.drop 1) ++ [e] } }

/-! Outputs, and the free values. -/

/-- Put something out. (DESIGN CHOICE, log 8.) -/
def put (o : Out) (s : State) : State := { s with outs := o :: s.outs }

/-- The free value of this step, of `w` bits (DESIGN CHOICE, log 4). -/
def freeNow (w : Nat) (s : State) : Nat := Config.freeValue s.freeCtr % 2 ^ w

/-- Advance the counter of free values. (DESIGN CHOICE, log 4.) -/
def freeNext (s : State) : State := { s with freeCtr := s.freeCtr + 1 }

/-! Events. -/

/-- Contents packed as one field, the first item lowest (R517). (DEDUCED, log 41.) -/
def packItems : List (Nat × Nat) → Nat
  | [] => 0
  | (v, w) :: t => v % 2 ^ w + 2 ^ w * packItems t

/-- Raise an event: its record waits in the event queue of 256; where that is full it is lost and counted (R139, R464).
(DEDUCED, log 41.) -/
def raise (e : Nat × Nat) (items : List (Nat × Nat)) (s : State) : State :=
  if s.evq.q.length < 256 then
    { s with evq := { s.evq with q := s.evq.q ++ [⟨e.1, e.2, s.time.ns, packItems items % 2 ^ 96⟩] } }
  else { s with evq := { s.evq with lost := satAdd 16 s.evq.lost 1 } }

/-- Raise an event at most once per second within a scope (R574). `occ` gives the contents from the number of occurrences
that the raising reports. -/
def raiseOnce (e : Nat × Nat) (scope : Nat) (occ : Nat → List (Nat × Nat)) (s : State) : State :=
  let k := e.1 * 65536 + scope
  match tabFind s.evq.rate k with
  | some r =>
    if s.now < r.start + 1000000000 then
      { s with evq := { s.evq with rate := tabPut s.evq.rate k ⟨e, r.start, r.pend + 1, occ (r.pend + 1)⟩ } }
    else
      raise e (occ 1) { s with evq := { s.evq with rate := tabPut s.evq.rate k ⟨e, s.now, 0, []⟩ } }
  | none => raise e (occ 1) { s with evq := { s.evq with rate := tabPut s.evq.rate k ⟨e, s.now, 0, []⟩ } }

/-- An event limited to once per second that carries no count of occurrences. -/
def raisePerSecond (e : Nat × Nat) (scope : Nat) (items : List (Nat × Nat)) (s : State) : State :=
  raiseOnce e scope (fun _ => items) s

/-! Capabilities and presence (R2, R3, R47, R48). -/

/-- KEEP_CAP_PART as it reads. -/
def capPart (s : State) : Nat := if s.start.capsRead then s.fuse.part else 0
/-- KEEP_CAP_AIR as it reads. -/
def capAir (s : State) : Nat := if s.start.capsRead then s.fuse.air else 0
/-- KEEP_CAP_NET as it reads. -/
def capNet (s : State) : Nat := if s.start.capsRead then s.fuse.net else 0

def partCode (s : State) : Nat := bitsOf (capPart s) 0 4
def dieStep (s : State) : Nat := bitsOf (capPart s) 4 4
def gradeL (s : State) : Bool := bitOf (capPart s) 8
def portPresent (s : State) (p : Nat) : Bool := p < 3 && bitOf (capAir s) (16 + p)
def blockPresent (s : State) (k : Nat) : Bool := k < 8 && bitOf (capAir s) k
def listenerPresent (s : State) (n : Nat) : Bool := n < 64 && blockPresent s (n / 8)
def emitterPresent (s : State) (e : Nat) : Bool := e < 8 && bitOf (capAir s) (8 + e)
def ddrPresent (s : State) : Bool := bitOf (capNet s) 0
def ethPresent (s : State) (e : Nat) : Bool := e < 2 && bitOf (capNet s) (1 + e)
def torchCapable (s : State) : Bool := bitOf (capNet s) 4
def leafOnly (s : State) : Bool := bitsOf (capNet s) 5 2 == 1
/-- The number of neighbour records of the variant. -/
def capacity (s : State) : Nat := 1024 * bitsOf (capNet s) 8 8
/-- Lanes 0 to 2 are always present; LANE3 where the torch is (R47, R110). -/
def lanePresent (s : State) (n : Nat) : Bool := n < 3 || (n == 3 && torchCapable s)

/-- The domain is present on this variant; with the fuse word unreadable only KEEP and NET_PCIE are (R9, R47). -/
def domPresent (s : State) (d : Nat) : Bool :=
  if d ≤ 2 || d == 24 then true
  else if !s.start.capsRead then false
  else if d ≤ 5 then portPresent s (d - 3)
  else if d ≤ 13 then blockPresent s (d - 6)
  else if d == 22 then ethPresent s 0
  else if d == 23 then ethPresent s 1
  else if d == 25 then ddrPresent s
  else d ≤ 25

/-- PCIe is used: the image does not mark it unused (R40, R139). -/
def pcieUsed (s : State) : Bool := !(paramW s 0x0112 0 1).getLsbD 3

/-! Messages and lanes. -/

/-- Send a message on an MSI-X vector, or hold it pending where the vector is masked. No message is sent while configuration space
forbids messages or mastering, in D3hot, or without a link (R453, R557). (PRESUMED, log 25.) -/
def msixSend (v : Nat) (s : State) : State :=
  if !s.net.msixEn || s.net.funcMask || !s.net.busMaster || s.net.d3hot || !getB F.netPcieStatus_link_up 0 s then s
  else if bitOf (tabGet s.net.msix (4 * v + 3) 1) 0 then { s with net := { s.net with pba := setBit s.net.pba v true } }
  else put (.msix v (tabGet s.net.msix (4 * v) 0 + 2 ^ 32 * tabGet s.net.msix (4 * v + 1) 0) (tabGet s.net.msix (4 * v + 2) 0)) s

/-- A lane. -/
def lane (s : State) (n : Nat) : Lane := tabGet s.lanes n {}
/-- Replace a lane. -/
def setLane (n : Nat) (l : Lane) (s : State) : State := { s with lanes := tabPut s.lanes n l }

/-- Words of the response FTQ that a reader can take: those that have stages (R110, R120). -/
def respFill (l : Lane) : Nat := min l.resp.length (128 - l.held.length)
/-- The response of the latest command has been written in full (R120, R127). -/
def respWritten (l : Lane) : Bool := l.resp.length + l.held.length ≤ 128

/-- The interrupt words of a lane: words 2 and 3 of SYS_LANE_CONFIG as committed (R138). -/
def laneCfgW (s : State) (n : Nat) : Word := paramW s 0x0114 0 (2 * n + 1)
/-- irq_en of a lane. -/
def laneIrq (s : State) (n : Nat) : Bool := (laneCfgW s n).getLsbD 8

/-- Signal a condition of a lane: one message per occurrence on LANE0 and LANE1 (R130). -/
def laneSignal (n : Nat) (s : State) : State :=
  if n < 2 && laneIrq s n then msixSend (fieldOf (laneCfgW s n) 21 16) s else s

/-- Write response words to a lane; resp_fill rising from 0 is signalled (R127, R130). -/
def laneWrite (n : Nat) (ws : List Word) (s : State) : State :=
  let l := lane s n
  let l' := { l with resp := l.resp ++ ws }
  let s' := setLane n l' s
  if respFill l == 0 && respFill l' != 0 then laneSignal n s' else s'

/-- The status codes (R126). -/
inductive Status where
  | ok | okAlready | badOpcode | badLength | badParam | absent | notPermitted | busy | notCommitted | sleepRefused
  | outputsHeld | noReference | notFound | full | domainFailed | authFail | replay | tamperAbort | exhausted | laneError
  deriving DecidableEq, Repr

/-- The code of a status (R126). -/
def Status.code : Status → Nat
  | .ok => 0x0000 | .okAlready => 0x0001 | .badOpcode => 0x0100 | .badLength => 0x0101 | .badParam => 0x0102
  | .absent => 0x0103 | .notPermitted => 0x0104 | .busy => 0x0200 | .notCommitted => 0x0201 | .sleepRefused => 0x0202
  | .outputsHeld => 0x0203 | .noReference => 0x0204 | .notFound => 0x0205 | .full => 0x0206 | .domainFailed => 0x0207
  | .authFail => 0x0300 | .replay => 0x0301 | .tamperAbort => 0x0302 | .exhausted => 0x0303 | .laneError => 0x0400

/-- Word 0 of a response (R122). -/
def respWord0 (st : Status) (tag : Byte) (len : Nat) : Word := wordOf [(st.code, 0), (len % 256, 16), (tag.toNat, 24)]

/-- A whole response (R122, R124). -/
def response (st : Status) (tag : Byte) (ws : List Word) : List Word := respWord0 st tag ws.length :: ws

/-- The GZ_LANE_ERROR response that a resync owes, once nothing of the lane executes or waits (R121). -/
def laneErrorDue (n : Nat) (s : State) : State :=
  let l := lane s n
  if l.errDue && l.ex.isNone && l.ready.isNone then
    laneWrite n (response .laneError l.discTag [BitVec.ofNat 32 l.discarded])
      (setLane n { l with errDue := false, discarded := 0, discTag := 0 } s)
  else s

/-- End the command executing on a lane with its response (R124, R127); one that a PCIe reset has met has its response discarded
(R453). -/
def respond (n : Nat) (tag : Byte) (st : Status) (ws : List Word) (s : State) : State :=
  let dropped := match (lane s n).ex with
    | some x => x.dropped
    | none => false
  let s := setLane n { lane s n with ex := none } s
  laneErrorDue n (if dropped then s else laneWrite n (response st tag ws) s)

/-! Time (R421). -/

/-- The factory value of a trimmed quantity, by quantity code and index. (DESIGN CHOICE, log 2.) -/
def factoryOf (s : State) (q i : Nat) : Int := tabGet s.cfg.factory (q + 256 * i) 0

/-- The clamped effective value of an additive quantity (R98). -/
def effAdd (s : State) (q i : Nat) (trim lo hi : Int) : Int := clampI lo hi (factoryOf s q i + trim)

/-- The trim of a front-end quantity of a port (R98, R170). -/
def rfTrim (s : State) (q p : Nat) : Int := signedOf (paramF s 0x0405 (q + 16 * p) 2 15 0) 16

/-- The effective reference frequency offset in ppb (R98, R421). -/
def refOffPpb (s : State) : Int := effAdd s 7 0 (rfTrim s 7 0) (-4000) 4000

/-- What keep time advances by in one cycle, as a numerator over 2^40 × 10^9 (R421). -/
def incNum (s : State) : Int :=
  (2 ^ 40 * 1000000000 : Nat) + refOffPpb s * (2 ^ 40 : Nat) + getI F.keepTimeRate_rate_adj 0 s * 1000000000

/-- Let `n` cycles pass: keep time advances by inc_ns in each (R421), and the logbook counts the whole seconds (R520).
(DESIGN CHOICE, log 3.) -/
def elapse (n : Nat) (s : State) : State :=
  let secs := (s.now + n) / 1000000000 - s.now / 1000000000
  let s := if secs = 0 then s else lifeAdd 0 secs s
  let tot : Nat := s.time.frac + n * (incNum s).toNat
  { s with
    now := s.now + n
    time := { s.time with
      ns := (s.time.ns + tot / (2 ^ 40 * 1000000000)) % 2 ^ 64, frac := tot % (2 ^ 40 * 1000000000) } }

/-- Let time pass up to an instant, if it lies ahead: a step that stands for a moment is taken at that moment (DESIGN CHOICE, log 3).
(DESIGN CHOICE, log 103.) -/
def waitTill (t : Nat) (s : State) : State := if t ≤ s.now then s else elapse (t - s.now) s

/-- Let time pass until keep time has reached a value, if it lies ahead (DESIGN CHOICE, log 3). -/
def waitKeep (k : Nat) (s : State) : State :=
  if k ≤ s.time.ns then s
  else elapse (((k - s.time.ns) * (2 ^ 40 * 1000000000) - s.time.frac + (incNum s).toNat - 1) / (incNum s).toNat) s

/-! Domains (R61 to R77). -/

/-- The state of a domain: 0 on, 1 retention, 2 off, 3 FAILED (R78). WICK is always on (R62). -/
def domState (s : State) (d : Nat) : Nat :=
  if d = 0 then 0 else if domPresent s d then getF F.keepPwrState_state d s else 2
/-- The domain is on. -/
def domOn (s : State) (d : Nat) : Bool := domState s d == 0
/-- The domain is FAILED or blocked by one that is. -/
def domDead (s : State) (d : Nat) : Bool := domState s d == 3 || (domPresent s d && getB F.keepPwrState_blocked d s)

/-- The domain that serves a register address (R546). -/
def domOfAddr (a : Nat) : Nat :=
  if a < 0x20 then 0
  else if a < 0x400000 then 1
  else if a < 0x402000 then 15
  else if a < 0x403000 then 17
  else if a < 0x404000 then 16
  else if a < 0x405000 then 15
  else if a < 0x800000 then 17
  else if a < 0x800400 then 18
  else if a < 0x801000 then 20
  else if a < 0x802000 then 19
  else if a < 0x806000 then 21
  else if a < 0x808000 then 24
  else if a < 0x808100 then 22
  else if a < 0x809000 then 23
  else if a < 0x80A000 then 25
  else if a < 0xC00000 then 18
  else if a < 0xC00400 then 3 + (a - 0xC00000) / 0x100
  else if a < 0xC10000 then 14
  else if a < 0xC11000 then 6 + (a - 0xC10000) / 0x200
  else if a < 0xC11040 then 6 + (a - 0xC11000) / 4
  else 14

/-- A field that shows what is retired, which lasts until the next part reset: contexts and listeners, engines, cores (R200, R201,
R355, R403). -/
def showsRetired (k v : Nat) : Bool :=
  let a := k / 32
  let i := (a - 0xC10000) / 0x40
  (decide (0xC10000 ≤ a) && decide (a < 0xC11000) && a % 0x40 == 0x0C
    && ([F.airLstStatus_single.key i, F.airLstStatus_retired.key i, F.airLstStatus_ctx0_spare.key i, F.airLstStatus_ctx1_spare.key i].contains k
      || ([F.airLstStatus_ctx0_state.key i, F.airLstStatus_ctx1_state.key i].contains k && v == 3)))
    || (decide (0xC11000 ≤ a) && decide (a < 0xC11020))
    || [F.linkCiphStatus_in_service.key 0, F.netHciphStatus_in_service.key 0, F.netCoreStatus_retired_mask.key 0].contains k

/-- Registers of a domain return to their reset values (R545). -/
def clearRegs (d : Nat) (s : State) : State :=
  { s with regs := s.regs.filter (fun e => domOfAddr (e.1 / 32) != d || showsRetired e.1 e.2) }

/-- The PLL lock bits follow the domains that are on (R61). -/
def pllRefresh (s : State) : State :=
  let used (p : Nat) : Bool := (List.range 26).any (fun d => domOn s d && (Config.dom d).pll == p)
  s |> setB F.keepPwrClk_pll_core_lock 0 (used 0 && !getB F.keepPwrClk_keep_on_rc 0 s)
    |> setB F.keepPwrClk_pll_air_lock 0 (used 1)
    |> setB F.keepPwrClk_pll_eth_lock 0 (used 2)
    |> setB F.keepPwrClk_pll_ddr_lock 0 (used 3)

/-- Histogram and bin of a wake source (R521). -/
def histWake (src : Nat) (s : State) : State :=
  if src = 0 then s else if src ≤ 0x10 then histAdd 22 (src - 1) 1 s else histAdd 23 (src - 0x11) 1 s

/-- The wick records the source of a wake, the keep time at its beginning and the sequence (R77). -/
def wakeRecord (d src : Nat) (s : State) : State :=
  s |> setF F.keepPwrWsrc_code d src
    |> setF F.keepPwrWsrc_seq d (getF F.keepPwrWsrc_seq d s + 1)
    |> setF F.keepPwrWsrcTlo_time_lo d (s.time.ns % 2 ^ 32)
    |> setF F.keepPwrWsrcThi_time_hi d (s.time.ns / 2 ^ 32)
    |> histWake src

/-- A supply dip, or the 100 µs after it, defers regulator steps (R54). -/
def deferring (s : State) : Bool := getB F.keepPwrSupply_tx_hold 0 s

/-- An RF port. -/
def rf (s : State) (p : Nat) : RfPort := tabGet s.rf p {}
/-- Replace an RF port. -/
def setRf (p : Nat) (x : RfPort) (s : State) : State := { s with rf := tabPut s.rf p x }

/-- A calibration starts: it is counted, its lock is due 1,200 µs later, and nothing pends any longer (R147, R151). -/
def calBegin (p : Nat) (forced : Bool) (s : State) : State :=
  let x := rf s p
  s |> setRf p { x with calAt := s.now, lockDue := s.now + 1200000, forcedRun := forced, retried := false, forceCal := false }
    |> setF F.airRfStatus_synth p 2 |> setF F.airRfStatus_cal_pending p 0 |> setF F.airRfStatus_cal_forced p 0
    |> count F.airRfCntCal_cals p

/-- What a port does as its domain comes on: from off, where it is enabled, it calibrates; from retention it settles within
100 µs, or calibrates where a calibration was pending (R63, R147). -/
def portWakes (p : Nat) (fromOff : Bool) (s : State) : State :=
  if paramF s 0x0401 p 4 0 0 != 1 then s
  else if fromOff then calBegin p false (setRf p {} s)
  else if getB F.airRfStatus_cal_pending p s then calBegin p false s
  else
    setF F.airRfStatus_synth p 1 (setRf p { rf s p with calAt := s.now, lockDue := s.now + 100000, retried := false } s)

/-- The latest lease location of a vault entry: boundary and sequence (R406). -/
def leaseLatest (v : VEntry) : Nat × Nat :=
  v.leases.foldl (fun (b : Nat × Nat) e => if b.2 ≤ e.2.2 then e.2 else b) (0, 0)
/-- The persisted boundary of a vault entry (R406). -/
def leaseBoundary (v : VEntry) : Nat := (leaseLatest v).1
/-- The sequence of its location. -/
def leaseSeq (v : VEntry) : Nat := (leaseLatest v).2
/-- Every counter resumes at its persisted boundary (R407). -/
def resumeCounters (s : State) : State :=
  { s with keys := { s.keys with vault := s.keys.vault.map (fun e => (e.1, { e.2 with next := max e.2.next (leaseBoundary e.2) })) } }

/-- An address in network order: octet 0 highest. -/
def beAddr (a : Nat) : Nat := (List.range 16).foldl (fun x i => 256 * x + bitsOf a (8 * i) 8) 0

/-- The route tables hold the static entries of the image alone (R373). -/
def restoreTables (s : State) : State :=
  let recs (id : Nat) : List (List Word) := (s.cfg.committed.filter (fun e => e.1 % 65536 == id)).map (·.2)
  let rt := (recs 0x0804).foldl (fun t ws => tabPut t (ofWords (ws.take 4)) (⟨(wAt ws 4).toNat, 0, true⟩ : Route)) []
  let pf := (recs 0x0805).foldl (fun t ws =>
    tabPut t ((wAt ws 4).toNat * 2 ^ 128 + beAddr (ofWords (ws.take 4))) (setBit (wAt ws 5).toNat 28 true)) []
  { s with fwd := { s.fwd with routes := rt, prefixes := pf } }

/-- The link trains; the generation and width that it reaches are free values (log 4, PRESUMED, log 25). -/
def pcieTrain (s : State) : State :=
  freeNext (s |> setF F.netPcieStatus_link_up 0 1 |> setF F.netPcieStatus_speed 0 (1 + freeNow 8 s % 3)
    |> setF F.netPcieStatus_width 0 (1 + freeNow 8 s / 3 % 2))

/-- What a domain loses and resumes beside its registers as it comes on (R63): the listeners of a block are empty, a port
locks again, the PCIe link trains (R84), the counters of the keys resume (R407), and the route tables are those of the image (R373).
(DEDUCED, log 74.) -/
def domReload (d : Nat) (fromOff : Bool) (s : State) : State :=
  if 3 ≤ d && d ≤ 5 then portWakes (d - 3) fromOff s
  else if d = 24 then (if pcieUsed s && !getB F.keepPwrSupply_io33_low 0 s then pcieTrain s else s)
  else if !fromOff then s
  else if 6 ≤ d && d ≤ 13 then { s with lst := s.lst.filter (fun e => e.1 / 8 != d - 6) }
  else if d = 16 then resumeCounters { s with keys := { s.keys with cache := [] } }
  else if d = 21 then resumeCounters s
  else if d = 19 then
    let s := restoreTables s
    raise Ev.netFwdTablesLost [(s.fwd.routes.length + s.fwd.prefixes.length, 32)] s
  else s

/-- The domain's last step has ended: it is on (R64). A return after an escalation is noted (R107). The wick's regulator is in
normal mode with KEEP_CPU on (R55). -/
def domComeOn (d : Nat) (s : State) : State :=
  (if d = 1 then setF F.keepPwrWick_lp_mode 0 0 s else s) |> setF F.keepPwrState_state d 0 |> setF F.keepPwrState_waking d 0 |> setF F.keepPwrState_blocked d 0
    |> (fun s => { s with pwr := { s.pwr with
        escalated := (if (tabFind s.pwr.escalated d).isSome then tabPut s.pwr.escalated d true else s.pwr.escalated)
        held := s.pwr.held.filter (· != d) } })

/-- The last steps of a wake: a domain that leaves off has lost its registers and is reloaded (R63, R64, R545). Those of KEEP_CPU have
been reset with the part, and the start sequence has written some of them since (R108). -/
def finishWake (d : Nat) (s : State) : State :=
  let off := domState s d == 2
  domReload d off (domComeOn d (if off && d != 1 then clearRegs d s else s))

/-- NET_DDR is not started while VDDQ or VDD2 is low (R51, R53). -/
def railsHold (s : State) (d : Nat) : Bool := d == 25 && (s.pwr.vddqLow || s.pwr.vdd2Low)

/-- What PWR_SLEEP_ENTER answers (R80): members of the active set in their sleep state, the domain that refused and its reason,
and the members FAILED or blocked. -/
def sleepWords (s : State) (who why : Nat) : List Word :=
  let (m, o) := match s.pwr.active with
    | some (_, m, o, _) => (m, o)
    | none => (0, 0)
  let rests (d : Nat) : Bool := bitOf m d && (domState s d == 2 || (domState s d == 1 && !bitOf o d))
  [BitVec.ofNat 32 (maskOf ((List.range 26).filter (fun d => domPresent s d && rests d))), BitVec.ofNat 32 (who + 256 * why),
    BitVec.ofNat 32 (maskOf ((List.range 26).filter (fun d => domPresent s d && bitOf m d && domDead s d)))]

/-- Wake one domain whose dependencies are on: it records the source, and from off its registers read their reset
values and are reloaded with the committed configuration (R63, R77, R545). A wake during a dip waits for its end (R54); while the
reference is lost the domains stay in retention (R59). -/
def wakeOne (src d : Nat) (s : State) : State :=
  if !domPresent s d || domState s d == 0 || domState s d == 3 || railsHold s d || (s.pwr.refLost && 2 < d) then s
  else if (Config.dom d).deps.any (fun e => domDead s e) then setF F.keepPwrState_blocked d 1 s
  else if deferring s && !(d == 2 && src == 0x10) then
    if (tabFind s.pwr.deferred d).isSome then s
    else
      let s := setF F.keepPwrState_waking d 1 (wakeRecord d src s)
      { s with pwr := { s.pwr with deferred := tabPut s.pwr.deferred d src } }
  else finishWake d (wakeRecord d src (setF F.keepPwrState_retries d 0 s))

/-- Wake a domain; one it depends on that is not on is woken first, with source DEPENDANT (R65). One that is on stays as it is. -/
def wake (src d : Nat) (s : State) : State :=
  if domState s d == 0 then s
  else
    let r := Config.dom d
    let up (s : State) (e : Nat) : State :=
      (Config.dom e).deps.foldl (fun s e' => wakeOne 0x0F e' s) s |> wakeOne 0x0F e
    pllRefresh (wakeOne src d (if domState s d == 3 then s else r.deps.foldl up s))

/-- Wake several domains, in wake order (R65). -/
def wakeAll (src : Nat) (ds : List Nat) (s : State) : State :=
  (Config.wakeOrder.filter (fun d => ds.contains d)).foldl (fun s d => wake src d s) s

/-- The mask of the domains in a state, absent ones left out (R80). -/
def domMask (s : State) (p : Nat → Bool) : Nat :=
  maskOf ((List.range 26).filter (fun d => domPresent s d && p d))

/-- A domain becomes FAILED: supply off, dependants blocked, the safe state of the chip applied by the holds (R68, R13). -/
def domFail (d step : Nat) (s : State) : State :=
  let s := s |> setF F.keepPwrState_state d 3 |> setF F.keepPwrState_waking d 0
    |> count F.keepPwrCntFailed_failed 0 |> raise Ev.keepDomainFailed [(d, 32), (step, 2)]
  let s := (List.range 26).foldl (fun s e =>
    if (Config.dom e).deps.contains d && domPresent s e && domState s e != 0 && domState s e != 3
    then setF F.keepPwrState_blocked e 1 s else s) s
  pllRefresh { s with pwr := { s.pwr with held := d :: s.pwr.held.filter (· != d) } }

/-- A wake that fails in every retry: two retries are raised and counted, then the domain is FAILED (R68). -/
def wakeFails (src d step : Nat) (s : State) : State :=
  if !domPresent s d || domState s d == 0 || domState s d == 3 then s
  else
    let retry (k : Nat) (s : State) : State :=
      s |> raise Ev.keepDomainRetry [(d, 32), (step, 2), (k, 32)] |> count F.keepPwrCntRetry_retries 0
    wakeRecord d src s |> retry 1 |> retry 2 |> setF F.keepPwrState_retries d 2 |> domFail d step

/-- Wake several domains in wake order, of which some fail in every retry (R68). -/
def wakeAllBut (src : Nat) (dead ds : List Nat) (s : State) : State :=
  (Config.wakeOrder.filter (fun d => ds.contains d)).foldl
    (fun s d => if dead.contains d then wakeFails src d 0 s else wake src d s) s

/-! The output gate (R99 to R101). -/

/-- The reason bits (R99). -/
def gateReasons (s : State) : Nat := getF F.keepGate_reasons 0 s
/-- The mask of open lines: TX, FWD, TORCH, GPIO in bits 0 to 3 (R108). -/
def gateOpen (s : State) : Nat :=
  getF F.keepGate_tx_open 0 s + 2 * getF F.keepGate_fwd_open 0 s + 4 * getF F.keepGate_torch_open 0 s
    + 8 * getF F.keepGate_gpio_open 0 s
/-- A line is open. -/
def txOpen (s : State) : Bool := getB F.keepGate_tx_open 0 s
def fwdOpen (s : State) : Bool := getB F.keepGate_fwd_open 0 s
def torchOpen (s : State) : Bool := getB F.keepGate_torch_open 0 s
def gpioOpen (s : State) : Bool := getB F.keepGate_gpio_open 0 s

/-- The lines that no set reason closes, once the start sequence has opened the gate (R99). -/
def gateWanted (s : State) : Nat :=
  if !s.start.gateReady then 0
  else if setBit (gateReasons s) 11 false != 0 then 0
  else if bitOf (gateReasons s) 11 then 15 - s.start.holdLines % 16
  else 15

/-- An emitter. -/
def em (s : State) (e : Nat) : Em := tabGet s.em e {}
/-- Replace an emitter. -/
def setEm (e : Nat) (x : Em) (s : State) : State := { s with em := tabPut s.em e x }
/-- The port an emitter is bound to. -/
def emPort (s : State) (e : Nat) : Nat := paramF s 0x0421 e 1 5 4
/-- The emitter is bound by the committed piste plan (R153). -/
def emBound (s : State) (e : Nat) : Bool := emitterPresent s e && paramF s 0x0421 e 1 8 8 == 1

/-- KEEP_CPU is on or in retention: the start sequence has turned it on, and it has not FAILED. -/
def keepUp (s : State) : Bool := domState s 1 ≤ 1

/-- A host access to a register that KEEP_CPU serves wakes it (R67); where it is off or FAILED the access has no effect.
(DEDUCED, log 87.) -/
def keepAccess (f : State → State) (s : State) : State := if keepUp s then f (wake 0x04 1 s) else s

end Sys2Proof.Machine
end

