-- ==== Sys2Proof/Machine/Member.lean ====
section
/-! DEFINITION. Membership of a Yowiob cluster: the election of the root, the upstream, the membership states and the span (R483
to R486); and the configuration of clusters and of the torch. -/

namespace Sys2Proof.Machine
open Sys2Proof

/-! Configuration (R507, R508). -/

/-- A field of CLUSTER_CONFIG. -/
def yowF (s : State) (w hi lo : Nat) : Nat := paramF s 0x0B01 0 w hi lo
/-- The cluster is enabled. -/
def yowOn (s : State) : Bool := yowF s 1 0 0 == 1
/-- The port is a cluster port. -/
def yowPort (s : State) (e : Nat) : Bool := yowOn s && bitOf (yowF s 1 2 1) e
/-- yow_secure, budget_ns, the key entry and the identifier of the cluster. (DEDUCED, log 89.) -/
def yowSecure (s : State) : Bool := yowF s 1 21 21 == 1
def yowBudget (s : State) : Nat := (paramW s 0x0B01 0 2).toNat
def yowKey (s : State) : Nat := yowF s 3 28 16
def yowId (s : State) : Nat := ofWords (((param s 0x0B01 0).drop 3).take 2)
/-- The time interval in ns (R487). -/
def yowInterval (s : State) : Nat := 2 ^ yowF s 1 19 16 * 7812500
/-- The unit_id of KEY_CONFIG (R405). -/
def keyUnitId (s : State) : Nat := paramF s 0x0701 0 1 15 8

/-- A field of TORCH_CONFIG. -/
def torchF (s : State) (w hi lo : Nat) : Nat := paramF s 0x0B02 0 w hi lo
/-- The torch is enabled. -/
def torchOn (s : State) : Bool := torchCapable s && torchF s 1 0 0 == 1
def torchPort (s : State) : Nat := torchF s 1 1 1
def claimPriority (s : State) : Nat := torchF s 1 15 8
def torchUnitId (s : State) : Nat := torchF s 1 23 16
/-- hold_period_ms, mirror_ms and mirror_timeout_ms in ns. -/
def holdPeriod (s : State) : Nat := 1000000 * torchF s 1 28 24
def mirrorNs (s : State) : Nat := 1000000 * torchF s 2 7 0
def mirrorTimeout (s : State) : Nat := 1000000 * torchF s 2 23 8

/-! Membership (R483 to R486). -/

/-- A cluster link. -/
def yowLink (s : State) (e : Nat) : YowLink := tabGet s.yow.links e {}
/-- Change a cluster link. -/
def modLink (e : Nat) (f : YowLink → YowLink) (s : State) : State :=
  { s with yow := { s.yow with links := tabPut s.yow.links e (f (yowLink s e)) } }
/-- A cluster port whose link is up. -/
def yowUp (s : State) (e : Nat) : Bool := yowPort s e && getB F.netEthStatus_link e s
/-- The cluster ports whose link is up. -/
def yowPorts (s : State) : List Nat := [0, 1].filter (yowUp s)

/-- Some peer is heard: the part is not the only member. -/
def yowPeers (s : State) : Bool := (yowPorts s).any (fun e => (yowLink s e).peer.isSome)
/-- The root_priority that counts: a leaf-only part has 0 unless it is the only member (R483). -/
def ownPriority (s : State) : Nat := if leafOnly s && yowPeers s then 0 else yowF s 1 15 8

/-- What a link offers: root, its priority, and acc_latency_ns, from the latest TIME or, before one, from HELLO (R483, R484). -/
def yowOffer (s : State) (e : Nat) : Option (Nat × Nat × Nat) :=
  let l := yowLink s e
  match l.peer with
  | some p =>
    if !yowUp s e || p.hello.priority = 0 || p.hello.root = Config.serialNumber then none
    else
      let c := match l.corr with
        | some (r, c) => if r = p.hello.root then c else p.hello.acc
        | none => p.hello.acc
      some (p.hello.root, p.hello.priority, c + l.delay)
  | none => none
/-- The offers of the links: port, root, priority, acc_latency_ns. -/
def yowOffers (s : State) : List (Nat × Nat × Nat × Nat) :=
  [0, 1].filterMap (fun e => (yowOffer s e).map (fun o => (e, o)))

/-- A root ranks before another: higher priority, then lower serial number (R483). -/
def rootBefore (p q serial other : Nat) : Bool := decide (q < p) || (p == q && decide (serial < other))

/-- The elected root among the part and the offers that fit the budget, as serial and priority (R483, R484). -/
def yowElected (s : State) : Option (Nat × Nat) :=
  let own := if ownPriority s = 0 then none else some (Config.serialNumber, ownPriority s)
  (yowOffers s).foldl (fun (b : Option (Nat × Nat)) o =>
    if yowBudget s < o.2.2.2 then b
    else match b with
      | none => some (o.2.1, o.2.2.1)
      | some r => if rootBefore o.2.2.1 r.2 o.2.1 r.1 then some (o.2.1, o.2.2.1) else b) own

/-- The least of the offers by acc_latency_ns: port and latency. -/
def leastOffer (os : List (Nat × Nat × Nat × Nat)) : Option (Nat × Nat) :=
  os.foldl (fun (b : Option (Nat × Nat)) o => match b with
    | none => some (o.1, o.2.2.2)
    | some x => if o.2.2.2 < x.2 then some (o.1, o.2.2.2) else b) none

/-- The upstream: among the links that offer the elected root within the budget, that with the least latency (R484). -/
def yowUpstream (s : State) : Option (Nat × Nat) := match yowElected s with
  | some (r, _) => leastOffer ((yowOffers s).filter (fun o => o.2.1 == r && decide (o.2.2.2 ≤ yowBudget s)))
  | none => none

/-- The membership state: 0 OFF, 1 DISCOVER, 2 MEMBER, 3 ROOT, 4 OUT_OF_BUDGET, 5 ISOLATED (R484). -/
def yowState (s : State) : Nat :=
  if !yowOn s then 0
  else if (yowPorts s).isEmpty then 5
  else match yowElected s with
    | some (r, _) => if r = Config.serialNumber then 3 else 2
    | none => if (yowOffers s).isEmpty then 1 else 4

/-- The root's serial number; 0 where none is known. -/
def yowRoot (s : State) : Nat := match yowState s with
  | 2 | 3 => (match yowElected s with
    | some (r, _) => r
    | none => 0)
  | 4 => (match yowOffers s with
    | o :: _ => o.2.1
    | [] => 0)
  | _ => 0
/-- acc_latency_ns: of the upstream; for an OUT_OF_BUDGET part the least that exceeds the budget. (DEDUCED, log 88.) -/
def yowAcc (s : State) : Nat := match yowState s with
  | 2 => ((yowUpstream s).map (·.2)).getD 0
  | 4 => ((leastOffer (yowOffers s)).map (·.2)).getD 0
  | _ => 0

/-- The subtree count: 1 plus the counts reported (R486). -/
def yowSubtree (s : State) : Nat :=
  1 + ((yowPorts s).map (fun e => match (yowLink s e).peer with
    | some p => p.hello.subtree
    | none => 0)).sum

/-- TIME is relayed: by a MEMBER that is not leaf-only, on a cluster port other than its upstream (R485). -/
def yowRelays (s : State) : List Nat :=
  if yowState s = 2 && !leafOnly s then (yowPorts s).filter (fun e => (yowUpstream s).map (·.1) != some e) else []

/-- What has changed the membership is noted: the span, and the event (R484, R486, R488). (DEDUCED, log 88.) -/
def yowNote (old s : State) : State :=
  let st := yowState s
  let s := match st with
    | 2 => if yowState old = 2 then s else setF F.netYowSpan_span 0 1 s
    | 3 => setF F.netYowSpan_span 0 (yowSubtree s) s
    | _ => setF F.netYowSpan_span 0 1 s
  let mis := getF F.netYowStatus_slot_mismatch 0 s
  if yowState old = st && getF F.netYowStatus_slot_mismatch 0 old = mis then s
  else raise Ev.netYowMembership [(st, 3), (mis, 1), (min (yowAcc s) (2 ^ 28 - 1), 28), (yowRoot s, 64)] s

end Sys2Proof.Machine
end

