-- ==== Sys2Proof/Machine/Gate.lean ====
section
/-! DEFINITION. The output gate: its reasons, the opening and the closing of its lines, and what closing stops
(R99, R100). -/

namespace Sys2Proof.Machine
open Sys2Proof

/-- Emitters from the ramp-up to the end of the ramp-down: the frames that are on the air (R157). -/
def emOnAir (s : State) (e : Nat) : Bool :=
  match (em s e).tx with
  | some t => 3 ≤ t.phase
  | none => false

/-- Some emitter is on the air. -/
def anyOnAir (s : State) : Bool := (List.range 8).any (emOnAir s)

/-- A lane whose RF_TEST_TONE waits for its carrier on an emitter is answered (R171). -/
def answerTone (e : Nat) (st : Status) (s : State) : State :=
  [0, 1, 2].foldl (fun s n => match (lane s n).ex with
    | some x => if x.opcode == 0x040A && x.data.headD 8 == e then respond n x.tag st [] s else s
    | none => s) s

/-- An emitter stops: an attempt of it ends unacknowledged, as one cut short does (R58, R100, R260). -/
def stopEmitter (e : Nat) (s : State) : State :=
  let x := em s e
  let s := match x.tx with
    | some t => { s with awaiting := s.awaiting ++ [{ t with phase := 7, ackReq := t.ackReq || t.kind == 0 }] }
    | none => s
  s |> setEm e { x with tx := none, tone := none } |> setF F.airTxEmStatus_on_air e 0 |> answerTone e .outputsHeld

/-- Every emitter stops (R58, R100). -/
def stopEmitters (s : State) : State := (List.range 8).foldl (fun s e => stopEmitter e s) s

/-- The link of an Ethernet port goes down: it is raised, and what its peer has shown is forgotten (R474). -/
def linkDown (e : Nat) (s : State) : State :=
  if getB F.netEthStatus_link e s then
    yowNote s (modLink e (fun l => { seqs := l.seqs, txSeq := l.txSeq, helloAt := l.helloAt, reqSent := l.reqSent }) s
      |> setF F.netEthStatus_link e 0 |> setF F.netEthStatus_speed e 0 |> setF F.netEthStatus_an_done e 0
      |> raise Ev.netEthLink [(e, 1), (0, 1), (0, 2)])
  else s

/-- The Ethernet links go down: the SerDes are idle with the FWD line closed (R35). -/
def linksDown (s : State) : State := linkDown 1 (linkDown 0 s)

/-- Bring the lines to what the reasons give. TX stays open over frames already on the air, unless the closing is
`hard` (R100). -/
def gateApply (hard : Bool) (s : State) : State :=
  let want := gateWanted s
  let before := gateOpen s
  let s := if hard && !bitOf want 0 then stopEmitters s else s
  let tx := bitOf want 0 || (bitOf before 0 && !hard && anyOnAir s)
  let s := if bitOf before 1 && !bitOf want 1 then linksDown s else s
  let s := s |> setB F.keepGate_gpio_open 0 (bitOf want 3) |> setB F.keepGate_fwd_open 0 (bitOf want 1)
    |> setB F.keepGate_torch_open 0 (bitOf want 2) |> setB F.keepGate_tx_open 0 tx
  if (List.range 4).any (fun i => bitOf want i && !bitOf before i) then
    raise Ev.keepOutputsOpen [(s.time.ns, 64), (gateOpen s, 4)] s
  else s

/-- TX closes once the frames that were on the air have ended (R100). -/
def gateSettle (s : State) : State :=
  if txOpen s && !bitOf (gateWanted s) 0 && !anyOnAir s then setF F.keepGate_tx_open 0 0 s else s

/-- A closing for NO_REFERENCE, TAMPER_HOLD or DOMAIN_FAILED does not wait for the frames on the air (R100). -/
def gateHard (i : Nat) : Bool := i == 6 || i == 7 || i == 10

/-- Raise KEEP_OUTPUTS_HELD: the reason mask, and the lines that the reasons close (R100, DEDUCED, log 10). -/
def raiseHeld (s : State) : State :=
  raise Ev.keepOutputsHeld [(gateReasons s, 12), (15 - gateWanted s, 4)] s

/-- Set a gate reason (R99, R100). The event is raised each time a reason is set. -/
def setReason (i : Nat) (s : State) : State :=
  setF F.keepGate_reasons 0 (setBit (gateReasons s) i true) s |> gateApply (gateHard i) |> raiseHeld

/-- Clear gate reasons; lines that nothing closes any longer open (R99, R100). -/
def clearReasons (is : List Nat) (s : State) : State :=
  setF F.keepGate_reasons 0 (is.foldl (fun m i => setBit m i false) (gateReasons s)) s |> gateApply false

/-- A reason is set. -/
def reason (s : State) (i : Nat) : Bool := bitOf (gateReasons s) i

/-- The control processor runs firmware, the recovery loader or the boot ROM that serves lanes (R86, R576). -/
def serving (s : State) : Bool :=
  let p := getF F.keepStart_phase 0 s
  !s.start.testHeld && (p == 6 || p == 0xE || p == 0xF)

end Sys2Proof.Machine
end

