-- ==== Sys2Proof/Machine/OpTable.lean ====
section
/-! DEFINITION. The opcodes of the commands: the lengths listed for each and whether it is staged (R122, R126, R103). -/

namespace Sys2Proof.Machine

/-- A row of an opcode table: the opcode, the least and the greatest LEN listed, and whether the command is staged. -/
structure OpRow where
  op : Nat
  lo : Nat
  hi : Nat
  staged : Bool
  deriving DecidableEq, Repr

/-- Rows SYS_INFO to UPD_STATUS. -/
def opTable0 : List OpRow := [
  ⟨0x0101, 0, 0, false⟩,
  ⟨0x0102, 1, 1, false⟩,
  ⟨0x0103, 0, 255, false⟩,
  ⟨0x0104, 1, 1, false⟩,
  ⟨0x0105, 3, 3, true⟩,
  ⟨0x0106, 1, 1, false⟩,
  ⟨0x0120, 0, 0, false⟩,
  ⟨0x0121, 1, 1, false⟩,
  ⟨0x0122, 0, 0, false⟩,
  ⟨0x0123, 0, 0, false⟩,
  ⟨0x0124, 2, 255, false⟩,
  ⟨0x0125, 0, 0, false⟩,
  ⟨0x0126, 0, 0, false⟩,
  ⟨0x0127, 0, 0, false⟩,
  ⟨0x0128, 1, 1, false⟩,
  ⟨0x0140, 4, 4, true⟩,
  ⟨0x0141, 3, 3, false⟩,
  ⟨0x0142, 1, 1, false⟩,
  ⟨0x0143, 2, 2, false⟩,
  ⟨0x0144, 1, 1, true⟩,
  ⟨0x0145, 1, 1, true⟩,
  ⟨0x0146, 0, 0, false⟩,
  ⟨0x0147, 1, 1, true⟩,
  ⟨0x0201, 9, 9, false⟩,
  ⟨0x0202, 2, 255, false⟩,
  ⟨0x0203, 0, 0, false⟩,
  ⟨0x0204, 1, 1, false⟩,
  ⟨0x0205, 0, 0, false⟩]

/-- Rows UPD_ABORT to PHY_TS_TRIM_SET. -/
def opTable1 : List OpRow := [
  ⟨0x0206, 0, 0, false⟩,
  ⟨0x0301, 0, 0, false⟩,
  ⟨0x0302, 4, 4, true⟩,
  ⟨0x0303, 1, 1, false⟩,
  ⟨0x0304, 0, 0, false⟩,
  ⟨0x0305, 1, 1, false⟩,
  ⟨0x0306, 1, 1, false⟩,
  ⟨0x0307, 1, 1, false⟩,
  ⟨0x0308, 0, 0, false⟩,
  ⟨0x0401, 4, 4, true⟩,
  ⟨0x0402, 1, 1, false⟩,
  ⟨0x0403, 9, 9, true⟩,
  ⟨0x0404, 2, 2, true⟩,
  ⟨0x0405, 1, 1, true⟩,
  ⟨0x0406, 2, 2, true⟩,
  ⟨0x0407, 1, 1, false⟩,
  ⟨0x0408, 1, 1, false⟩,
  ⟨0x0409, 1, 1, false⟩,
  ⟨0x040A, 3, 3, false⟩,
  ⟨0x0420, 4, 4, true⟩,
  ⟨0x0421, 1, 1, true⟩,
  ⟨0x0422, 3, 3, true⟩,
  ⟨0x0423, 0, 0, false⟩,
  ⟨0x0424, 0, 0, false⟩,
  ⟨0x0425, 1, 1, false⟩,
  ⟨0x0426, 1, 1, false⟩,
  ⟨0x0440, 2, 2, true⟩,
  ⟨0x0441, 2, 2, true⟩]

/-- Rows PHY_TS_CORR_GET to STORE_CONFIG. -/
def opTable2 : List OpRow := [
  ⟨0x0442, 1, 1, false⟩,
  ⟨0x0443, 1, 1, true⟩,
  ⟨0x0444, 1, 1, false⟩,
  ⟨0x0445, 1, 1, false⟩,
  ⟨0x0446, 0, 0, false⟩,
  ⟨0x0501, 5, 5, true⟩,
  ⟨0x0502, 1, 129, true⟩,
  ⟨0x0503, 2, 2, true⟩,
  ⟨0x0504, 2, 2, true⟩,
  ⟨0x0505, 2, 2, true⟩,
  ⟨0x0506, 2, 18, true⟩,
  ⟨0x0510, 4, 64, false⟩,
  ⟨0x0511, 4, 64, false⟩,
  ⟨0x0512, 1, 1, false⟩,
  ⟨0x0513, 3, 3, false⟩,
  ⟨0x0514, 1, 1, false⟩,
  ⟨0x0515, 4, 4, false⟩,
  ⟨0x0516, 0, 0, false⟩,
  ⟨0x0517, 0, 0, false⟩,
  ⟨0x0601, 6, 6, false⟩,
  ⟨0x0602, 1, 1, false⟩,
  ⟨0x0603, 5, 5, false⟩,
  ⟨0x0604, 1, 1, false⟩,
  ⟨0x0605, 3, 3, false⟩,
  ⟨0x0606, 1, 1, false⟩,
  ⟨0x0607, 1, 1, false⟩,
  ⟨0x0608, 1, 1, false⟩,
  ⟨0x0609, 1, 1, true⟩]

/-- Rows STORE_STATUS to TIME_OFFSET. -/
def opTable3 : List OpRow := [
  ⟨0x060A, 0, 0, false⟩,
  ⟨0x06C0, 5, 5, true⟩,
  ⟨0x06C1, 1, 1, false⟩,
  ⟨0x06C2, 1, 1, false⟩,
  ⟨0x0701, 1, 1, true⟩,
  ⟨0x0702, 1, 255, false⟩,
  ⟨0x0703, 0, 0, false⟩,
  ⟨0x0704, 0, 0, false⟩,
  ⟨0x0705, 0, 0, false⟩,
  ⟨0x0706, 1, 1, false⟩,
  ⟨0x0707, 0, 0, false⟩,
  ⟨0x0708, 0, 0, false⟩,
  ⟨0x0801, 3, 3, true⟩,
  ⟨0x0802, 4, 4, true⟩,
  ⟨0x0803, 5, 5, true⟩,
  ⟨0x0810, 5, 5, false⟩,
  ⟨0x0811, 4, 4, false⟩,
  ⟨0x0812, 4, 4, false⟩,
  ⟨0x0813, 1, 1, false⟩,
  ⟨0x0820, 6, 6, false⟩,
  ⟨0x0821, 5, 5, false⟩,
  ⟨0x0822, 5, 5, false⟩,
  ⟨0x0823, 4, 4, false⟩,
  ⟨0x0830, 0, 0, false⟩,
  ⟨0x0901, 2, 2, true⟩,
  ⟨0x0902, 0, 0, false⟩,
  ⟨0x0903, 2, 2, false⟩,
  ⟨0x0904, 1, 1, false⟩]

/-- Rows TIME_ACCEPT to TRF_STATUS. -/
def opTable4 : List OpRow := [
  ⟨0x0905, 0, 0, false⟩,
  ⟨0x0906, 1, 1, false⟩,
  ⟨0x0907, 1, 1, false⟩,
  ⟨0x0908, 2, 2, false⟩,
  ⟨0x0909, 2, 2, true⟩,
  ⟨0x090A, 1, 1, false⟩,
  ⟨0x0A01, 1, 1, false⟩,
  ⟨0x0A10, 0, 0, false⟩,
  ⟨0x0A11, 1, 1, false⟩,
  ⟨0x0A12, 1, 1, false⟩,
  ⟨0x0A13, 0, 0, false⟩,
  ⟨0x0A14, 2, 2, false⟩,
  ⟨0x0A15, 0, 0, false⟩,
  ⟨0x0B01, 7, 7, true⟩,
  ⟨0x0B02, 2, 2, true⟩,
  ⟨0x0B03, 0, 0, false⟩,
  ⟨0x0B04, 0, 0, false⟩,
  ⟨0x0B05, 1, 1, false⟩,
  ⟨0x0B06, 0, 0, false⟩,
  ⟨0x0C01, 1, 1, true⟩,
  ⟨0x0C02, 2, 2, true⟩,
  ⟨0x0C03, 1, 1, true⟩,
  ⟨0x0C04, 1, 1, true⟩,
  ⟨0x0C05, 1, 1, true⟩,
  ⟨0x0C10, 1, 1, false⟩,
  ⟨0x0C11, 1, 1, false⟩,
  ⟨0x0C12, 1, 1, false⟩,
  ⟨0x0C13, 0, 0, false⟩]

/-- Every opcode that a command owns (R126). -/
def opTable : List OpRow :=
  opTable0 ++ opTable1 ++ opTable2 ++ opTable3 ++ opTable4

/-- The row of an opcode; none where no command owns it (R126). -/
def opRow (op : Nat) : Option OpRow := opTable.find? (fun r => r.op == op)

end Sys2Proof.Machine
end

