-- ==== Sys2Proof/Machine/Goruz.lean ====
section
/-! DEFINITION. How a Goruz command is taken: the checks of R125 in their order, the body of the command, and its
response; and what staged commands share (R103, R104). -/

namespace Sys2Proof.Machine
open Sys2Proof

/-- What the body of a command comes to: a response now, or one that a later step writes. -/
inductive Res where
  | now (st : Status) (ws : List Word) (s : State)
  | later (data : List Nat) (s : State)
  deriving DecidableEq, Repr

/-- A response without words, and without effect. -/
def fails (st : Status) (s : State) : Res := .now st [] s

/-- The unit is the standby of a torch pair, or its peer holds the torch (R494, R496). -/
def isStandby (s : State) : Bool := getF F.keepTorchStatus_role 0 s == 2

/-- The update commands (R541). -/
def isUpdateOp (op : Nat) : Bool := op / 256 == 2
/-- The logbook reads (R526). -/
def isLogRead (op : Nat) : Bool := op == 0x0A10 || op == 0x0A11 || op == 0x0A12 || op == 0x0A13 || op == 0x0A14

/-- Events are kept in the event queue for SYS_EVENT_FETCH (R139). -/
def eventsQueued (s : State) : Bool := !pcieUsed s || !s.start.capsRead || s.pwr.mramAtStart

/-- A command is served on this lane and in the present state of the part; otherwise the status of step 3 of R125. (DEDUCED, log 86.) -/
def notServed (n op : Nat) (s : State) : Option Status :=
  if s.pwr.refLost then
    if op == 0x0301 || op == 0x0306 || op == 0x0308 || op == 0x0101 || isLogRead op then none else some .noReference
  else if s.pwr.mramAtStart then
    if n < 3 && [0x0101, 0x0126, 0x0106, 0x0301, 0x0306, 0x0307, 0x0102].contains op then none else some .notPermitted
  else if reason s 5 then
    if n < 3 && (op == 0x0101 || isLogRead op || isUpdateOp op) then none else some .notPermitted
  else if reason s 7 && !([0x0101, 0x0126, 0x0106, 0x0301, 0x0705, 0x0707, 0x0702, 0x0703, 0x0704].contains op || isLogRead op)
  then some .notPermitted
  else if n == 3 && !([0x0101, 0x0103, 0x0301, 0x0705, 0x0902, 0x0B03, 0x0B04].contains op
      || (isStandby s && (isUpdateOp op || op == 0x0B06)))
  then some .notPermitted
  else if isStandby s && ((match opRow op with | some r => r.staged | none => false)
        && [0x04, 0x05, 0x06, 0x0C].contains (op / 256)
      || [0x0601, 0x0602, 0x0603, 0x0510, 0x0511, 0x0513, 0x0444, 0x0C10].contains op)
  then some .notPermitted
  else if op == 0x0106 && !eventsQueued s then some .notPermitted
  else if op == 0x0102 && n == 3 then some .notPermitted
  else none

/-- Steps 2 to 4 of R125: the first check that fails gives the status. -/
def judge (n op len : Nat) (s : State) : Option Status :=
  match opRow op with
  | none => some .badOpcode
  | some r =>
    match notServed n op s with
    | some st => some st
    | none => if r.lo ≤ len && len ≤ r.hi then none else some .badLength

/-- The lane is served at all: present, its transport usable, the part started, and no loss of the reference on LANE0, LANE1
or LANE3 (R58, R86, R110, R113). -/
def laneServed (n : Nat) (s : State) : Bool :=
  serving s && lanePresent s n && !getB F.keepGzStat_failed n s
    && (2 ≤ n || pcieUsed s) && (n == 2 || !s.pwr.refLost)

/-- An activation runs, or waits for the commands of the other lanes: no command is taken on any lane (R533, R534). -/
def activating (s : State) : Bool :=
  s.upd.act.isSome || (s.torch.pair.isNone && s.lanes.any (fun l => match l.2.ex with
    | some x => x.opcode == 0x0204
    | none => false))

/-- Nothing executes on the lane, the response of the latest command is written, and no word of another command stands
before this one (R120, R122, R127). -/
def laneFree (n : Nat) (s : State) : Bool :=
  let l := lane s n
  !activating s && l.ex.isNone && respWritten l && l.ready.isNone && l.cmd.isEmpty && l.asm.isEmpty && !getB F.keepGzStat_resync_wait n s

/-- Run a command that is taken from a lane: the checks of R125, then its body (R124, R127). -/
def runCommand (op : Nat) (body : Goruz → State → Res) (g : Goruz) (s : State) : State :=
  let n := g.lane.val
  let s := { s with lastLane := n }
  match judge n op g.words.length s with
  | some st => respond n g.tag st [] s
  | none =>
    match body g s with
    | .now st ws s => respond n g.tag st ws s
    | .later d s => setLane n { lane s n with ex := some { opcode := op, tag := g.tag, data := d } } s

/-- The transport of the lane reaches it: the windows of LANE0 and LANE1 over a PCIe link that is up (R110). (DEDUCED, log 86.) -/
def laneReached (n : Nat) (s : State) : Bool := 2 ≤ n || getB F.netPcieStatus_link_up 0 s

/-- A command that arrives whole on a lane and is taken at once. Where the lane is not reached or served, or is not free, it does not
run at this step. A lane access wakes KEEP_CPU (R67). -/
def serve (op : Nat) (body : Goruz → State → Res) (g : Goruz) (s : State) : State :=
  if laneReached g.lane.val s && laneServed g.lane.val s && laneFree g.lane.val s && g.words.length < 256 then
    runCommand op body g (wake 0x04 1 s)
  else s

/-- Word `k` of the request, counted from 1. -/
def gw (g : Goruz) (k : Nat) : Word := wAt g.words (k - 1)
/-- A field of a request word. -/
def gf (g : Goruz) (k hi lo : Nat) : Nat := fieldOf (gw g k) hi lo

/-- Fields of words that a table names, by word from 1: every other bit of the request must be 0. -/
def onlyFields (ws : List Word) (l : List (List (Nat × Nat))) : Bool :=
  (List.range ws.length).all (fun i => onlyBits (wAt ws i) (l.getD i []))

/-- A number as a response word. -/
def w32 (n : Nat) : Word := BitVec.ofNat 32 n
/-- A signed number as a response word. -/
def i32 (i : Int) : Word := BitVec.ofNat 32 (unsignedOf i 32)

/-! Staging (R103, R104). -/

/-- Another lane owns staging (R104). -/
def stagingBusy (n : Nat) (s : State) : Bool :=
  match s.cfg.owner with
  | some o => o.val != n
  | none => s.cfg.pending.isSome

/-- A parameter as the staged copy holds it; where nothing is staged, as committed (R103). -/
def stagedOpt (s : State) (id res : Nat) : Option (List Word) :=
  match tabFind s.cfg.staged (cfgKey id res) with
  | some ws => some ws
  | none => paramDefault id res

/-- Words of a parameter in the staged copy. -/
def stagedParam (s : State) (id res : Nat) : List Word := (stagedOpt s id res).getD []

/-- Change a parameter in the staged copy; the lane becomes the owner (R103, R104). -/
def stage (n : Fin 4) (id res : Nat) (ws : List Word) (s : State) : State :=
  { s with cfg := { s.cfg with staged := tabPut s.cfg.staged (cfgKey id res) ws, dirty := true, owner := some n } }

/-- End staging: the staged copy starts as the committed configuration (R103). -/
def unstage (s : State) : State :=
  { s with cfg := { s.cfg with staged := s.cfg.committed, dirty := false, owner := none } }

/-- What the check of a record finds: in range or not, the resource it names, and whether that is absent (R93). -/
structure RecInfo where
  ok : Bool
  res : Nat := 0
  absent : Bool := false
  deriving DecidableEq, Repr

/-- The body of a staged command whose request words are the value words of a parameter (R103, R104, R125). -/
def stageBody (id : Nat) (info : RecInfo) (g : Goruz) (s : State) : Res :=
  if info.absent then fails .absent s
  else if !info.ok then fails .badParam s
  else if stagingBusy g.lane.val s then fails .busy s
  else .now .ok [] (stage g.lane id info.res g.words s)

end Sys2Proof.Machine
end

