-- ==== Sys2Proof/Machine/Log.lean ====
section
/-! DEFINITION. The logbook: its journal and flushes in MRAM, and the commands that read it (R519 to R526). -/

namespace Sys2Proof.Machine
open Sys2Proof

/-- Write a journal entry, which KEEP_MRAM is woken for; with KEEP_MRAM FAILED it cannot be written (R77, R523). -/
def journalEntry (type contents : Nat) (s : State) : State :=
  let s := wake 0x14 2 s
  if domOn s 2 then journal type contents s else s

/-- The location that the next full flush writes: the next in rotation (R524). -/
def nextLoc (s : State) : Nat := (s.diag.lastLoc + 1) % 4

/-- A full flush: the next location is written and its commit word last (R524). KEEP_MRAM is woken with `src`. (DEDUCED, log 11.) -/
def fullFlush (src : Nat) (s : State) : State :=
  let s := wake src 2 s
  if !domOn s 2 then s
  else
    let s := lifeAdd 0x0D 1 s
    let d := s.diag
    let l : LogLoc := ⟨(d.seq + 1) % 2 ^ 32, s.time.ns, d.jseq, d.life, d.hist, d.cls, true⟩
    { s with diag := { d with
        locs := tabPut d.locs (nextLoc s) l, lastLoc := nextLoc s, seq := l.seq, fullAt := some s.now, fullKeep := s.time.ns } }

/-- The flush of a supply warning: full where no full flush has ended within 10 s, else a WARN entry alone (R524). The
WARN entry is written in both (DEDUCED, log 11). -/
def warnFlush (rail : Nat) (s : State) : State :=
  let s := wake 0x10 2 s
  let recent := match s.diag.fullAt with
    | some t => decide (s.now < t + 10000000000)
    | none => false
  let s := if domOn s 2 then journal 2 rail s else s
  if recent then (if domOn s 2 then lifeAdd 0x0E 1 s else s) else fullFlush 0x10 s

/-- LOGBOOK_FULL_FLUSH: 15 min of keep time after the last full flush (R524). -/
def execLogbookFullFlush (s : State) : Host.Outcome State Fault Refusal :=
  done s (fullFlush 0x14 (waitKeep (s.diag.fullKeep + 900000000000) s))

/-- Sequence of the oldest journal entry held; 0 where there is none. -/
def journalOldest (s : State) : Nat := match s.diag.journal with
  | e :: _ => e.seq
  | [] => 0

/-- LOG_STATUS (R526). -/
def bodyLogStatus (_ : Goruz) (s : State) : Res :=
  .now .ok [w32 s.diag.seq, wordOf [(s.diag.lastLoc, 0), (s.diag.invalid, 2)], w32 s.diag.jseq, w32 (journalOldest s)] s

/-- LOG_COUNTERS_GET (R526). (DEDUCED, log 82.) -/
def bodyLogCountersGet (g : Goruz) (s : State) : Res :=
  let first := gf g 1 7 0
  let n := gf g 1 14 8
  if !onlyFields g.words [[(14, 0)]] || n == 0 || 256 < first + n then fails .badParam s
  else .now .ok (wordOf [(first, 0), (n, 8)] :: (List.range n).flatMap
    (fun i => [wordAt (tabGet s.diag.life (first + i) 0) 0, wordAt (tabGet s.diag.life (first + i) 0) 1])) s

/-- LOG_HIST_GET (R526). -/
def bodyLogHistGet (g : Goruz) (s : State) : Res :=
  let h := gf g 1 4 0
  if !onlyFields g.words [[(4, 0)]] || 23 < h then fails .badParam s
  else .now .ok ((List.range 16).map (fun b => w32 (tabGet s.diag.hist (16 * h + b) 0))) s

/-- LOG_CLASS_GET (R526). -/
def bodyLogClassGet (_ : Goruz) (s : State) : Res :=
  .now .ok ((List.range 40).map (fun i => w32 (tabGet s.diag.cls i 0))) s

/-- The CRC-32 of IEEE 802.3, over octets, least significant bit first (R94). -/
def crcStep (c : Nat) (octet : Nat) : Nat :=
  (List.range 8).foldl (fun c _ => if c % 2 = 1 then Nat.xor (c / 2) 0xEDB88320 else c / 2) (Nat.xor c octet)

/-- The CRC-32 over words, in little-endian order (R94). -/
def crc32 (ws : List Word) : Nat :=
  Nat.xor 0xFFFFFFFF
    (ws.foldl (fun c w => (List.range 4).foldl (fun c i => crcStep c (bitsOf w.toNat (8 * i) 8)) c) 0xFFFFFFFF)

/-- The words of a journal entry (R523). -/
def journalWords (e : JEntry) : List Word :=
  let ws := [w32 e.seq, w32 e.type, wordAt e.time 0, wordAt e.time 1, wordAt e.contents 0, wordAt e.contents 1, wordAt e.contents 2]
  ws ++ [w32 (crc32 ws)]

/-- LOG_JOURNAL_GET (R526). -/
def bodyLogJournalGet (g : Goruz) (s : State) : Res :=
  let start := (gw g 1).toNat
  let max := gf g 2 4 0
  if !onlyFields g.words [[(31, 0)], [(4, 0)]] || max == 0 then fails .badParam s
  else
    let from' := if start = 0 then s.diag.journal else s.diag.journal.dropWhile (fun e => e.seq != start)
    if start != 0 && from'.isEmpty then fails .notFound s
    else
      let es := from'.take max
      .now .ok (w32 es.length :: es.flatMap journalWords) s

/-- LOG_FLUSH (R526). -/
def bodyLogFlush (_ : Goruz) (s : State) : Res :=
  let s' := fullFlush 0x14 s
  if domDead s 2 || !domOn s' 2 then fails .domainFailed s else .now .ok [w32 s'.diag.seq] s'

/-- Bin of the part temperature, in 0.1 °C (R521). -/
def tempBin (t : Int) : Nat := if t < -300 then 0 else if 1100 ≤ t then 15 else ((t + 400) / 100).toNat

/-- PART_TEMPERATURE_MINUTE_COUNT (R521). -/
def execPartTemperatureMinuteCount (temp : Int) (s : State) : Host.Outcome State Fault Refusal :=
  done s (histAdd 0 (tempBin temp) 1 s)

end Sys2Proof.Machine
end

