-- ==== Sys2Proof/Machine/Power.lean ====
section
/-! DEFINITION. Supplies, dips, the wick and the waking of domains, and the power commands that stop nothing (chapter
"Power, clocks and the Lamplighter"). -/

namespace Sys2Proof.Machine
open Sys2Proof

/-- The number of a rail with a warning threshold, as events pack it (R517). -/
def railCode : CoreRail → Nat
  | .core => 0
  | .v18 => 1

/-- The warning bit and the seen bit of a rail. -/
def warnField : CoreRail → Field
  | .core => F.keepPwrSupply_core_warn
  | .v18 => F.keepPwrSupply_v18_warn
/-- The seen bit of a rail. -/
def seenField : CoreRail → Field
  | .core => F.keepPwrSupply_core_dip_seen
  | .v18 => F.keepPwrSupply_v18_dip_seen

/-- Bin of a duration, in the bins of histogram 2 (R521). -/
def durationBin (ns : Nat) : Nat := if ns < 1000 then 0 else min 15 (Nat.log2 (ns / 1000) + 1)

/-- Bin of a dip's minimum: 16 equal steps from the warning down to the reset threshold (R521). -/
def minimumBin : CoreRail → Nat → Nat
  | .core, mv => min 15 ((740 - mv) * 16 / 40)
  | .v18, mv => min 15 ((1660 - mv) * 16 / 60)

/-- A dip begins: tx_hold is set, and the flush starts (R54). (DEDUCED, log 94.) -/
def supplyWarn (r : CoreRail) (s : State) : State :=
  { s with pwr := { s.pwr with dip := tabPut s.pwr.dip (railCode r) s.now } }
    |> setF (warnField r) 0 1 |> setF (seenField r) 0 1 |> setF F.keepPwrSupply_tx_hold 0 1
    |> count F.keepPwrCntDip_dips 0 |> raise Ev.keepSupplyWarn [(railCode r, 3)] |> warnFlush (railCode r)

/-- SUPPLY_RECOVERED (R54): the rail is back above its warning threshold. -/
def execSupplyRecovered (r : CoreRail) (minMv : Nat) (s : State) : Host.Outcome State Fault Refusal :=
  match tabFind s.pwr.dip (railCode r) with
  | none => done s s
  | some t =>
    let ns := min (s.now - t) (2 ^ 32 - 1)
    done s ({ s with pwr := { s.pwr with dip := tabDel s.pwr.dip (railCode r), dipEnd := s.now } }
      |> setF (warnField r) 0 0
      |> setF F.keepPwrSupply_last_dip_mv 0 minMv |> setF F.keepPwrDipNs_last_dip_ns 0 ns
      |> histAdd (1 + 2 * railCode r) (minimumBin r minMv) 1 |> histAdd (2 + 2 * railCode r) (durationBin ns) 1
      |> raise Ev.keepSupplyRecovered [(railCode r, 3), (minMv, 32), (ns, 32)])

/-- The deferred wakes resume, in wake order (R54, R65). -/
def resumeDeferred (s : State) : State :=
  let q := s.pwr.deferred
  let s := { s with pwr := { s.pwr with deferred := [] } }
  pllRefresh ((Config.wakeOrder.filter (fun d => (tabFind q d).isSome)).foldl (fun s d =>
    if domState s d == 0 || domState s d == 3 then s
    else if railsHold s d then setF F.keepPwrState_waking d 0 s
    else if (Config.dom d).deps.any (fun e => domDead s e) then
      s |> setF F.keepPwrState_waking d 0 |> setF F.keepPwrState_blocked d 1
    else finishWake d s) s)

/-- What PWR_SLEEP_EXIT, PWR_WAKE or PWR_DOMAIN_RETRY answers once every named domain is on or FAILED (R80): the mask of
those not on, or the state of the one domain. -/
def wakeAnswer (op m : Nat) (s : State) : List Word :=
  if op == 0x0307 then [w32 (domState s m)]
  else [w32 (domMask s (fun d => bitOf m d && (if op == 0x0305 then domDead s d else domState s d != 0)))]

/-- A domain that a mask names waits for the end of a dip (R54). -/
def anyDeferred (s : State) (m : Nat) : Bool := s.pwr.deferred.any (fun e => bitOf m e.1)

/-- A command that needs a power sequence finds another running (R80). -/
def powerBusy (s : State) : Bool :=
  s.lanes.any (fun l => match l.2.ex with
    | some x => decide (0x0303 ≤ x.opcode) && decide (x.opcode ≤ 0x0307)
    | none => false)

/-- Answer a wake now, or once the dip that defers it has ended (R80). -/
def answerWake (op m : Nat) (s : State) : Res :=
  if anyDeferred s (if op == 0x0307 then 2 ^ m else m) then .later [m] s else .now .ok (wakeAnswer op m s) s

/-- The commands that waited for a dip to end are answered. -/
def answerDeferred (s : State) : State :=
  [0, 1, 2].foldl (fun s n => match (lane s n).ex with
    | some x =>
      if x.opcode == 0x0304 || x.opcode == 0x0305 || x.opcode == 0x0307 then
        respond n x.tag .ok (wakeAnswer x.opcode (x.data.headD 0) s) s
      else if x.opcode == 0x0303 then
        respond n x.tag .sleepRefused (sleepWords s (x.data.headD 0xFF) (x.data.getD 1 0)) s
      else s
    | none => s) s

/-- TX_HOLD_END (R54): 100 µs after the end of the last dip. -/
def execTxHoldEnd (s : State) : Host.Outcome State Fault Refusal :=
  if !getB F.keepPwrSupply_tx_hold 0 s || !s.pwr.dip.isEmpty then done s s
  else
    done s (answerDeferred (resumeDeferred (setF F.keepPwrSupply_tx_hold 0 0 (waitTill (s.pwr.dipEnd + 100000) s))))

/-- The number of a DRAM rail, as events pack it (R517). -/
def ddrRailCode : DdrRail → Nat
  | .vddq => 4
  | .vdd2 => 5

/-- Note a DRAM rail below or back above its threshold. (DEDUCED, log 94.) -/
def setDdrRail (r : DdrRail) (low : Bool) (s : State) : State :=
  let p := match r with
    | .vddq => { s.pwr with vddqLow := low }
    | .vdd2 => { s.pwr with vdd2Low := low }
  setB F.keepPwrSupply_ddr_low 0 (p.vddqLow || p.vdd2Low) { s with pwr := p }

/-- The rail is below its threshold. -/
def ddrRailLow (r : DdrRail) (s : State) : Bool := match r with
  | .vddq => s.pwr.vddqLow
  | .vdd2 => s.pwr.vdd2Low

/-- DDR_RAIL_RECOVERY (R53): with both rails back, NET_DDR is woken from off with source SUPPLY. -/
def execDdrRailRecovery (r : DdrRail) (wakes : Bool) (s : State) : Host.Outcome State Fault Refusal :=
  if !ddrRailLow r s then done s s
  else
    let s' := setDdrRail r false s
    if !serving s || s'.pwr.vddqLow || s'.pwr.vdd2Low then done s s'
    else done s (s' |> (if wakes then wake 0x10 25 else wakeFails 0x10 25 0) |> raise Ev.keepBankIsolated [(ddrRailCode r, 3)])

/-- WICK_BROWNOUT (R56): a draw above 200 µA in low-power mode. -/
def execWickBrownout (s : State) : Host.Outcome State Fault Refusal :=
  if !getB F.keepPwrWick_lp_mode 0 s then done s s
  else
    done s (s |> setF F.keepPwrWick_lp_mode 0 0 |> setF F.keepPwrWick_brownout 0 1 |> count F.keepPwrCntBrownout_brownouts 0
      |> wake 0x11 1 |> raise Ev.keepWickBrownout [(s.time.ns, 64)])

/-- XTAL32_FAIL (R60): the wick runs from its RC until the next part reset. -/
def execXtal32Fail (s : State) : Host.Outcome State Fault Refusal :=
  if getB F.keepPwrClk_wick_on_rc 0 s then done s s
  else
    done s (s |> setF F.keepPwrClk_xtal32_ok 0 0 |> setF F.keepPwrClk_xtal32_fail 0 1 |> setF F.keepPwrClk_wick_on_rc 0 1
      |> raise Ev.keepXtal32Fail [(s.time.ns, 64)])

/-- A wake source code that a wake records (R77): codes 0x00 and 0x17 onwards are never written. -/
def srcOk (src : Nat) : Bool := 1 ≤ src && src ≤ 0x16

/-- DOMAIN_WAKE (R64 to R66): the domain is woken through its four steps. While the reference is lost the domains stay in
retention until PWR_REF_RESUME (R59). -/
def execDomainWake (d : Fin 26) (src : Fin 23) (s : State) : Host.Outcome State Fault Refusal :=
  if !srcOk src.val || (s.pwr.refLost && 2 < d.val) then done s s else done s (wake src.val d.val s)

/-! Commands (R80). -/

/-- PWR_STATUS. -/
def bodyPwrStatus (_ : Goruz) (s : State) : Res :=
  let bits (fs : List Field) : Nat := fs.foldl (fun a f => a + getF f 0 s * 2 ^ f.lo) 0
  let supply := bits [F.keepPwrSupply_core_warn, F.keepPwrSupply_v18_warn, F.keepPwrSupply_io33_low, F.keepPwrSupply_ddr_low,
    F.keepPwrSupply_tx_hold, F.keepPwrSupply_core_dip_seen, F.keepPwrSupply_v18_dip_seen, F.keepPwrSupply_io33_seen,
    F.keepPwrSupply_ddr_seen]
  let clocks := bits [F.keepPwrClk_ref_ok, F.keepPwrClk_ref_lost, F.keepPwrClk_xtal32_ok, F.keepPwrClk_xtal32_fail,
    F.keepPwrClk_wick_on_rc, F.keepPwrClk_keep_on_rc, F.keepPwrClk_pll_core_lock, F.keepPwrClk_pll_air_lock,
    F.keepPwrClk_pll_eth_lock, F.keepPwrClk_pll_ddr_lock]
  let st (d : Nat) : Nat := domState s d
  .now .ok [w32 (domMask s (fun d => st d == 0)), w32 (domMask s (fun d => st d == 1)),
    w32 (domMask s (fun d => st d == 2 || st d == 3)), w32 (domMask s (fun d => st d == 3)),
    wordOf [(supply, 0), (clocks, 16)],
    wordOf [((match s.pwr.active with | some (k, _) => k | none => 0), 0), (b2n s.pwr.active.isSome, 3),
      (getF F.keepPwrWick_lp_mode 0 s, 4)]] s

/-- The mask names an absent domain (R63, R80). -/
def namesAbsent (s : State) (m : Nat) : Bool := (List.range 26).any (fun d => bitOf m d && !domPresent s d)

/-- A sleep set that names a domain names every present domain that depends on it (R71); the dependants of one that
depends on others are named by their own entry. -/
def setClosed (s : State) (m : Nat) : Bool :=
  (List.range 26).all (fun d => !bitOf m d ||
    (List.range 26).all (fun e => !(domPresent s e && (Config.dom e).deps.contains d) || bitOf m e))

/-- The check of a sleep set definition, words 1 to 4 (R71, R80). -/
def infoSleepSet (s : State) (ws : List Word) : RecInfo :=
  let m := fieldOf (wAt ws 1) 25 0
  let o := fieldOf (wAt ws 2) 25 0
  let h := fieldOf (wAt ws 3) 23 0
  { res := fieldOf (wAt ws 0) 2 0
    absent := namesAbsent s m || namesAbsent s o
    ok := onlyFields ws [[(2, 0)], [(25, 0)], [(25, 0)], [(23, 0)]]
      && !bitOf m 0 && setClosed s m && (List.range 26).all (fun d => !bitOf o d || (bitOf m d && (Config.dom d).offOk))
      && (h == 0 || (10 ≤ h && h ≤ 100000)) }

/-- PWR_SLEEP_SET_DEFINE, staged as parameter 0x0302 (R80). -/
def bodyPwrSleepSetDefine (g : Goruz) (s : State) : Res := stageBody 0x0302 (infoSleepSet s g.words) g s

/-- The members that a mask names, in wake order. -/
def maskDomains (m : Nat) : List Nat := Config.wakeOrder.filter (fun d => bitOf m d)

/-- PWR_WAKE. -/
def bodyPwrWake (g : Goruz) (s : State) : Res :=
  let m := gf g 1 25 0
  if namesAbsent s m then fails .absent s
  else if !onlyFields g.words [[(25, 0)]] then fails .badParam s
  else if powerBusy s then fails .busy s
  else answerWake 0x0305 m (wakeAllBut 0x03 g.env.dead (maskDomains m) s)

/-- PWR_WAKE_SOURCE. -/
def bodyPwrWakeSource (g : Goruz) (s : State) : Res :=
  let d := gf g 1 4 0
  if d < 26 && !domPresent s d then fails .absent s
  else if !onlyFields g.words [[(4, 0)]] || 25 < d then fails .badParam s
  else .now .ok [wordOf [(getF F.keepPwrWsrc_code d s, 0), (getF F.keepPwrWsrc_seq d s, 16)],
    w32 (getF F.keepPwrWsrcTlo_time_lo d s), w32 (getF F.keepPwrWsrcThi_time_hi d s)] s

/-- PWR_REF_RESUME (R81): KEEP_CPU returns to PLL_CORE, the loss ends, the domains placed in retention wake, and the gate
opens if nothing else holds it. -/
def bodyPwrRefResume (g : Goruz) (s : State) : Res :=
  if !getB F.keepPwrClk_ref_ok 0 s then fails .noReference s
  else if !s.pwr.refLost then fails .okAlready s
  else
    let ds := s.pwr.refDoms
    let s := { s with pwr := { s.pwr with refLost := false, refDoms := [] }, time := { s.time with onRc := false } }
    let s := setF F.keepPwrClk_keep_on_rc 0 0 s
    .now .ok [] (pllRefresh (wakeAllBut 0x13 g.env.dead ds s) |> clearReasons [6])

end Sys2Proof.Machine
end

