-- ==== Sys2Proof/Machine/Phy.lean ====
section
/-! DEFINITION. PHY modes: codes, widths, lengths and times on the air, timestamp corrections, and the constants of the RF
ports (R141, R207 to R211, R218, R230). -/

namespace Sys2Proof.Machine
open Sys2Proof

/-- A row of the table "RF ports" (R141): band, window, LO range in kHz, greatest driver output in 0.05 dBm. -/
structure PortRow where
  bandLo : Nat
  bandHi : Nat
  window : Nat
  loLo : Nat
  loHi : Nat
  drive : Int
  deriving DecidableEq, Repr

/-- The table "RF ports" (R141). -/
def portRow (p : Nat) : PortRow :=
  if p = 0 then ⟨410000, 510000, 20000, 420000, 500000, 280⟩
  else if p = 1 then ⟨750000, 960000, 30000, 765000, 945000, 280⟩
  else ⟨2400000, 2483500, 84000, 2441000, 2442500, 200⟩

/-- Emitters that may be bound to a port (R153). -/
def portEmitters (p : Nat) : Nat := if p = 1 then 4 else 2

/-- SUN FSK rate indices: uncoded rate in bit/s and least width in kHz (R207). -/
def fskRow (i : Nat) : Nat × Nat :=
  match i with
  | 1 => (50000, 100) | 2 => (100000, 140) | 3 => (150000, 200) | 4 => (200000, 260) | 5 => (300000, 380)
  | 6 => (200000, 200) | 7 => (400000, 380) | _ => (50000, 100)

/-- A mode code of R207 is FSK, uncoded or coded. -/
def isFsk (m : Nat) : Bool := (1 ≤ m && m ≤ 7) || (0x11 ≤ m && m ≤ 0x17)
/-- FSK with FEC. -/
def isFec (m : Nat) : Bool := 0x11 ≤ m && m ≤ 0x17
/-- SUN O-QPSK. -/
def isOqpsk (m : Nat) : Bool := (0x30 ≤ m && m ≤ 0x33) || (0x38 ≤ m && m ≤ 0x3B)
/-- MR-OFDM. -/
def isMrOfdm (m : Nat) : Bool :=
  (0x40 ≤ m && m ≤ 0x46) || (0x48 ≤ m && m ≤ 0x4E) || (0x51 ≤ m && m ≤ 0x56) || (0x5A ≤ m && m ≤ 0x5E)
/-- GT-OFDM. -/
def isGt (m : Nat) : Bool := m == 0x70 || m == 0x71 || m == 0x78 || m == 0x79
/-- A defined mode code (R207). -/
def modeOk (m : Nat) : Bool := isFsk m || isOqpsk m || isMrOfdm m || isGt m || m == 0x60

/-- Option of an OFDM mode, from 0 for option 1. -/
def ofdmOption (m : Nat) : Nat := if isGt m then (m - 0x70) / 8 else (m - 0x40) / 8
/-- MCS of an MR-OFDM mode. -/
def ofdmMcs (m : Nat) : Nat := (m - 0x40) % 8

/-- Least listener width of a mode in kHz (R207, R209); it is taken as the occupied width of the mode (DEDUCED, log 12). -/
def modeWidth (m : Nat) : Nat :=
  if isFsk m then (fskRow (m % 16)).2
  else if m == 0x60 then 2400
  else if isOqpsk m then (if m < 0x38 then 120 else 1200)
  else match ofdmOption m with
    | 0 => 1220 | 1 => 620 | 2 => 320 | _ => 180

/-- Greatest PSDU of a mode (R207). -/
def maxPsdu (m : Nat) : Nat := if m == 0x60 then 127 else 2047

/-- MR-OFDM rate in bit/s: option 1 at MCS k, halved for each further option (R210). -/
def ofdmRate (m : Nat) : Nat :=
  (match ofdmMcs m with
    | 0 => 100000 | 1 => 200000 | 2 => 400000 | 3 => 800000 | 4 => 1200000 | 5 => 1600000 | _ => 2400000) / 2 ^ ofdmOption m

/-- Rate of SUN O-QPSK in bit/s (R207). -/
def oqpskRate (m : Nat) : Nat :=
  match m with
  | 0x30 => 6250 | 0x31 => 12500 | 0x32 => 25000 | 0x33 => 50000 | 0x38 => 31250 | 0x39 => 125000 | 0x3A => 250000 | _ => 500000

/-- Duration of bits at a rate, in ns, rounded up. -/
def bitsNs (bits rate : Nat) : Nat := (bits * 1000000000 + rate - 1) / rate

/-- Duration of the SHR up to the reference point, in ns (R211, R230; FSK and O-QPSK headers as IEEE 802.15.4, PRESUMED, log 13). -/
def shrNs (s : State) (m : Nat) : Nat :=
  if isFsk m then bitsNs (8 * (paramF s 0x0442 0 1 9 0 + 2)) (fskRow (m % 16)).1
  else if m == 0x60 then 160000
  else if isOqpsk m then (if m < 0x38 then 48 * 320000 else 72 * 32000)
  else 720000

/-- Duration of the PHR, and of the grade header, in ns (R212; PRESUMED, log 13). -/
def phrNs (m : Nat) : Nat :=
  if isFsk m then bitsNs (if isFec m then 32 else 16) (fskRow (m % 16)).1
  else if m == 0x60 then 32000
  else if isOqpsk m then (if m < 0x38 then 48 * 160000 else 48 * 32000)
  else (if ofdmOption m == 0 then 360000 else 720000) + (if isGt m then (if ofdmOption m == 0 then 600000 else 1200000) else 0)

/-- Coded bits of an FSK frame's PSDU with the tail and pad bits of its FEC (R211; PRESUMED, log 13). -/
def fecBits (s : State) (len : Nat) : Nat :=
  if bitOf (paramW s 0x0442 0 1).toNat 13 then
    let n := 16 + 8 * len + 3
    2 * ((n + 15) / 16 * 16) - 32
  else 2 * (8 * len + 3)

/-- Data bits per symbol of a tone map (R216). -/
def toneBits (c : Nat) : Nat := match c with
  | 1 => 1 | 2 => 2 | 3 => 4 | 4 => 6 | _ => 0
/-- N_CBPS of a tone map (R215). -/
def mapCbps (codes : List Nat) : Nat := (codes.map toneBits).sum
/-- n_dbps of a tone map (R216). -/
def mapDbps (codes : List Nat) (rate : Nat) : Nat := if rate = 0 then mapCbps codes / 2 else mapCbps codes * 3 / 4

/-- Duration of the PSDU in ns; GT-OFDM takes it from the link's map (R216, R218). -/
def psduNs (s : State) (m len : Nat) (map : Option ToneMap) : Nat :=
  if isFsk m then bitsNs (if isFec m then fecBits s len else 8 * len) (fskRow (m % 16)).1
  else if m == 0x60 then 32000 * len
  else if isOqpsk m then bitsNs (8 * len) (oqpskRate m)
  else
    let d := match map with
      | some t => if isGt m then mapDbps t.codes t.rate else ofdmRate m * 120 / 1000000
      | none => ofdmRate m * 120 / 1000000
    120000 * ((8 * len + 6 + d - 1) / d)

/-- Airtime of a frame in ns (R211, R218). -/
def airtimeNs (s : State) (m len : Nat) (map : Option ToneMap) : Nat := shrNs s m + phrNs m + psduNs s m len map

/-- Key of a timestamp correction: part of the factory calibration. Mode 0 is the transmit correction (R230). -/
def tsQty (p m : Nat) : Nat := 0x20 + 256 * (p + 4 * (if isFsk m then m % 16 else m))
/-- Modes of one correction share it: the coded and uncoded FSK of an index, and the modes of an option or chip rate (R230). -/
def tsNominal (p m : Nat) : Int :=
  if m = 0 then (if p = 0 then 820 else if p = 1 then 760 else 610)
  else if isFsk m then (match m % 16 with
    | 1 => 14200 | 2 => 7300 | 3 => 5050 | 4 => 3900 | 5 => 2750 | 6 => 7400 | _ => 3950)
  else if m == 0x60 then 1420
  else if isOqpsk m then (if m < 0x38 then 21500 else 2600)
  else match ofdmOption m with
    | 0 => 1880 | 1 => 3560 | 2 => 6920 | _ => 13640
/-- The factory value of a timestamp correction: the nominal value and the unit's own difference from it (R230, DESIGN CHOICE, log 2). -/
def tsFactory (s : State) (p m : Nat) : Int := clampI 0 32000 (tsNominal p m + tabGet s.cfg.factory (tsQty p m) 0)
/-- The trim of a timestamp correction. -/
def tsTrim (s : State) (p m : Nat) : Int :=
  signedOf (paramF s 0x0441 (p + 4 * (if isFec m then m - 16 else m)) 2 15 0) 16
/-- The effective correction in ns (R98, R230). -/
def tsCorr (s : State) (p m : Nat) : Int := clampI 0 32000 (tsFactory s p m + tsTrim s p m)

/-- The port is enabled by the committed configuration (R170). -/
def portEnabled (s : State) (p : Nat) : Bool := portPresent s p && paramF s 0x0401 p 4 0 0 == 1
/-- LO of a port in kHz. -/
def loKhz (s : State) (p : Nat) : Nat := paramF s 0x0401 p 2 21 0
/-- Split-aerial mode. -/
def splitAerial (s : State) (p : Nat) : Bool := paramF s 0x0401 p 1 2 2 == 1
/-- The ramp time of a port in ns. -/
def rampNs (s : State) (p : Nat) : Nat := 1000 * paramF s 0x0402 p 1 14 8
/-- pa_lead_us of a port in ns. -/
def leadNs (s : State) (p : Nat) : Nat := 1000 * paramF s 0x0401 p 1 20 16
/-- fem_settle_us of a port in ns. -/
def settleNs (s : State) (p : Nat) : Nat := 1000 * paramF s 0x0401 p 1 28 24

/-- A band, given by twice its edges in kHz, lies inside a port's window and band and outside the zone about its LO
(R142, R143, R178). Twice the edges, so that half widths are whole. -/
def bandOk (lo p c2 w : Nat) : Bool :=
  let r := portRow p
  let a := c2 - w
  let b := c2 + w
  decide (2 * r.bandLo ≤ a) && decide (b ≤ 2 * r.bandHi) && decide (2 * lo ≤ a + r.window) && decide (b ≤ 2 * lo + r.window)
    && (decide (b ≤ 2 * lo - 200) || decide (2 * lo + 200 ≤ a))

end Sys2Proof.Machine
end

