-- ==== Sys2Proof/Machine/Fault.lean ====
section
/-! DEFINITION. Error events and the queues of the targeted self-tests (R510, R511, R513). -/

namespace Sys2Proof.Machine
open Sys2Proof

/-- The region of an element; that of an SRAM row is named with its event (R510, R514). -/
def elemRegion (kind region index : Nat) : Nat :=
  match kind with
  | 0 => 3 | 1 => 0 | 2 => region | 3 => 2 | 4 => 0
  | 5 => (if index < 2 then 1 else if index = 2 then 2 else 0)
  | 6 => 2 | 7 => 3 | 8 => 3 | _ => 0

/-- The domain of an element, where its kind and index give it (R513). -/
def elemDomain (kind index : Nat) : Option Nat :=
  match kind with
  | 0 => some (6 + index / 16 % 8)
  | 1 => some 1
  | 3 => some 25
  | 4 => some 2
  | 5 => some (if index < 2 then 16 else if index = 2 then 21 else 1)
  | 6 => some 20
  | 7 => some (3 + index % 3)
  | 8 => some (6 + index / 8 % 8)
  | 9 => some 1
  | _ => none

/-- The block that runs an element's test: of an SRAM row, its bank; of a lane stage, its lane; of a synthesiser, its port;
of any other, the block that holds the element (R511). (DESIGN CHOICE, log 27.) -/
def testBlock (kind index : Nat) : Nat :=
  match kind with
  | 0 => index / 16
  | 1 => 0x100 + index / 256
  | 2 => 0x10000 + index / 1024
  | 3 => 0x200
  | 4 => 0x300
  | 5 => 0x400 + (if index < 2 then 0 else index)
  | 6 => 0x500
  | 7 => 0x600 + index
  | _ => 0x700

/-- The elements waiting in a block's queue, head first. -/
def testQueue (b : Nat) (s : State) : List TestSt := tabGet s.diag.tests b []

/-- Replace a block's queue. -/
def setTestQueue (b : Nat) (q : List TestSt) (s : State) : State :=
  { s with diag := { s.diag with tests := tabSet s.diag.tests b (if q.isEmpty then none else some q) } }

/-- KEEP_FAULT's contents: kind, region byte, index, and 0 LASTING or 1 DEFERRED (R517, R518). -/
def faultItems (kind region index outcome : Nat) : List (Nat × Nat) :=
  [(kind, 4), (region + 1, 8), (index, 32), (outcome, 1)]

/-- The element is under test, and quarantined (R511). -/
def underTest (s : State) (kind index : Nat) : Bool :=
  match testQueue (testBlock kind index) s with
  | t :: _ => t.running && t.kind == kind && t.index == index
  | [] => false

/-- An outcome is counted in the classification; one that is LASTING is written to the journal and raised (R512, R520). -/
def outcomeNote (kind region index : Nat) (pass : Bool) (s : State) : State :=
  let s := classAdd kind 0 s
  if pass then lifeAdd 4 1 (classAdd kind 1 s)
  else
    s |> classAdd kind 2 |> lifeAdd 5 1 |> journalEntry 1 (packItems (faultItems kind region index 0))
      |> raise Ev.keepFault (faultItems kind region index 0)

/-- An element is retired (R520, R521). -/
def retireNote (kind index : Nat) (s : State) : State :=
  { s with diag := { s.diag with retired := tabPut s.diag.retired (kind * 2 ^ 40 + index) 1 } } |> lifeAdd 6 1 |> histAdd 19 kind 1

/-- Spare rows of an SRAM bank that are used (R514). -/
def rowsUsed (s : State) (bank : Nat) : Nat := tabGet s.diag.rowSpares bank 0

/-- The pattern test of an FTQ is due: stages 0 to 127 of an index are those of the command FTQ, 128 to 255 those of the response FTQ
(R113, log 27). -/
def patternDue (index : Nat) (s : State) : State :=
  let n := index / 256 % 4
  let l := lane s n
  setLane n (if index % 256 < 128 then { l with testCmd := true } else { l with testResp := true }) s

/-- An error event: counted at once; its element's self-test is queued. On a full queue the outcome is DEFERRED (R510 to
R513). The test of an FTQ stage is that of its FTQ (R113); a row of a bank without a spare is not tested (R515). (DESIGN CHOICE, log 27.) -/
def errorEvent (kind region index : Nat) (ecc : Bool) (s : State) : State :=
  let r := elemRegion kind region index
  let s := lifeAdd 3 1 s
  let s := if ecc then lifeAdd (9 + r) 1 s else s
  let b := testBlock kind index
  let q := testQueue b s
  if 8 ≤ kind then s
  else if kind = 1 then patternDue index s
  else if kind = 2 && 4 ≤ rowsUsed s (index / 1024) then s
  else if q.any (fun t => t.kind == kind && t.index == index) then s
  else if 8 ≤ q.length then
    s |> classAdd kind 3 |> journalEntry 1 (packItems (faultItems kind r index 1))
      |> raisePerSecond Ev.keepFault 0 (faultItems kind r index 1)
  else
    let s := setTestQueue b (q ++ [⟨kind, r, index, s.now, false⟩]) s
    match elemDomain kind index with
    | some d => if domState s d == 1 || domState s d == 2 then wake 0x15 d s else s
    | none => s

end Sys2Proof.Machine
end

