-- ==== Sys2Proof/Machine/Listen.lean ====
section
/-! DEFINITION. The piste plan as committed, slot boundaries, the contexts of the listeners, their records, and blanking
(R158 to R162, R172 to R185, R197, R198, R268). -/

namespace Sys2Proof.Machine
open Sys2Proof

/-! The piste plan (R176 to R178, R204). -/

/-- Kind of a listener: 0 off, 1 fixed, 2 pool. -/
def lstKind (s : State) (n : Nat) : Nat := if listenerPresent s n then paramF s 0x0420 n 1 9 8 else 0
/-- Port of a listener. -/
def lstPort (s : State) (n : Nat) : Nat := paramF s 0x0420 n 1 7 6
/-- Hop pool of a listener. -/
def lstPool (s : State) (n : Nat) : Nat := paramF s 0x0420 n 1 15 12
/-- Cancellation enabled. -/
def lstSic (s : State) (n : Nat) : Bool := paramF s 0x0420 n 1 16 16 == 1
/-- Capture margin in 0.25 dB (the field counts 0.5 dB). -/
def lstMargin (s : State) (n : Nat) : Int := (2 * paramF s 0x0420 n 1 29 24 : Nat)
/-- Width in kHz. -/
def lstWidth (s : State) (n : Nat) : Nat := 10 * paramF s 0x0420 n 3 7 0
/-- Mode code in a slot of the listener's mode set. (DEDUCED, log 71.) -/
def lstMode (s : State) (n i : Nat) : Nat := paramF s 0x0420 n 4 (8 * i + 7) (8 * i)
/-- The codes of the mode set; code 0 is unused. -/
def lstModes (s : State) (n : Nat) : List Nat := ((List.range 4).map (lstMode s n)).filter (· != 0)

/-- A listener. -/
def lst (s : State) (n : Nat) : Lst := tabGet s.lst n {}
/-- Replace a listener. -/
def setLst (n : Nat) (l : Lst) (s : State) : State := { s with lst := tabPut s.lst n l }
/-- The listener is retired (R201). -/
def lstRetired (s : State) (n : Nat) : Bool := getB F.airLstStatus_retired n s
/-- Centre of a listener in kHz: the plan's for a fixed listener, the assigned channel's for a pool listener (R177). -/
def lstKhz (s : State) (n : Nat) : Nat :=
  if lstKind s n = 1 then paramF s 0x0420 n 2 21 0 else if lstKind s n = 2 then (lst s n).khz else 0
/-- The bound listeners. -/
def boundLst (s : State) : List Nat := (List.range 64).filter (fun n => lstKind s n != 0)
/-- The listeners of a pool that still serve it. -/
def poolLst (s : State) (k : Nat) : List Nat :=
  (List.range 64).filter (fun n => lstKind s n == 2 && lstPool s n == k && !lstRetired s n)

/-- Port of a channel plan. -/
def planPort (s : State) (k : Nat) : Nat := paramF s 0x0422 k 1 5 4
/-- Channels of a plan; 0 where it is not defined (R176). -/
def planCount (s : State) (k : Nat) : Nat := paramF s 0x0422 k 1 25 16
/-- Centre of a channel in kHz. -/
def chanKhz (s : State) (k c : Nat) : Nat := paramF s 0x0422 k 2 21 0 + c * paramF s 0x0422 k 3 12 0

/-- Two bands, by twice their centres and widths, share an interval of non-zero width (R172). -/
def bandsMeet (c2 w d2 v : Nat) : Bool := decide (c2 < d2 + w + v) && decide (d2 < c2 + w + v)

/-- A passband at a centre lies where a pool may be assigned it (R178). -/
def reachable (s : State) (p khz w : Nat) : Bool := bandOk (loKhz s p) p (2 * khz) w
/-- Its passband overlaps that of a fixed listener of the port (R178). -/
def covered (s : State) (p khz w : Nat) : Bool :=
  (List.range 64).any (fun n => lstKind s n == 1 && lstPort s n == p
    && bandsMeet (2 * khz) w (2 * lstKhz s n) (lstWidth s n))
/-- Class of a channel: 0 assignable, 1 unreachable, 2 covered (R178). -/
def chanClass (s : State) (p khz w : Nat) : Nat :=
  if !reachable s p khz w then 1 else if covered s p khz w then 2 else 0

/-! Slots (R268 to R271). -/

/-- A flag or field of a slotframe. -/
def sfF (s : State) (k w hi lo : Nat) : Nat := paramF s 0x0503 k w hi lo
def sfEnabled (s : State) (k : Nat) : Bool := sfF s k 1 8 8 == 1
def sfAuto (s : State) (k : Nat) : Bool := sfEnabled s k && sfF s k 1 9 9 == 1
def sfLength (s : State) (k : Nat) : Nat := sfF s k 2 15 0
/-- The enabled slotframes in order of priority (R271). -/
def sfList (s : State) : List Nat := (List.range 8).filter (sfEnabled s)
/-- A time of a slotframe's template, in ns; the field counts 10 µs (R269). -/
def tmplNs (s : State) (k w hi lo : Nat) : Nat := 10000 * paramF s 0x0501 (sfF s k 1 14 12) w hi lo
/-- The slot length L of the schedule in ns; 0 where no slotframe is enabled (R269, R270). -/
def slotNs (s : State) : Nat := match sfList s with
  | k :: _ => tmplNs s k 1 31 16
  | [] => 0
/-- A TSCH schedule runs (R267). -/
def slmRunning (s : State) : Bool :=
  getB F.keepTimeState_source_ok 0 s && s.slm.epoch.isSome && slotNs s != 0 && domOn s 15
    && !getB F.netYowStatus_slot_mismatch 0 s
/-- Keep time of the boundary of the slot with ASN n (R268). -/
def slotAt (s : State) (n : Nat) : Nat := match s.slm.epoch with
  | some (t, m) => t + (n - m) * slotNs s
  | none => 0
/-- The next ASN, and its boundary is next (R268). -/
def nextAsn (s : State) : Nat := match s.slm.asn, s.slm.epoch with
  | some n, _ => n + 1
  | none, some (_, m) => m
  | none, none => 0
/-- ASN of the first boundary not before a keep time. -/
def asnFrom (s : State) (k : Nat) : Nat :=
  let n := nextAsn s
  let t := slotAt s n
  if k ≤ t || slotNs s == 0 then n else n + (k - t + slotNs s - 1) / slotNs s
/-- Keep time of the first slot boundary not before a keep time; that time itself where no schedule runs (DEDUCED, log 14). -/
def boundaryFrom (s : State) (k : Nat) : Nat := if slmRunning s then slotAt s (asnFrom s k) else k

/-! Hopping and the autonomous slotframe (R272, R274). -/

/-- The hash of RFC 9033 over the octets of an extended address, first octet highest. (PRESUMED, log 37.) -/
def saxHash (ext t : Nat) : Nat :=
  (List.range 8).foldl (fun h i =>
    let x := h + h / 2 + bitsOf ext (8 * (7 - i)) 8
    Nat.xor h x % t) 0

/-- Entries of a hopping sequence. -/
def hopLen (s : State) (i : Nat) : Nat := paramF s 0x0502 i 1 24 16
/-- Channel plan of a hopping sequence. -/
def hopPlan (s : State) (i : Nat) : Nat := paramF s 0x0502 i 1 6 4
/-- An entry of a hopping sequence. -/
def hopEntry (s : State) (i j : Nat) : Nat := if j % 2 = 0 then paramF s 0x0502 i (2 + j / 2) 8 0 else paramF s 0x0502 i (2 + j / 2) 24 16
/-- Hopping sequence and hop pool of a slotframe. (DEDUCED, log 96.) -/
def sfHop (s : State) (k : Nat) : Nat := sfF s k 1 18 16
/-- Hop pool of a slotframe. -/
def sfPool (s : State) (k : Nat) : Nat := sfF s k 1 23 20
/-- Offsets of an autonomous cell of an extended address (R274). (PRESUMED, log 37.) -/
def autoOffsets (s : State) (k ext : Nat) : Nat × Nat :=
  (1 + saxHash ext (sfLength s k - 1), 1 + saxHash ext (hopLen s (sfHop s k) - 1))
/-- The autonomous slotframe. -/
def autoFrame (s : State) : Option Nat := (List.range 8).find? (sfAuto s)

/-! Records in the FTQs (R189, R197, R198). -/

/-- Words of a record. -/
def recWords (len : Nat) : Nat := 6 + (len + 3) / 4
/-- Change the record with an identification. -/
def modRec (id : Nat) (f : Rec → Rec) (s : State) : State :=
  { s with recs := s.recs.map (fun r => if r.id = id then f r else r) }
/-- The record with an identification. -/
def findRec (s : State) (id : Nat) : Option Rec := s.recs.find? (fun r => r.id == id)
/-- Words of a listener's FTQ in use. -/
def ftqUsed (s : State) (n : Nat) : Nat := ((s.recs.filter (fun r => r.listener == n && !r.freed)).map (fun r => recWords r.len)).sum
/-- Free words of a listener's FTQ of 2,048 words (R264). -/
def ftqFree (s : State) (n : Nat) : Nat := 2048 - ftqUsed s n

/-- Release the space of a listener's finished records in record order (R243, R244): a record stays only for an acknowledgement
still to be judged. -/
def releaseIn (n : Nat) : Bool → List Rec → List Rec
  | _, [] => []
  | ok, r :: t =>
    if r.listener != n || r.freed then r :: releaseIn n ok t
    else if ok && r.done then
      if r.acked then releaseIn n ok t else { r with freed := true } :: releaseIn n ok t
    else r :: releaseIn n false t
/-- Release what can be released on every listener. -/
def releaseRecs (s : State) : State :=
  { s with recs := ((List.range 64).foldl (fun l n => releaseIn n true l) s.recs).filter (fun r => !(r.freed && r.acked)) }

/-- Jobs parked on an air engine (R322, R416). -/
def parkedJobs (s : State) (e : Nat) : Nat := (s.recs.filter (fun r => r.job == 2 + e)).length

/-- Write a record's trailer, once (R197, R198): result 1 FCS_OK, 2 FCS_FAIL, 3 ABANDONED with its reason. -/
def closeRec (id result : Nat) (sic : Bool) (reason : Nat) (s : State) : State :=
  match findRec s id with
  | none => s
  | some r =>
    if r.trailer.isSome then s
    else
      let s := modRec id (fun r => { r with trailer := some (result, sic, r.withheld, reason) }) s
      let s := setI F.airLstLevel_last_rssi_q r.listener r.level s
      if result = 1 then count F.airLstCntDelivered_delivered r.listener s
      else if result = 2 then count F.airLstCntFcs_fcs_fail r.listener s
      else s

/-! Contexts (R185). -/

/-- The frame that a context holds. -/
def ctx (l : Lst) (c : Nat) : Option RxCtx := if c = 0 then l.c0 else l.c1
/-- Replace it. -/
def withCtx (l : Lst) (c : Nat) (x : Option RxCtx) : Lst := if c = 0 then { l with c0 := x } else { l with c1 := x }
/-- The state field of a context. -/
def ctxField (c : Nat) : Field := if c = 0 then F.airLstStatus_ctx0_state else F.airLstStatus_ctx1_state
/-- State of a context: 0 SEARCH, 1 SYNC, 2 PAYLOAD, 3 RECON, 4 IDLE, 7 RETIRED. -/
def ctxState (s : State) (n c : Nat) : Nat := getF (ctxField c) n s
/-- A context searches for preambles: it is in SEARCH, and not under test (R185, R511). -/
def ctxSearches (s : State) (n c : Nat) : Bool := ctxState s n c == 0 && !underTest s 0 (2 * n + c)
/-- Set it; a retired context stays retired. -/
def setCtx (n c v : Nat) (s : State) : State := if ctxState s n c = 7 then s else setF (ctxField c) n v s
/-- The primary context. -/
def primary (s : State) (n : Nat) : Nat := getF F.airLstStatus_primary n s
/-- The shadow. -/
def shadow (s : State) (n : Nat) : Nat := 1 - primary s n

/-- A context is freed: it returns to SEARCH, and where it was primary the other takes the role if it holds a frame
(R185). -/
def freeCtx (n c : Nat) (s : State) : State :=
  let l := { withCtx (lst s n) c none with test := false }
  let s := setCtx n c 0 (setLst n l s)
  if primary s n = c && (ctx l (1 - c)).isSome then setF F.airLstStatus_primary n (1 - c) s else s

/-- A context's reception is dropped or abandoned: by reason 1 blanking, 2 retune, 3 context failure, 4 plan change. Its
record, if it has one, is closed as ABANDONED (R182, R184, R199). -/
def abandonCtx (n c reason : Nat) (s : State) : State :=
  match ctx (lst s n) c with
  | none => s
  | some x =>
    let s := match x.recId with
      | some id => closeRec id 3 false reason s
      | none => s
    let s := if reason = 1 then count F.airLstCntAbandon_blank_abandon n s
      else if reason = 3 then s else count F.airLstCntAbandon_retune_cut n s
    freeCtx n c s

/-- A captured pair is over, whatever became of it. -/
def endPair (n : Nat) (s : State) : State := setLst n { lst s n with pair := none, recon := none } s

/-- A pair whose stronger frame is lost before its end cannot be cancelled: a weaker frame that has ended, and waited for the decision,
is closed with its own result (R193, R194). -/
def dropPair (n : Nat) (s : State) : State :=
  match (lst s n).pair with
  | some p => endPair n (match p.weak with
    | some id => if p.weakEnded && (lst s n).recon.isNone then closeRec id (if p.weakOk then 1 else 2) false 0 s else s
    | none => s)
  | none => s

/-- All receptions of a listener are abandoned, and a cancellation in progress with them (R184, R196). -/
def abandonAll (n reason : Nat) (s : State) : State :=
  let l := lst s n
  let s := match l.recon, l.pair with
    | some _, some p => (match p.weak with
      | some id => closeRec id 3 false reason s
      | none => s)
    | _, _ => dropPair n s
  let s := abandonCtx n 1 reason (abandonCtx n 0 reason s)
  setLst n { lst s n with pair := none, recon := none, test := false, ckpts := [] } s

/-- One context loses its frame: with it goes the cancellation or the captured pair that needs the frame (R182, R193, R199).
(DEDUCED, log 84.) -/
def loseCtx (n c reason : Nat) (s : State) : State :=
  let l := lst s n
  let strong := match l.pair with
    | some p => p.strong == c && l.recon.isNone
    | none => false
  let weak := match l.pair, ctx l c with
    | some p, some x => p.weak.isSome && p.weak == x.recId
    | _, _ => false
  let s := if strong then dropPair n s else if weak then endPair n s else s
  let s := abandonCtx n c reason (setLst n { lst s n with test := false } s)
  match l.recon with
  | some r => if weak && r != c then freeCtx n r s else s
  | none => s

/-! Blanking (R150, R158 to R161, R183, R184). -/

/-- The emitters bound to a port. -/
def portEms (s : State) (p : Nat) : List Nat := (List.range 8).filter (fun e => emBound s e && emPort s e == p)
/-- Phase of the transmission on an emitter; 0 where there is none. -/
def emPhase (s : State) (e : Nat) : Nat := match (em s e).tx with
  | some t => t.phase
  | none => 0
/-- The port's FEM lines are in TX: from the switch of the first emitter until the return to a receive state (R156, R158);
a tuner search blanks as a transmission does (R165). -/
def portTx (s : State) (p : Nat) : Bool :=
  (rf s p).searching || (portEms s p).any (fun e => 2 ≤ emPhase s e && emPhase s e ≤ 5)
/-- An emitter between ramp-up and ramp-down whose band comes within 1 MHz of a listener's passband (R160, DEDUCED, log 15). -/
def txNear (s : State) (p n : Nat) : Bool :=
  (rf s p).searching || (portEms s p).any (fun e => match (em s e).tx with
    | some t => 3 ≤ t.phase && t.phase ≤ 5
        && bandsMeet (2 * lstKhz s n) (lstWidth s n + 2000) (2 * t.khz) (t.width)
    | none => false)
/-- The xport_blank mask of a port (R161). -/
def xportBlanks (s : State) (q p : Nat) : Bool := portEnabled s q && bitOf (paramF s 0x0401 q 1 5 3) p
/-- A bound listener is to be blanked now. -/
def mustBlank (s : State) (n : Nat) : Bool :=
  let p := lstPort s n
  lstKind s n != 0
    && (!domOn s (3 + p) || getF F.airRfStatus_synth p s != 0
      || (if splitAerial s p then txNear s p n else portTx s p)
      || (List.range 3).any (fun q => q != p && xportBlanks s q p && portTx s q))
/-- The listener is idle: unbound, its port not on, its block not on, or retired (R183). -/
def lstIdle (s : State) (n : Nat) : Bool :=
  lstKind s n == 0 || !domOn s (3 + lstPort s n) || !domOn s (6 + n / 8) || lstRetired s n

/-- A context's self-test runs: it is quarantined (R11, R199). -/
def ctxTested (s : State) (n c : Nat) : Bool :=
  (testQueue (testBlock 0 (2 * n + c)) s).any (fun t => t.running && t.index == 2 * n + c)

/-- Blanking of a listener begins: its receptions are abandoned (R184). -/
def blankBegin (n : Nat) (s : State) : State :=
  let s := abandonAll n 1 s
  setLst n { lst s n with blankAt := some s.now } (setF F.airLstStatus_blanked n 1 s)

/-- Blanking ends: its time is counted in units of 10 µs (R184). -/
def blankFinish (n : Nat) (s : State) : State :=
  let l := lst s n
  let ns := l.blankNs + (match l.blankAt with | some t => s.now - t | none => 0)
  s |> setLst n { l with blankAt := none, blankNs := ns % 10000 }
    |> countBy F.airLstCntBlank_blank_10us n (ns / 10000) |> setF F.airLstStatus_blanked n 0

/-- Bring a listener's blanking and its contexts to what the ports give. -/
def blankOne (n : Nat) (s : State) : State :=
  let want := mustBlank s n
  let was := getB F.airLstStatus_blanked n s
  let s := if want && !was then blankBegin n s else if !want && was then blankFinish n s else s
  let idle := want || lstIdle s n
  if idle then setCtx n 1 4 (setCtx n 0 4 (if lstIdle s n then abandonAll n 1 s else s))
  else [0, 1].foldl (fun s c => if ctxState s n c = 4 && !ctxTested s n c then setCtx n c 0 s else s) s

/-- Bring the blanking of every listener to what the ports give. -/
def blankRefresh (s : State) : State :=
  ((List.range 64).filter (fun n => listenerPresent s n && (lstKind s n != 0 || getB F.airLstStatus_blanked n s))).foldl
    (fun s n => blankOne n s) s

end Sys2Proof.Machine
end

