-- ==== Sys2Proof/Machine/Radio.lean ====
section
/-! DEFINITION. RF ports: synthesisers, gain, temperature, reflected power, the tuner, the power of a frame, and the
front-end commands (R141 to R171). -/

namespace Sys2Proof.Machine
open Sys2Proof

/-! Trims (R98, R170). -/

/-- The effective value of a multiplicative quantity in 1/65,536 (R98). -/
def effMul (s : State) (q i : Nat) (trim lo hi : Int) : Int :=
  clampI lo hi (roundDiv ((65536 + factoryOf s q i) * (65536 + trim)) 65536)

/-- A front-end quantity: whether it is per port, multiplicative, its trim bound, and its effective range (R98, R170). -/
structure TrimRow where
  perPort : Bool
  mul : Bool
  trim : Int
  lo : Int
  hi : Int
  deriving DecidableEq, Repr

/-- The front-end rows of "Trimmed quantities" by trim code (R98, R170). -/
def trimRow (q : Nat) : TrimRow :=
  match q with
  | 1 => ⟨true, false, 40, -60, 60⟩
  | 2 => ⟨true, false, 60, -120, 120⟩
  | 3 => ⟨true, true, 3277, 58982, 72090⟩
  | 4 => ⟨true, false, 300, -500, 500⟩
  | 5 => ⟨true, true, 6554, 52429, 78643⟩
  | 6 => ⟨true, true, 6554, 52429, 78643⟩
  | 7 => ⟨false, false, 2000, -4000, 4000⟩
  | _ => ⟨false, false, 50, -100, 100⟩

/-- The factory value of a front-end quantity as it is reported. -/
def rfFactory (s : State) (q p : Nat) : Int := (if (trimRow q).mul then 65536 else 0) + factoryOf s q p
/-- The effective value of a front-end quantity (R98). -/
def rfEffective (s : State) (q p : Nat) : Int :=
  let r := trimRow q
  if r.mul then effMul s q p (rfTrim s q p) r.lo r.hi else effAdd s q p (rfTrim s q p) r.lo r.hi

/-! Power (R154), in 0.05 dB. -/

/-- share_backoff: by the number of emitters bound to the port. -/
def shareBackoff (s : State) (p : Nat) : Int :=
  let n := (portEms s p).length
  if n ≤ 1 then 0 else if n = 2 then 60 else 120
/-- vswr_backoff. -/
def vswrBackoff (s : State) (p : Nat) : Int := if getB F.airRfStatus_vswr_backoff p s then 120 else 0
/-- cap of R154. -/
def powerCap (s : State) (p : Nat) : Int :=
  let drive := (portRow p).drive
  (if paramF s 0x0401 p 3 24 24 = 1 then
    min drive (5 * (signedOf (paramF s 0x0401 p 3 23 8) 16 - (paramF s 0x0401 p 3 6 0 : Int)))
  else drive) - shareBackoff s p
/-- The power of a frame at the ball, from the power requested (R154). -/
def framePower (s : State) (p : Nat) (req : Int) : Int :=
  max (-400) (min req (powerCap s p) + rfEffective s 1 p - vswrBackoff s p)

/-! Views of the status registers. -/

/-- The present gain index (R144). -/
def gainIndex (s : State) (p : Nat) : Nat :=
  if paramF s 0x0404 p 1 2 2 = 1 then paramF s 0x0404 p 1 12 8 else getF F.airRfStatus_gain_index p s
/-- Indices below which the external LNA is bypassed (R144). -/
def bypassSteps (s : State) (p : Nat) : Nat := paramF s 0x0404 p 1 18 16

/-- State of the port's FEM lines: 0 OFF, 1 RX, 2 RX_BYP, 3 TX, 4 CAL (R156). -/
def femState (s : State) (p : Nat) : Nat :=
  if !portEnabled s p || !domOn s (3 + p) then 0
  else if portTx s p then 3
  else if !txOpen s then 0
  else if getF F.airRfStatus_synth p s = 2 then 4
  else if bypassSteps s p ≤ gainIndex s p then 1 else 2

/-- AIR_RF_STATUS[p] as it reads. -/
def rfStatusW (s : State) (p : Nat) : Word :=
  if !portPresent s p then 0 else
  wordOf [(getF F.airRfStatus_synth p s, 0), (getF F.airRfStatus_cal_pending p s, 2), (getF F.airRfStatus_cal_forced p s, 3),
    (getF F.airRfStatus_vswr_backoff p s, 4), (getF F.airRfStatus_search_pending p s, 5), (b2n (splitAerial s p), 6),
    (paramF s 0x0404 p 1 2 2, 7), (gainIndex s p, 8), (femState s p, 13), (getF F.airRfStatus_temp_c p s, 16),
    (getF F.airRfStatus_cal_temp_c p s, 24)]
/-- AIR_RF_VSWR[p], read without clearing. -/
def rfVswrW (s : State) (p : Nat) : Word :=
  if !portPresent s p then 0 else wordOf [(getF F.airRfVswr_last p s, 0), (getF F.airRfVswr_peak p s, 16)]
/-- AIR_RF_LO[p] as it reads. -/
def rfLoW (s : State) (p : Nat) : Word :=
  if !portPresent s p then 0 else
  wordOf [(loKhz s p, 0), (getF F.airRfLo_match_series p s, 22), (getF F.airRfLo_match_shunt p s, 27)]

/-! Gain and temperature (R144 to R148). -/

/-- The port runs: enabled, its domain on. -/
def portRuns (s : State) (p : Nat) : Bool := portEnabled s p && domOn s (3 + p)

/-- GAIN_STEP_DOWN (R145): `over` is the number of samples above −3 dBFS within 1 µs. -/
def execGainStepDown (p : Fin 3) (above : Nat) (s : State) : Host.Outcome State Fault Refusal :=
  let p := p.val
  let x := rf s p
  let late := match x.downAt with
    | some t => decide (t + 20000 ≤ s.now)
    | none => true
  if portRuns s p && paramF s 0x0404 p 1 2 2 == 0 && 4 < above && late && 0 < gainIndex s p then
    done s (s |> setF F.airRfStatus_gain_index p (gainIndex s p - 1) |> setRf p { x with downAt := some s.now }
      |> count F.airRfCntGain_steps_down p)
  else done s s

/-- GAIN_STEP_UP (R145): `lowNs` is how long the peak has stayed below −12 dBFS. -/
def execGainStepUp (p : Fin 3) (lowNs : Nat) (s : State) : Host.Outcome State Fault Refusal :=
  let p := p.val
  let x := rf s p
  let late := match x.upAt with
    | some t => decide (t + 10000000 ≤ s.now)
    | none => true
  if portRuns s p && paramF s 0x0404 p 1 2 2 == 0 && 10000000 ≤ lowNs && late && gainIndex s p < 19 then
    done s (s |> setF F.airRfStatus_gain_index p (gainIndex s p + 1) |> setRf p { x with upAt := some s.now }
      |> count F.airRfCntGain_steps_up p)
  else done s s

/-- A temperature of the sensor in 0.1 °C with the part's offset trim (R98, R148). -/
def trimmedTemp (s : State) (t : Int) : Int := t + rfEffective s 8 0
/-- A temperature as a field in °C reads it: the nearest degree (DEDUCED, log 16). -/
def wholeC (t : Int) : Int := clampI (-128) 127 (roundDiv t 10)

/-- A calibration becomes pending (R148, R149). -/
def calPend (p : Nat) (s : State) : State :=
  if getB F.airRfStatus_cal_pending p s then s
  else setF F.airRfStatus_cal_pending p 1 (setRf p { rf s p with pendAt := s.now } s)

/-- PORT_TEMP_READING (R148): before the port's first calibration nothing is read and no drift is evaluated. -/
def execPortTempReading (p : Fin 3) (temp : Int) (s : State) : Host.Outcome State Fault Refusal :=
  let p := p.val
  let x := rf s p
  if !portRuns s p || !x.hasCal then done s s
  else
    let t := trimmedTemp s temp
    let s' := setI F.airRfStatus_temp_c p (wholeC t) (setRf p { x with temp := t } s)
    if (10 * paramF s 0x0401 p 1 13 8 : Nat) ≤ (t - x.calTemp).natAbs then done s (calPend p s') else done s s'

/-! Calibration (R147 to R152). -/

/-- Receive expectations of a port whose windows overlap an interval of keep time are withdrawn, each counted (R278, R286,
R287). -/
def withdraw (p a b : Nat) (s : State) : State :=
  let hit (x : Expect) : Bool := x.port == p && decide (x.mid < b + x.half) && decide (a < x.mid + x.half)
  let n := (s.slm.expects.filter hit).length
  let s := { s with slm := { s.slm with expects := s.slm.expects.filter (fun x => !hit x) } }
  if n = 0 then s else countBy F.linkSlmCntWithdraw_rx_withdrawn 0 n s

/-- Emitters of a port that are on the air. -/
def portOnAir (s : State) (p : Nat) : Bool := (portEms s p).any (emOnAir s)

/-- CALIBRATION_FORCE (R149, R287): 5 s after the calibration was set pending it is announced for the first boundary at
least 1 ms later. -/
def execCalibrationForce (p : Fin 3) (s : State) : Host.Outcome State Fault Refusal :=
  let p := p.val
  let x := rf s p
  if !portRuns s p || !getB F.airRfStatus_cal_pending p s || getB F.airRfStatus_cal_forced p s then done s s
  else
    let s' := waitTill (x.pendAt + 5000000000) s
    let b := boundaryFrom s' (s'.time.ns + 1000000)
    done s (s' |> setF F.airRfStatus_cal_forced p 1 |> setRf p { x with announced := b }
      |> count F.airRfCntForced_forced p
      |> raise Ev.airSynthCalForced [(p, 2), (unsignedOf (clampI (-32768) 32767 (x.temp - x.calTemp)) 16, 16), (0, 14), (b, 64)]
      |> withdraw p b (b + 1200000))

/-- Transmissions held on a port's synthesiser: they proceed, or are treated as too late (R151, R152). -/
def heldOn (s : State) (p : Nat) : List Nat := (portEms s p).filter (fun e => match (em s e).tx with
  | some t => t.phase == 0
  | none => false)

/-- A lane's RF_SYNTH_CAL of the port is answered as the calibration ends (R171). -/
def answerCal (p dur : Nat) (forced : Bool) (st : Status) (s : State) : State :=
  [0, 1, 2].foldl (fun s n => match (lane s n).ex with
    | some x =>
      if x.opcode == 0x0408 && x.data.headD 3 == p then
        respond n x.tag st (if st == .ok then
          [wordOf [(min dur 65535, 0), (b2n forced, 16)], w32 (getF F.airRfStatus_cal_temp_c p s)] else []) s
      else s
    | none => s) s

/-- SYNTH_LOCK (R148, R150, R151): lock is reported; a calibration ends with a reading of its own. -/
def execSynthLock (p : Fin 3) (temp : Int) (s : State) : Host.Outcome State Fault Refusal :=
  let p := p.val
  let st := getF F.airRfStatus_synth p s
  if !portRuns s p || !(st == 1 || st == 2) then done s s
  else
    let x := rf s p
    let t := trimmedTemp s temp
    let s1 := setF F.airRfStatus_synth p 0 s
    let s1 := if st = 2 then
        (if x.hasCal then histAdd (11 + p) (min 15 ((t - x.calTemp).natAbs / 10)) 1 s1 else s1)
          |> setRf p { x with temp := t, calTemp := t, hasCal := true, forcedRun := false }
          |> setI F.airRfStatus_temp_c p (wholeC t) |> setI F.airRfStatus_cal_temp_c p (wholeC t)
          |> answerCal p ((s.now - x.calAt) / 1000) x.forcedRun .ok
      else s1
    let s1 := (heldOn s1 p).foldl (fun s e => setEm e { em s e with tx := (em s e).tx.map (fun t => { t with phase := 1 }) } s) s1
    done s (blankRefresh s1)

/-- Transmissions held on a synthesiser are treated as too late: SYNTH_BUSY is counted for each, no retry is consumed, and
the frame stays where it is (R151). An immediate transmission and a test tone stay held. -/
def dropHeld (p : Nat) (s : State) : State :=
  (heldOn s p).foldl (fun s e => match (em s e).tx with
    | some t => if t.kind = 3 || t.kind = 4 then s
        else count F.airRfCntSynthBusy_synth_busy p (setEm e { em s e with tx := none } s)
    | none => s) s

/-- SYNTH_LOCK_TIMEOUT (R152): the synthesiser is retried once; after that its self-test is due. -/
def execSynthLockTimeout (p : Fin 3) (s : State) : Host.Outcome State Fault Refusal :=
  let p := p.val
  let st := getF F.airRfStatus_synth p s
  if !portRuns s p || !(st == 1 || st == 2) then done s s
  else
    let s' := waitTill (rf s p).lockDue s
    let x := rf s p
    if !x.retried then
      done s (dropHeld p (setRf p { x with retried := true, lockDue := s'.now + (if st = 1 then 100000 else 1200000) } s'))
    else done s (errorEvent 7 3 p false (dropHeld p s'))

/-- SYNTH_UNLOCK (R152, R287): every emitter of the port is cut, its frame ending as one without acknowledgement, and the
synthesiser calibrates at once. -/
def execSynthUnlock (p : Fin 3) (s : State) : Host.Outcome State Fault Refusal :=
  let p := p.val
  if !portRuns s p || getF F.airRfStatus_synth p s != 0 then done s s
  else
    let cut := (portEms s p).filter (emOnAir s)
    let pend := getB F.airRfStatus_cal_pending p s
    let frc := getB F.airRfStatus_cal_forced p s
    let s1 := (portEms s p).foldl (fun s e => if (em s e).tx.isSome then stopEmitter e s else s) s
    let s1 := raise Ev.airSynthUnlock [(p, 2), (s.time.ns, 64), (maskOf cut, 8)] s1
    let s1 := calBegin p false s1 |> setB F.airRfStatus_cal_pending p pend |> setB F.airRfStatus_cal_forced p frc
    done s (blankRefresh (withdraw p s.time.ns (s.time.ns + 1200000) s1))

/-! Reflected power and the tuner (R163 to R166). -/

/-- Bin of a VSWR in 0.01 (R521). -/
def vswrBin (v : Nat) : Nat := if v < 140 then 0 else min 15 ((v - 100) / 40)

/-- The back-off ends at a measurement of 3:1 or less (R164). -/
def vswrEase (p v : Nat) (s : State) : State :=
  if v ≤ 300 && getB F.airRfStatus_vswr_backoff p s then
    s |> setF F.airRfStatus_vswr_backoff p 0 |> raise Ev.airVswrRestored [(p, 2), (v, 16)]
  else s

/-- VSWR_MEASUREMENT (R163, R164): a frame of an emitter has been measured; frames of less than 100 µs of steady output are
not. -/
def execVswrMeasurement (e : Fin 8) (vswr : Nat) (s : State) : Host.Outcome State Fault Refusal :=
  match (em s e.val).tx with
  | none => done s s
  | some t =>
    if t.phase < 4 || t.air < 100000 then done s s
    else
      let p := emPort s e.val
      let v := min vswr 65535
      let s1 := s |> setF F.airRfVswr_last p v |> setF F.airRfVswr_peak p (max v (getF F.airRfVswr_peak p s))
        |> histAdd (8 + p) (vswrBin v) 1
      let s1 := if 300 < v then
          s1 |> count F.airRfCntVswrHigh_vswr_high p
            |> raisePerSecond Ev.airVswrHigh p [(p, 2), (v, 16), (e.val, 3), (t.khz, 22)]
        else vswrEase p v s1
      if 600 < v then
        let s1 := setRf p { rf s1 p with highKhz := t.khz } (setF F.airRfStatus_search_pending p 1 s1)
        if getB F.airRfStatus_vswr_backoff p s1 then done s s1
        else done s (s1 |> setF F.airRfStatus_vswr_backoff p 1 |> count F.airRfCntBackoff_backoffs p
          |> raise Ev.airVswrBackoff [(p, 2), (v, 16)])
      else done s s1

/-- A setting of match and tuner: series, shunt, ext_state. -/
abbrev Match := Nat × Nat × Nat

/-- Move an axis of a setting by one step: none where it would leave 0 to the axis maximum (R165). -/
def moveAxis (m : Match) (axis : Nat) (up : Bool) : Option Match :=
  let v := if axis = 0 then m.1 else if axis = 1 then m.2.1 else m.2.2
  let top := if axis = 2 then 15 else 31
  if up && v = top || !up && v = 0 then none
  else
    let w := if up then v + 1 else v - 1
    some (if axis = 0 then (w, m.2.1, m.2.2) else if axis = 1 then (m.1, w, m.2.2) else (m.1, m.2.1, w))

/-- A search as it stands: the best setting, its VSWR, the readings left and the readings made, and whether this pass has
changed anything. -/
structure Search where
  best : Match
  g : Nat
  reads : List Nat
  made : Nat
  changed : Bool
  deriving DecidableEq, Repr

/-- Try one candidate (R165); a reading that the step does not give is no better than the best. -/
def tryAxis (x : Search) (axis : Nat) (up : Bool) : Search :=
  match moveAxis x.best axis up with
  | none => x
  | some m =>
    let v := x.reads.headD x.g
    let y := { x with reads := x.reads.drop 1, made := x.made + 1 }
    if v < x.g then { y with best := m, g := v, changed := true } else y

/-- One pass of the search (R165). (DEDUCED, log 33.) -/
def searchPass (axes : List Nat) (x : Search) : Search :=
  axes.foldl (fun x a => tryAxis (tryAxis x a false) a true) { x with changed := false }

/-- At most `n` passes; it stops after a pass without a change (R165). -/
def searchPasses (axes : List Nat) : Nat → Search → Search
  | 0, x => x
  | n + 1, x =>
    let y := searchPass axes x
    if y.changed then searchPasses axes n y else y

/-- An external tuner is fitted (R166). -/
def extTuner (s : State) (p : Nat) : Bool := paramF s 0x0401 p 4 1 1 == 1
/-- Write the port's tuner word (R166). -/
def tunerWrite (p st : Nat) (s : State) : State :=
  if extTuner s p then
    let w := paramF s 0x0401 p 4 31 16 + st
    put (.tuner p w) (setRf p { rf s p with extState := st, tunerWord := w } s)
  else s

/-- A lane's RF_TUNER_SEARCH of the port is answered (R171). -/
def answerSearch (p before after : Nat) (m : Match) (us : Nat) (s : State) : State :=
  [0, 1, 2].foldl (fun s n => match (lane s n).ex with
    | some x =>
      if x.opcode == 0x0409 && x.data.headD 3 == p then
        respond n x.tag .ok [wordOf [(before, 0), (after, 16)], wordOf [(m.1, 0), (m.2.1, 5), (m.2.2, 16)], w32 us] s
      else s
    | none => s) s

/-- A tuner search of a port from the instant at which it starts (R165). (DEDUCED, log 33.) -/
def tunerSearch (p : Nat) (reads : List Nat) (s : State) : State :=
  let x := rf s p
  let cur : Match := (getF F.airRfLo_match_series p s, getF F.airRfLo_match_shunt p s, x.extState)
  let before := min (reads.headD 0) 65535
  let r := searchPasses (if extTuner s p then [0, 1, 2] else [0, 1]) 4 ⟨cur, before, reads.drop 1, 1, false⟩
  let us := min 1200 (20 * r.made)
  let s1 := blankRefresh (setRf p { x with searching := true, forceSearch := false } s)
  let s1 := match portEms s p with
    | e :: _ => count F.airTxEmCntFrames_frames e s1
    | [] => s1
  let s1 := elapse (1000 * us) s1
  let after := r.g % 65536
  let s1 := s1 |> setF F.airRfLo_match_series p r.best.1 |> setF F.airRfLo_match_shunt p r.best.2.1 |> tunerWrite p r.best.2.2
    |> count F.airRfCntSearch_searches p |> vswrEase p after
  let s1 := setRf p { rf s1 p with searching := false, searchFrom := s1.now + (if 300 < after then 60000000000 else 0) } s1
    |> setB F.airRfStatus_search_pending p (decide (300 < after))
    |> raise Ev.airTunerSearchDone [(p, 2), (before, 16), (after, 16), (r.best.1, 5), (r.best.2.1, 5), (r.best.2.2, 4)]
    |> answerSearch p before after r.best us
  blankRefresh s1

/-! Commands (R170, R171). -/

/-- The port that a field names: none of the three, or absent on this variant. -/
def portInfo (s : State) (p : Nat) (ok : Bool) : RecInfo :=
  { ok := ok && p < 3, res := p, absent := p < 3 && !portPresent s p }

/-- The check of a port configuration (R170). -/
def infoPortCfg (s : State) (ws : List Word) : RecInfo :=
  let p := fieldOf (wAt ws 0) 1 0
  let r := portRow p
  let f (i hi lo : Nat) : Nat := fieldOf (wAt ws i) hi lo
  let mo := signedOf (f 2 23 8) 16
  portInfo s p (ws.length == 4
    && onlyFields ws [[(1, 0), (2, 2), (5, 3), (13, 8), (20, 16), (28, 24)], [(21, 0)], [(6, 0), (23, 8), (24, 24)],
      [(0, 0), (1, 1), (31, 16)]]
    && !bitOf (f 0 5 3) p && 4 ≤ f 0 13 8 && f 0 13 8 ≤ 30 && f 0 20 16 ≤ 20 && f 0 28 24 ≤ 20
    && r.loLo ≤ f 1 21 0 && f 1 21 0 ≤ r.loHi && f 2 6 0 ≤ 80 && decide (-80 ≤ mo) && decide (mo ≤ 120) && f 3 19 16 == 0)

/-- The 16 entries of a ramp table (R155). -/
def rampEntries (ws : List Word) : List Nat :=
  (List.range 8).flatMap (fun k => [fieldOf (wAt ws (k + 1)) 9 0, fieldOf (wAt ws (k + 1)) 25 16])
/-- Entries do not fall. -/
def nonFalling : List Nat → Bool
  | a :: b :: t => decide (a ≤ b) && nonFalling (b :: t)
  | _ => true

/-- The check of a ramp table (R155, R170). -/
def infoRamp (s : State) (ws : List Word) : RecInfo :=
  let e := [(9, 0), (25, 16)]
  let us := fieldOf (wAt ws 0) 14 8
  portInfo s (fieldOf (wAt ws 0) 1 0) (ws.length == 9 && onlyFields ws [[(1, 0), (14, 8)], e, e, e, e, e, e, e, e]
    && 2 ≤ us && us ≤ 64 && nonFalling (rampEntries ws) && (rampEntries ws).getD 15 0 == 1023)

/-- The check of a FEM table (R156, R170). -/
def infoFem (s : State) (ws : List Word) : RecInfo :=
  portInfo s (fieldOf (wAt ws 0) 1 0) (ws.length == 2 && onlyFields ws [[(1, 0)], [(19, 0)]] && fieldOf (wAt ws 1) 3 0 == 0)

/-- The check of a gain setting (R144, R170). -/
def infoGain (s : State) (ws : List Word) : RecInfo :=
  let w := wAt ws 0
  portInfo s (fieldOf w 1 0) (ws.length == 1 && onlyFields ws [[(1, 0), (2, 2), (12, 8), (18, 16)]]
    && fieldOf w 12 8 ≤ 19 && fieldOf w 18 16 ≤ 6)

/-- A quantity code and port of the trim commands are in range (R170). -/
def trimNamed (q p : Nat) : Bool := 1 ≤ q && q ≤ 8 && (if (trimRow q).perPort then p < 3 else p == 0)

/-- The check of a trim (R98, R170): one record per trim, by quantity and port. -/
def infoTrim (s : State) (ws : List Word) : RecInfo :=
  let q := fieldOf (wAt ws 0) 3 0
  let p := fieldOf (wAt ws 0) 5 4
  let t := signedOf (fieldOf (wAt ws 1) 15 0) 16
  { res := q + 16 * p
    absent := trimNamed q p && (trimRow q).perPort && !portPresent s p
    ok := ws.length == 2 && onlyFields ws [[(3, 0), (5, 4)], [(15, 0)]] && trimNamed q p && decide (t.natAbs ≤ (trimRow q).trim.natAbs) }

/-- RF_PORT_CONFIG. -/
def bodyRfPortConfig (g : Goruz) (s : State) : Res := stageBody 0x0401 (infoPortCfg s g.words) g s
/-- RF_RAMP_SET. -/
def bodyRfRampSet (g : Goruz) (s : State) : Res := stageBody 0x0402 (infoRamp s g.words) g s
/-- RF_FEM_SET. -/
def bodyRfFemSet (g : Goruz) (s : State) : Res := stageBody 0x0403 (infoFem s g.words) g s
/-- RF_GAIN_SET. -/
def bodyRfGainSet (g : Goruz) (s : State) : Res := stageBody 0x0404 (infoGain s g.words) g s
/-- RF_TRIM_SET. -/
def bodyRfTrimSet (g : Goruz) (s : State) : Res := stageBody 0x0405 (infoTrim s g.words) g s

/-- A port named by the first word alone, with the bits that the command names: the status where it is refused. -/
def portRefused (g : Goruz) (s : State) (fields : List (Nat × Nat)) : Option Status :=
  let p := gf g 1 1 0
  if p < 3 && !portPresent s p then some .absent
  else if !onlyFields g.words [fields] || 2 < p then some .badParam
  else none

/-- RF_PORT_STATUS. -/
def bodyRfPortStatus (g : Goruz) (s : State) : Res :=
  let p := gf g 1 1 0
  match portRefused g s [(1, 0)] with
  | some st => fails st s
  | none =>
    let ms := if getB F.airRfStatus_cal_pending p s then ((rf s p).pendAt + 5000000000 - s.now + 999999) / 1000000 else 0
    .now .ok [rfStatusW s p, rfVswrW s p, rfLoW s p,
      wordOf [(unsignedOf (roundDiv (powerCap s p) 5) 16, 0), ((shareBackoff s p / 5).toNat, 16)],
      wordOf [(maskOf (portEms s p), 0), (maskOf ((portEms s p).filter (fun e => getB F.airTxEmStatus_on_air e s)), 8)],
      w32 ms] s

/-- RF_TRIM_GET. -/
def bodyRfTrimGet (g : Goruz) (s : State) : Res :=
  let q := gf g 1 3 0
  let p := gf g 1 5 4
  if trimNamed q p && (trimRow q).perPort && !portPresent s p then fails .absent s
  else if !onlyFields g.words [[(3, 0), (5, 4)]] || !trimNamed q p then fails .badParam s
  else .now .ok [i32 (rfFactory s q p), i32 (rfTrim s q p), i32 (rfEffective s q p)] s

/-- The port's domain is woken for a command that needs it, where it sleeps (R77). -/
def wakePort (p : Nat) (s : State) : State := if domOn s (3 + p) then s else blankRefresh (wake 0x03 (3 + p) s)

/-- RF_SYNTH_CAL (R149, R171): a request that finds a pending calibration joins it. -/
def bodyRfSynthCal (g : Goruz) (s : State) : Res :=
  let p := gf g 1 1 0
  match portRefused g s [(1, 0), (8, 8)] with
  | some st => fails st s
  | none =>
    if !portEnabled s p then fails .notCommitted s
    else if domDead s (3 + p) then fails .domainFailed s
    else if getF F.airRfStatus_synth p s == 2 || (rf s p).searching then fails .busy s
    else
      let s := wakePort p s
      let s := if getF F.airRfStatus_synth p s == 2 then s
        else if gf g 1 8 8 = 1 then setRf p { rf s p with forceCal := true } s else calPend p s
      .later [p] s

/-- RF_TUNER_SEARCH (R165, R171). (DEDUCED, log 33.) -/
def bodyRfTunerSearch (g : Goruz) (s : State) : Res :=
  let p := gf g 1 1 0
  match portRefused g s [(1, 0), (8, 8)] with
  | some st => fails st s
  | none =>
    if !portEnabled s p then fails .notCommitted s
    else if domDead s (3 + p) then fails .domainFailed s
    else if !txOpen s then fails .outputsHeld s
    else if getF F.airRfStatus_synth p s == 2 || (rf s p).searching then fails .busy s
    else
      let s := wakePort p s
      let s := if gf g 1 8 8 = 1 then setRf p { rf s p with forceSearch := true } s
        else setRf p { rf s p with searchFrom := s.now } (setF F.airRfStatus_search_pending p 1 s)
      .later [p] s

/-- The test tone on an emitter ends: its carrier ramps down, or, not yet begun, it is dropped (R100, R171). -/
def toneStop (e : Nat) (s : State) : State :=
  let x := em s e
  answerTone e .ok <| match x.tx with
  | some t =>
    if t.kind = 4 then
      setEm e { x with tone := none, tx := (if t.phase = 4 then some { t with phase := 5 } else none) } s
    else setEm e { x with tone := none } s
  | none => setEm e { x with tone := none } s

/-- RF_TEST_TONE (R171). An emitter that no plan binds is not committed (DEDUCED, log 17). -/
def bodyRfTestTone (g : Goruz) (s : State) : Res :=
  let e := gf g 1 2 0
  let p := emPort s e
  let off := signedOf (gf g 2 23 0) 24
  let ms := gf g 3 31 16
  let khz := ((loKhz s p : Int) + off).toNat
  if !emitterPresent s e then fails .absent s
  else if !onlyFields g.words [[(2, 0)], [(23, 0)], [(31, 0)]] || 60000 < ms then fails .badParam s
  else if !emBound s e || !portEnabled s p then fails .notCommitted s
  else if ms = 0 then (if (em s e).tone.isSome then .now .ok [] (toneStop e s) else fails .okAlready s)
  else if !bandOk (loKhz s p) p (2 * khz) 0 then fails .badParam s
  else if !txOpen s then fails .outputsHeld s
  else if (em s e).tone.isSome then fails .busy s
  else
    .later [e] (setEm e { em s e with tone := some ⟨some g.lane.val, ms, off, 5 * signedOf (gf g 3 15 0) 16, 0⟩ } s)

/-- TEST_TONE_END (R171): the tone's duration has run; the emitter ramps down. -/
def execTestToneEnd (e : Fin 8) (s : State) : Host.Outcome State Fault Refusal :=
  let e := e.val
  match (em s e).tone, (em s e).tx with
  | some t, some x =>
    if t.stage = 2 && x.kind = 4 then done s (toneStop e (waitTill (x.start + 1000000 * t.durMs) s)) else done s s
  | _, _ => done s s

end Sys2Proof.Machine
end

