-- ==== Sys2Proof/Machine/Receive.lean ====
section
/-! DEFINITION. Reception: detection, capture, the PHR and map checks, records, cancellation, blanking and retunes of the
listeners (R181 to R201, R208 to R213, R226 to R230). -/

namespace Sys2Proof.Machine
open Sys2Proof

/-- The listener's rows begin with its blanking and its contexts as the ports give them. -/
def lstNow (n : Nat) (s : State) : State := if listenerPresent s n then blankOne n s else s

/-- Hold a frame in a context. -/
def holdCtx (n c st : Nat) (x : RxCtx) (s : State) : State := setCtx n c st (setLst n (withCtx (lst s n) c (some x)) s)

/-! Retunes (R181, R182). -/

/-- The retune of a listener: its new centre and channel; its store is emptied (R175, R181). (DEDUCED, log 35.) -/
def doRetune (n : Nat) (s : State) : State :=
  match (lst s n).next with
  | none => s
  | some (khz, ch, _) =>
    s |> setLst n { lst s n with khz := khz, next := none, ckpts := [], test := false }
      |> setF F.airLstFreq_channel n ch |> setF F.airLstFreq_retuning n 0

/-- A retune that waits is made once no context holds a frame (R182). -/
def retuneIfFree (n : Nat) (s : State) : State :=
  let l := lst s n
  if getB F.airLstFreq_retuning n s && l.c0.isNone && l.c1.isNone then doRetune n s else s

/-- LISTENER_RETUNE (R181, R182): contexts in SYNC are dropped; a listener whose contexts hold nothing further is retuned;
the others wait for their frames, at most until their latest start. (DEDUCED, log 35.) -/
def execListenerRetune (s : State) : Host.Outcome State Fault Refusal :=
  done s ((List.range 64).foldl (fun s n =>
    if (lst s n).next.isNone then s
    else
      let drop (c : Nat) (s : State) : State := if ctxState s n c = 1 then loseCtx n c 2 s else s
      retuneIfFree n (setF F.airLstFreq_retuning n 1 (drop 1 (drop 0 s)))) s)

/-- RETUNE_LATEST_START (R182, R196): what a context still holds is abandoned, and the retune begins. -/
def execRetuneLatestStart (n : Fin 64) (s : State) : Host.Outcome State Fault Refusal :=
  let n := n.val
  match (lst s n).next with
  | none => done s s
  | some (_, _, latest) => done s (doRetune n (abandonAll n 2 (waitKeep latest s)))

/-! Detection (R186, R190, R191). -/

/-- The primary's frame, where one is held. -/
def primaryFrame (s : State) (n : Nat) : Option RxCtx := ctx (lst s n) (primary s n)

/-- The context that a cancellation is about to use: it decoded the stronger frame, which has ended (R194, R195). -/
def reserved (l : Lst) (c : Nat) : Bool := match l.pair with
  | some p => p.strong == c && p.strongEnd.isSome
  | none => false

/-- PREAMBLE_DETECTION (R186, R190, R191, R195): a preamble of a mode of the listener's set that began `ago` ns earlier; `own`
says that it matches the primary's pattern, or the pattern of a frame discarded below the margin. -/
def execPreambleDetection (n : Fin 64) (slot : Fin 4) (own : Bool) (ago : Nat) (s : State) : Host.Outcome State Fault Refusal :=
  let n := n.val
  let s1 := lstNow n s
  let l := lst s1 n
  let m := lstMode s1 n slot.val
  let p := primary s1 n
  let q := shadow s1 n
  let x : RxCtx := { slot := slot.val, mode := m, detAt := s1.now, sfdAt := s1.now - ago }
  let open_ (c : Nat) : Bool := ctxSearches s1 n c && (ctx l c).isNone && !reserved l c
  if m = 0 then done s s1
  else if (ctx l p).isNone && (ctx l q).isNone then
    if open_ p then done s (holdCtx n p 1 x (count F.airLstCntDetect_detects n s1))
    else if open_ q then
      done s (setF F.airLstStatus_primary n q (holdCtx n q 1 x (count F.airLstCntDetect_detects n s1)))
    else done s s1
  else if own || !open_ q then done s s1
  else if ctxState s1 n p = 1 then
    done s (setF F.airLstStatus_primary n q (holdCtx n q 1 x (setCtx n p 0 (setLst n (withCtx l p none) s1))
      |> count F.airLstCntDetect_detects n |> count F.airLstCntFalse_false_detect n))
  else if ctxState s1 n p = 3 then done s (holdCtx n q 1 x s1 |> count F.airLstCntDetect_detects n)
  else if l.pair.isSome then done s s1
  else done s (holdCtx n q 1 x (setLst n { l with test := true } s1) |> count F.airLstCntDetect_detects n)

/-- The RSSI of a reference level in 0.25 dBm: the offset trim in 0.1 dB applies (R98, R146, R187). -/
def rssiOf (s : State) (p : Nat) (level : Int) : Int := level + roundDiv (2 * rfEffective s 2 p) 5

/-- CAPTURE_TEST (R187, R191, R192): the shadow's reference level, measured here, decides; from a capture on, the primary's record is
withheld. -/
def execCaptureTest (n : Fin 64) (level : Int) (s : State) : Host.Outcome State Fault Refusal :=
  let n := n.val
  let l := lst s n
  let q := shadow s n
  let level := rssiOf s (lstPort s n) level
  match l.test, primaryFrame s n, ctx l q with
  | true, some a, some b =>
    if a.level + lstMargin s n ≤ level then
      let s := holdCtx n q 1 { b with level := level, captured := true } s
      let s := setLst n { lst s n with test := false, pair := some { o := b.sfdAt, strong := q, weak := a.recId } } s
      let s := match a.recId with
        | some id => modRec id (fun r => { r with withheld := true }) s
        | none => s
      done s (count F.airLstCntCapture_captures n s)
    else done s (count F.airLstCntCapture_capture_below n (freeCtx n q (setLst n { l with test := false } s)))
  | _, _, _ => done s s

/-- A frame is discarded before or at its PHR check: its context returns to SEARCH; a captured pair whose stronger frame it was is
undecided for good (R188, R193). -/
def phrDiscard (n c : Nat) (s : State) : State :=
  let s := freeCtx n c s
  retuneIfFree n (match (lst s n).pair with
    | some p => if p.strong = c && (lst s n).recon.isNone then dropPair n s else s
    | none => s)

/-- SFD_NOT_FOUND (R187). -/
def execSfdNotFound (n : Fin 64) (c : Fin 2) (s : State) : Host.Outcome State Fault Refusal :=
  if ctxState s n.val c.val = 1 && (ctx (lst s n.val) c.val).isSome then
    done s (phrDiscard n.val c.val (count F.airLstCntFalse_false_detect n.val
      (setLst n.val { lst s n.val with test := false } s)))
  else done s s

/-- The exact code of an FSK frame whose SFD is found, by its index; other modes keep theirs until the PHR (R208). -/
def sfdMode (m : Nat) (coded : Bool) : Nat := if isFsk m then m % 16 + (if coded then 16 else 0) else m

/-- SFD_TIMESTAMP (R187, R208, R230): the end of the SFD or LTF is the reference point. An SFD that the mode set does not
admit is treated as not found. -/
def execSfdTimestamp (n : Fin 64) (c : Fin 2) (coded : Bool) (level afc : Int) (s : State) : Host.Outcome State Fault Refusal :=
  let n := n.val
  let c := c.val
  match ctx (lst s n) c with
  | none => done s s
  | some x =>
    if ctxState s n c != 1 || x.ts != 0 || ((lst s n).test && c == shadow s n) then done s s
    else
      let m := sfdMode x.mode coded
      if isFsk m && !(lstModes s n).contains m then
        done s (phrDiscard n c (count F.airLstCntFalse_false_detect n (setLst n { lst s n with test := false } s)))
      else
        let p := lstPort s n
        let slot := if isFsk m then ((List.range 4).find? (fun i => lstMode s n i == m)).getD x.slot else x.slot
        let lv := if x.captured then x.level else rssiOf s p level
        done s (holdCtx n c 1 { x with
          mode := m, slot := slot, level := lv, afc := afc, sfdAt := s.now,
          ts := ((s.time.ns : Int) - tsCorr s p m).toNat } s)

/-! The PHR check (R188, R208, R211, R213). -/

/-- A mode-set entry admits a frame's mode code (R208). -/
def entryAdmits (e m : Nat) : Bool :=
  if e = 0 then false
  else if isFsk e || e == 0x60 then e == m
  else if isOqpsk e then isOqpsk m && m / 8 == e / 8
  else if isGt e then (isGt m || isMrOfdm m) && ofdmOption m == ofdmOption e
  else isMrOfdm m && ofdmOption m == ofdmOption e

/-- The slot of a listener's mode set that admits a mode: the detected one first (R197, R208). -/
def admitSlot (s : State) (n slot m : Nat) : Option Nat :=
  (slot :: List.range 4).find? (fun i => entryAdmits (lstMode s n i) m)

/-- A detected mode and the mode that a PHR gives share their preamble (R186, R208). -/
def samePreamble (a m : Nat) : Bool :=
  if isFsk a || a == 0x60 then a == m
  else if isOqpsk a then isOqpsk m && m / 8 == a / 8
  else (isGt m || isMrOfdm m) && ofdmOption m == ofdmOption a

/-- The key of a map in the receive map table (R226). -/
def gtKey (id check : Nat) : Nat := id + 256 * check
/-- A map looked up at the end of a grade header: AIR_TX is woken for it; with AIR_TX FAILED every look-up fails (R227). -/
def mapLookup (g : Grade) (option : Nat) (s : State) : State × Option ToneMap :=
  let s := if domState s 14 = 1 then wake 0x05 14 s else s
  if !domOn s 14 then (s, none)
  else match tabFind s.gt (gtKey g.mapId g.mapCheck) with
    | some e =>
      if e.map.option = option && e.map.rate = g.rate then
        ({ s with gt := tabPut s.gt (gtKey g.mapId g.mapCheck) { e with lastUse := s.now } }, some e.map)
      else (s, none)
    | none => (s, none)

/-- A GT frame whose map alone is unknown (R213, R228). -/
def mapUnknown (n : Nat) (g : Grade) (s : State) : State :=
  s |> count F.airTmCntUnknown_unknown 0 |> setF F.airTmLastUnknown_map_id 0 g.mapId
    |> setF F.airTmLastUnknown_map_check 0 g.mapCheck |> setF F.airTmLastUnknown_listener 0 n
    |> raiseOnce Ev.airGtMapUnknown 0 (fun k => [(n, 6), (g.mapId, 8), (g.mapCheck, 16), (k, 32)])

/-- PHR_CHECK (R188, R189, R197, R208, R213). -/
def execPhrCheck (n : Fin 64) (c : Fin 2) (h : Phr) (s : State) : Host.Outcome State Fault Refusal :=
  let n := n.val
  let c := c.val
  match ctx (lst s n) c with
  | none => done s s
  | some x =>
    if ctxState s n c != 1 || x.ts = 0 then done s s
    else
      let bad (s : State) : State := phrDiscard n c (count F.airLstCntPhrErr_phr_bad n s)
      match h.ok && modeOk h.mode && samePreamble x.mode h.mode, admitSlot s n x.slot h.mode with
      | true, some slot =>
        if h.len = 0 then done s (phrDiscard n c (count F.airLstCntPhrErr_phr_zero n s))
        else if maxPsdu h.mode < h.len then done s (bad s)
        else
          let gh := if isGt h.mode then h.grade else none
          let look := match gh with
            | some g => if g.ok && g.len == h.len then mapLookup g (ofdmOption h.mode) s else (s, none)
            | none => (s, none)
          let s1 := look.1
          if isGt h.mode && look.2.isNone then
            done s (bad (match gh with
              | some g => if g.ok && g.len == h.len then mapUnknown n g s1 else s1
              | none => s1))
          else
            let s1 := count F.airLstCntPhr_phr_pass n s1
            if ftqFree s1 n < recWords h.len then done s (phrDiscard n c (count F.airLstCntFtqFull_ftq_full n s1))
            else
              let fin := s1.now + psduNs s1 h.mode h.len look.2
              let id := s1.nextRec
              let ts := ((x.ts : Int) + tsCorr s (lstPort s n) x.mode - tsCorr s (lstPort s n) h.mode).toNat
              let r : Rec := { id := id, listener := n, ctx := c, captured := x.captured, slot := slot, mode := h.mode, ts := ts, level := x.level, len := h.len, endAt := fin, gtMap := gh.map (fun g => (g.mapId, g.mapCheck)) }
              let s1 := { s1 with recs := s1.recs ++ [r], nextRec := id + 1 }
              done s (holdCtx n c 2 { x with ts := ts, mode := h.mode, slot := slot, len := h.len, recId := some id, endAt := fin } s1)
      | _, _ => done s (bad s)

/-! The end of a frame, and cancellation (R192 to R196). -/

/-- The captured pair is not cancelled: counted where cancellation is enabled; a weaker frame that has ended is closed with
its own result (R194, R195). (DEDUCED, log 34.) -/
def pairSkip (n : Nat) (p : Pair) (s : State) : State :=
  let s := if lstSic s n then count F.airLstCntFcs_sic_skip n s else s
  let s := match p.weak with
    | some id => if p.weakEnded then closeRec id (if p.weakOk then 1 else 2) false 0 s else s
    | none => s
  endPair n s

/-- Limit of a cancellation after the overlap point, in ns (R194). -/
def sicLimit : Nat := 7900000

/-- FRAME_END (R192, R194, R195, R197): the last sample of the frame that a context decodes, and whether its FCS passes.
(DEDUCED, log 34.) -/
def execFrameEnd (n : Fin 64) (c : Fin 2) (fcsOk : Bool) (s : State) : Host.Outcome State Fault Refusal :=
  let n := n.val
  let c := c.val
  match ctx (lst s n) c with
  | none => done s s
  | some x =>
    match x.recId, ctxState s n c with
    | some id, 2 | some id, 3 =>
      let l := lst s n
      let res := if fcsOk then 1 else 2
      let s1 := if l.recon = some c && ctxState s n c = 3 then s else waitTill x.endAt s
      let fin (s : State) : State := retuneIfFree n (freeCtx n c (setLst n { lst s n with ckpts := [] } s))
      if l.recon = some c then
        let own := match l.pair with
          | some p => p.weakOk
          | none => false
        let s1 := if fcsOk then closeRec id 1 true 0 (count F.airLstCntSic_sic_ok n s1)
          else closeRec id (if own then 1 else 2) (!own) 0 (count F.airLstCntSic_sic_fail n s1)
        done s (fin (endPair n s1))
      else match l.pair with
        | none => done s (fin (closeRec id res false 0 s1))
        | some p =>
          if p.strong = c then
            let s1 := closeRec id res false 0 s1
            if fcsOk && lstSic s n && s1.now ≤ p.o + sicLimit && !p.weakOk && (p.weakEnded || (ctx l (1 - c)).isSome) then
              done s (fin (setLst n { lst s1 n with pair := some { p with strongEnd := some s1.now } } s1))
            else done s (fin (pairSkip n p s1))
          else if p.weak != some id then done s (fin (closeRec id res false 0 s1))
          else if l.recon.isSome then
            done s (fin (setLst n { lst s1 n with pair := some { p with weakEnded := true, weakOk := fcsOk } } s1))
          else if fcsOk then
            done s (fin (endPair n (closeRec id 1 false 0 s1)))
          else if lstSic s n && s1.now ≤ p.o + sicLimit then
            done s (fin (setLst n { lst s1 n with pair := some { p with weakEnded := true } } s1))
          else done s (fin (endPair n (closeRec id 2 false 0 s1)))
    | _, _ => done s s

/-- SIC_START (R194, R195): a captured pair that qualifies; the context that decoded the stronger frame enters RECON.
(DEDUCED, log 34.) -/
def execSicStart (n : Fin 64) (s : State) : Host.Outcome State Fault Refusal :=
  let n := n.val
  let l := lst s n
  match l.pair with
  | none => done s s
  | some p =>
    match p.strongEnd, p.weak with
    | some e, some id =>
      match findRec s id with
      | none => done s s
      | some r =>
        if l.recon.isSome || p.weakOk || r.trailer.isSome || (ctx l p.strong).isSome || p.o + sicLimit < e
          || ctxState s n p.strong != 0 then done s s
        else
          let x : RxCtx := { slot := r.slot, mode := r.mode, detAt := s.now, level := r.level, ts := r.ts, len := r.len, recId := some id, endAt := r.endAt }
          let s1 := setLst n { l with recon := some p.strong } s
          let s1 := holdCtx n p.strong 3 x s1
          done s (if p.weakEnded then setF F.airLstStatus_primary n p.strong s1 else s1)
    | _, _ => done s s

/-- SIC_CATCH_UP (R195): the second decode has caught up with live samples while the weaker frame is on the air; it becomes
primary, and the former primary drops its own. -/
def execSicCatchUp (n : Fin 64) (s : State) : Host.Outcome State Fault Refusal :=
  let n := n.val
  let l := lst s n
  match l.recon with
  | none => done s s
  | some c =>
    if ctxState s n c != 3 || (ctx l (1 - c)).isNone then done s s
    else
      let s1 := setCtx n (1 - c) 0 (setLst n (withCtx l (1 - c) none) s)
      done s (setF F.airLstStatus_primary n c (setCtx n c 2 s1))

/-- SIC_DEADLINE (R194, R195): 7,900 µs after the overlap point the weaker frame's record closes with its own result. -/
def execSicDeadline (n : Fin 64) (s : State) : Host.Outcome State Fault Refusal :=
  let n := n.val
  let l := lst s n
  match l.pair with
  | none => done s s
  | some p =>
    if !p.weakEnded || l.recon.isSome then done s s
    else done s (pairSkip n p (waitTill (p.o + sicLimit + 1) s))

/-- CHECKPOINT_SAVE (R192): a primary in PAYLOAD keeps its checkpoints for 8 ms. -/
def execCheckpointSave (n : Fin 64) (s : State) : Host.Outcome State Fault Refusal :=
  let n := n.val
  let l := lst s n
  if ctxState s n (primary s n) = 2 then
    done s (setLst n { l with ckpts := s.now :: (l.ckpts.filter (fun t => decide (s.now ≤ t + 8000000))) } s)
  else done s s

/-- BLANKING_START (R184): what blanks the listener is the state of the ports (R150, R158 to R161). -/
def execBlankingStart (n : Fin 64) (s : State) : Host.Outcome State Fault Refusal :=
  if mustBlank s n.val && !getB F.airLstStatus_blanked n.val s then done s (blankOne n.val s) else done s s

/-- BLANKING_END (R184). -/
def execBlankingEnd (n : Fin 64) (s : State) : Host.Outcome State Fault Refusal :=
  if !mustBlank s n.val && getB F.airLstStatus_blanked n.val s then done s (blankOne n.val s) else done s s

/-- CONTEXT_STUCK (R199): the context has stayed beyond the longest frame of its mode plus 1 ms. -/
def execContextStuck (n : Fin 64) (c : Fin 2) (s : State) : Host.Outcome State Fault Refusal :=
  let n := n.val
  let c := c.val
  match ctx (lst s n) c with
  | none => done s s
  | some x =>
    let s1 := waitTill (x.detAt + airtimeNs s x.mode (maxPsdu x.mode) none + 1000000) s
    done s (errorEvent 0 3 (2 * n + c) false (retuneIfFree n (loseCtx n c 3 s1)))

/-! The piste plan check (R179), over a copy of the configuration. -/

/-- A copy of the configuration: the words of a parameter for a resource. -/
abbrev CfgView := Nat → Nat → List Word

/-- A field of a parameter in a copy. -/
def CfgView.f (get : CfgView) (id res k hi lo : Nat) : Nat := fieldOf (wAt (get id res) (k - 1)) hi lo

/-- Kind of a listener in a copy. -/
def vKind (get : CfgView) (s : State) (n : Nat) : Nat := if listenerPresent s n then get.f 0x0420 n 1 9 8 else 0
/-- Its port. -/
def vPort (get : CfgView) (n : Nat) : Nat := get.f 0x0420 n 1 7 6
/-- Its width in kHz. -/
def vWidth (get : CfgView) (n : Nat) : Nat := 10 * get.f 0x0420 n 3 7 0
/-- Twice its centre in kHz. -/
def vMid (get : CfgView) (n : Nat) : Nat := 2 * get.f 0x0420 n 2 21 0
/-- Its mode set, as the codes 1 to 255 that are in it; 0x00 is an unused place and the order does not count (R177, R202). -/
def vModes (get : CfgView) (n : Nat) : Nat :=
  (List.range 4).foldl (fun a k => a ||| 2 ^ get.f 0x0420 n 4 (8 * k + 7) (8 * k)) 1
/-- A port is enabled in a copy. -/
def vEnabled (get : CfgView) (s : State) (p : Nat) : Bool := portPresent s p && get.f 0x0401 p 4 0 0 == 1

/-- The object kinds of R179 in order: listener, emitter, channel plan, port; with the number of each. -/
def planCount4 (k : Nat) : Nat := match k with
  | 1 => 64 | 2 => 8 | 3 => 8 | _ => 3

/-- A reason of the table "Piste plan check reasons" holds for an object (R179). (DEDUCED, log 36.) -/
def planFails (get : CfgView) (s : State) (reason kind i : Nat) : Bool :=
  let fixed := vKind get s i == 1
  let p := vPort get i
  let lo := 2 * get.f 0x0401 p 2 21 0
  let w := vWidth get i
  let c := vMid get i
  match reason, kind with
  | 1, 1 => vKind get s i != 0 && !vEnabled get s p
  | 1, 2 => emitterPresent s i && get.f 0x0421 i 1 8 8 == 1 && !vEnabled get s (get.f 0x0421 i 1 5 4)
  | 1, 3 => get.f 0x0422 i 1 25 16 != 0 && !vEnabled get s (get.f 0x0422 i 1 5 4)
  | 2, 1 => fixed && (decide (c < 2 * (portRow p).bandLo + w) || decide (2 * (portRow p).bandHi < c + w))
  | 3, 1 => fixed && (decide (c + (portRow p).window < lo + w) || decide (lo + (portRow p).window < c + w))
  | 4, 1 => fixed && decide (c < lo + 200 + w) && decide (lo < c + w + 200)
  | 5, 4 => decide ((portRow i).window < (((List.range 64).filter (fun n => vKind get s n != 0 && vPort get n == i)).map (vWidth get)).sum)
  | 6, 1 => fixed && (List.range 64).any (fun n => n != i && vKind get s n == 1 && vPort get n == p
      && bandsMeet c w (vMid get n) (vWidth get n))
  | 7, 1 => vKind get s i == 2 && (List.range 64).any (fun n => vKind get s n == 2
      && get.f 0x0420 n 1 15 12 == get.f 0x0420 i 1 15 12
      && (vPort get n != p || vWidth get n != w || vModes get n != vModes get i))
  | 8, 1 => vKind get s i != 0 && (List.range 4).any (fun k =>
      let m := get.f 0x0420 i 4 (8 * k + 7) (8 * k)
      m != 0 && decide (w < modeWidth m))
  | 9, 4 => decide (portEmitters i < ((List.range 8).filter (fun e => emitterPresent s e && get.f 0x0421 e 1 8 8 == 1
      && get.f 0x0421 e 1 5 4 == i)).length)
  | 10, 3 => get.f 0x0422 i 1 25 16 != 0
      && decide (2483500 < get.f 0x0422 i 2 21 0 + (get.f 0x0422 i 1 25 16 - 1) * get.f 0x0422 i 3 12 0)
  | _, _ => false

/-- The parameter named for a failing object (R179). -/
def planParam (reason kind : Nat) : Nat :=
  if kind = 2 || reason = 9 then 0x0421 else if kind = 3 then 0x0422 else 0x0420

/-- The first failure in the order of R179: reason, object kind, index; none where the plan passes. (DEDUCED, log 36.) -/
def planCheck (get : CfgView) (s : State) : Option (Nat × Nat × Nat) :=
  ((List.range 10).flatMap (fun r => [1, 2, 3, 4].flatMap (fun k => (List.range (planCount4 k)).map (fun i => (r + 1, k, i))))).find?
    (fun x => planFails get s x.1 x.2.1 x.2.2)

/-- AIR_PLAN_CHECK for a result (R179, R202). -/
def planWord : Option (Nat × Nat × Nat) → Word
  | none => 0
  | some (r, k, i) => wordOf [(i, 0), (k, 8), (r, 12), (planParam r k, 16)]

/-- Load AIR_PLAN_CHECK with the result of a check. -/
def loadPlanCheck (x : Option (Nat × Nat × Nat)) (s : State) : State :=
  let w := planWord x
  s |> setF F.airPlanCheck_index 0 (fieldOf w 7 0) |> setF F.airPlanCheck_kind 0 (fieldOf w 11 8)
    |> setF F.airPlanCheck_reason 0 (fieldOf w 15 12) |> setF F.airPlanCheck_param 0 (fieldOf w 31 16)

/-! Listener registers and commands (R202 to R206). -/

/-- AIR_LST_CFG[n] to AIR_LST_STATUS[n], the counters and the level of a listener, by offset / 4, read without clearing. -/
def lstWord (s : State) (n k : Nat) : Word :=
  if !listenerPresent s n then 0 else
  let two (a b : Field) : Word := wordOf [(getF a n s, 0), (getF b n s, 16)]
  match k with
  | 0 => wordOf [(lstKind s n, 0), (lstPort s n, 2), (lstPool s n, 4), (b2n (lstSic s n), 8), (paramF s 0x0420 n 1 19 18, 9),
      (paramF s 0x0420 n 1 29 24, 16), (paramF s 0x0420 n 3 7 0, 24)]
  | 1 => paramW s 0x0420 n 4
  | 2 => wordOf [(lstKhz s n, 0), (getF F.airLstFreq_retuning n s, 22), (getF F.airLstFreq_channel n s, 23)]
  | 3 => wordOf [(getF F.airLstStatus_ctx0_state n s, 0), (getF F.airLstStatus_ctx1_state n s, 3),
      (getF F.airLstStatus_primary n s, 6), (getF F.airLstStatus_blanked n s, 7), (getF F.airLstStatus_single n s, 8),
      (getF F.airLstStatus_retired n s, 9), (getF F.airLstStatus_ctx0_spare n s, 10), (getF F.airLstStatus_ctx1_spare n s, 11)]
  | 4 => w32 (getF F.airLstCntDetect_detects n s)
  | 5 => w32 (getF F.airLstCntPhr_phr_pass n s)
  | 6 => two F.airLstCntPhrErr_phr_zero F.airLstCntPhrErr_phr_bad
  | 7 => w32 (getF F.airLstCntFalse_false_detect n s)
  | 8 => two F.airLstCntCapture_captures F.airLstCntCapture_capture_below
  | 9 => two F.airLstCntSic_sic_ok F.airLstCntSic_sic_fail
  | 10 => two F.airLstCntFcs_fcs_fail F.airLstCntFcs_sic_skip
  | 11 => w32 (getF F.airLstCntFtqFull_ftq_full n s)
  | 12 => w32 (getF F.airLstCntBlank_blank_10us n s)
  | 13 => two F.airLstCntAbandon_blank_abandon F.airLstCntAbandon_retune_cut
  | 14 => w32 (getF F.airLstCntDelivered_delivered n s)
  | _ => two F.airLstLevel_last_rssi_q F.airLstLevel_noise_q

/-- AIR_PLAN_PORT[p] of the committed plan (R174, R202). -/
def planPortW (s : State) (p : Nat) : Word :=
  let l := (boundLst s).filter (fun n => lstPort s n == p)
  wordOf [((l.map (lstWidth s)).sum, 0), (l.length, 17), ((portEms s p).length, 24)]
/-- AIR_PLAN_CHECK as it stands. -/
def planCheckW (s : State) : Word :=
  wordOf [(getF F.airPlanCheck_index 0 s, 0), (getF F.airPlanCheck_kind 0 s, 8), (getF F.airPlanCheck_reason 0 s, 12),
    (getF F.airPlanCheck_param 0 s, 16)]

/-- The check of a listener binding (R204 to R206). -/
def infoListener (s : State) (ws : List Word) : RecInfo :=
  let w := wAt ws 0
  let n := fieldOf w 5 0
  let p := fieldOf w 7 6
  let k := fieldOf w 9 8
  let cap := fieldOf w 29 24
  let mid := fieldOf (wAt ws 1) 21 0
  let wid := fieldOf (wAt ws 2) 7 0
  let m (i : Nat) : Nat := fieldOf (wAt ws 3) (8 * i + 7) (8 * i)
  { res := n
    absent := !listenerPresent s n || (p < 3 && !portPresent s p)
    ok := ws.length == 4 && onlyFields ws [[(9, 0), (16, 12), (19, 18), (29, 24)], [(21, 0)], [(7, 0)], [(31, 0)]] && p < 3
      && (if k = 0 then fieldOf w 31 6 == 0 && (ws.drop 1).all (· == 0)
        else k < 3 && 6 ≤ cap && cap ≤ 40 && 10 ≤ wid && wid ≤ 240 && m 0 != 0
          && (List.range 4).all (fun i => m i == 0 || modeOk (m i))
          && (if k = 1 then fieldOf w 15 12 == 0 && (portRow p).bandLo ≤ mid && mid ≤ (portRow p).bandHi else mid == 0)) }

/-- The check of an emitter binding (R204, R205). -/
def infoEmitter (s : State) (ws : List Word) : RecInfo :=
  let w := wAt ws 0
  let p := fieldOf w 5 4
  { res := fieldOf w 2 0
    absent := !emitterPresent s (fieldOf w 2 0) || (p < 3 && !portPresent s p)
    ok := ws.length == 1 && onlyFields ws [[(2, 0), (5, 4), (8, 8)]] && p < 3 }

/-- The check of a channel plan (R176, R204, R205). A count of 0 deletes the plan, whatever the other words give. -/
def infoChannels (s : State) (ws : List Word) : RecInfo :=
  let w := wAt ws 0
  let p := fieldOf w 5 4
  let sp := fieldOf (wAt ws 2) 12 0
  { res := fieldOf w 2 0
    absent := p < 3 && !portPresent s p
    ok := ws.length == 3 && onlyFields ws [[(2, 0), (5, 4), (25, 16)], [(21, 0)], [(12, 0)]] && p < 3 && fieldOf w 25 16 ≤ 512
      && (fieldOf w 25 16 == 0 || (25 ≤ sp && sp ≤ 5000)) }

/-- PLAN_LISTENER_SET. -/
def bodyPlanListenerSet (g : Goruz) (s : State) : Res := stageBody 0x0420 (infoListener s g.words) g s
/-- PLAN_EMITTER_BIND. -/
def bodyPlanEmitterBind (g : Goruz) (s : State) : Res := stageBody 0x0421 (infoEmitter s g.words) g s
/-- PLAN_CHANNELS_SET. -/
def bodyPlanChannelsSet (g : Goruz) (s : State) : Res := stageBody 0x0422 (infoChannels s g.words) g s

/-- PLAN_STATUS. -/
def bodyPlanStatus (_ : Goruz) (s : State) : Res :=
  .now .ok [planPortW s 0, planPortW s 1, planPortW s 2, planCheckW s] s

/-- PLAN_CHECK (R206): over the staged copy. -/
def bodyPlanCheck (_ : Goruz) (s : State) : Res :=
  if !s.cfg.dirty then .now .okAlready [planCheckW s] s
  else
    let x := planCheck (fun id r => stagedParam s id r) s
    .now (if x.isNone then .ok else .badParam) [planWord x] (loadPlanCheck x s)

/-- PLAN_REACH (R178, R206): over the committed plan. -/
def bodyPlanReach (g : Goruz) (s : State) : Res :=
  let k := gf g 1 3 0
  let pl := gf g 1 10 8
  let n := planCount s pl
  if !onlyFields g.words [[(3, 0), (10, 8)]] then fails .badParam s
  else match (List.range 64).find? (fun l => lstKind s l == 2 && lstPool s l == k) with
    | none => fails .notFound s
    | some l =>
      let p := planPort s pl
      if n = 0 then fails .notFound s
      else if lstPort s l != p then fails .badParam s
      else
        let cls := (List.range n).map (fun c => chanClass s p (chanKhz s pl c) (lstWidth s l))
        let num (v : Nat) : Nat := (cls.filter (· == v)).length
        let map := maskOf ((List.range n).filter (fun c => cls.getD c 1 == 0))
        .now .ok (wordOf [(num 0, 0), (num 1, 10), (num 2, 20)] :: (List.range 16).map (wordAt map)) s

/-- LST_STATUS. -/
def bodyLstStatus (g : Goruz) (s : State) : Res :=
  let n := gf g 1 5 0
  if !listenerPresent s n then fails .absent s
  else if !onlyFields g.words [[(5, 0)]] then fails .badParam s
  else .now .ok ((List.range 16).map (lstWord s n)) s

end Sys2Proof.Machine
end

