-- ==== Sys2Proof/Machine/Flow.lean ====
section
/-! DEFINITION. The packet buffer's pages and quotas, the neighbours' records, their flows, and the completion of frames
(R22, R308 to R311, R338 to R340). -/

namespace Sys2Proof.Machine
open Sys2Proof

/-! Pages (R340). -/

/-- The unit has external memory: an F variant (R306, R307). -/
def isF (s : State) : Bool := ddrPresent s
/-- Reserve of a quota group. -/
def quotaReserve (s : State) (g : Nat) : Nat := paramF s 0x0C03 g 1 18 3
/-- Limit of a quota group. -/
def quotaLimit (s : State) (g : Nat) : Nat := 8 * paramF s 0x0C03 g 1 31 19
/-- On-die pages that a group holds. -/
def quotaUsed (s : State) (g : Nat) : Nat := tabGet s.trf.used g 0
/-- Free on-die pages. -/
def freePages (s : State) : Nat := 32768 - ((List.range 8).map (quotaUsed s)).sum
/-- Free pages of the shared pool; 512 are held for fills on F variants. -/
def sharedFree (s : State) : Nat :=
  32768 - ((List.range 8).map (quotaReserve s)).sum - (if isF s then 512 else 0)
    - ((List.range 8).map (fun g => quotaUsed s g - quotaReserve s g)).sum
/-- Pages of 256 octets that octets take. -/
def pagesOf (octets : Nat) : Nat := (octets + 255) / 256

/-- Set what a group holds, and its peak. -/
def setUsed (g n : Nat) (s : State) : State :=
  setF F.netPbufUsed_peak g (max (getF F.netPbufUsed_peak g s) n) { s with trf := { s.trf with used := tabSetN s.trf.used g n } }

/-- A request of k pages is granted whole or not at all (R340). -/
def canGrant (s : State) (g k : Nat) : Bool :=
  let u := quotaUsed s g
  decide (u + k ≤ quotaLimit s g) && decide ((u + k - quotaReserve s g) - (u - quotaReserve s g) ≤ sharedFree s)

/-- A refused request: counted, and NET_QUOTA_REFUSED raised at most once per second (R23, R340, R357). -/
def quotaRefused (g k : Nat) (s : State) : State :=
  s |> count F.netSchedCntRefuse_refused_quota 0
    |> raiseOnce Ev.netQuotaRefused 0 (fun n => [(g, 3), (k, 32), (quotaUsed s g, 16), (min n 65535, 16)])

/-- Grant pages. -/
def grantPages (g k : Nat) (s : State) : State := setUsed g (quotaUsed s g + k) s
/-- Pages return to the group that was granted them. -/
def freeGroup (g k : Nat) (s : State) : State := setUsed g (quotaUsed s g - k) s

/-! Neighbours and flows. -/

/-- A neighbour's record. -/
def nbr (s : State) (h : Nat) : Option Nbr := tabFind s.nbrs h
/-- Enter a neighbour's record. -/
def setNbr (h : Nat) (n : Nbr) (s : State) : State := { s with nbrs := tabPut s.nbrs h n }
/-- Change a neighbour's record, where it exists. -/
def modNbr (h : Nat) (f : Nbr → Nbr) (s : State) : State := match nbr s h with
  | some n => setNbr h (f n) s
  | none => s
/-- Change a berth: it is dirty, in use, and a write-back in progress has been met by a change (R319). -/
def modBerth (h : Nat) (f : Berth → Berth) (s : State) : State :=
  modNbr h (fun n => { n with b := f n.b, dirty := true, used := true, changed := n.changed || n.writing }) s
/-- The record exists and its neighbour is not quarantined. -/
def nbrLive (s : State) (h : Nat) : Bool := match nbr s h with
  | some n => !n.quarantined
  | none => false
/-- The berth is resident; on L variants every berth is (R307). -/
def resident (s : State) (h : Nat) : Bool := match nbr s h with
  | some n => n.resident
  | none => false

/-- A flow of a berth. -/
def flowOf (b : Berth) (c : Nat) : Flow := match c with
  | 0 => b.flows.1 | 1 => b.flows.2.1 | 2 => b.flows.2.2.1 | _ => b.flows.2.2.2
/-- Replace a flow of a berth. -/
def withFlow (b : Berth) (c : Nat) (f : Flow) : Berth :=
  let (x, y, z, w) := b.flows
  { b with flows := (match c with | 0 => (f, y, z, w) | 1 => (x, f, z, w) | 2 => (x, y, f, w) | _ => (x, y, z, f)) }
/-- A flow of a handle. -/
def flow (s : State) (h c : Nat) : Flow := match nbr s h with
  | some n => flowOf n.b c
  | none => {}
/-- Change a flow of a handle. -/
def modFlow (h c : Nat) (f : Flow → Flow) (s : State) : State := modBerth h (fun b => withFlow b c (f (flowOf b c))) s
/-- The pending bit of a handle (R309). -/
def pendBit (s : State) (h : Nat) : Bool := match nbr s h with
  | some n => n.b.pendForce || (List.range 4).any (fun c => !(flowOf n.b c).frames.isEmpty)
  | none => false
/-- A sampled neighbour's timing state gives contacts: neither LOST_PHASE nor NO_CHANNEL (R295, R296). -/
def phaseLost (b : Berth) : Bool := b.sampled && (b.timing == 7 || b.timing == 3)

/-! Handles of the store (R308). -/

/-- The handle that an extended address maps to. -/
def findExt (s : State) (a : Nat) : Option Nat := (s.nbrs.find? (fun e => e.2.b.ext == a)).map (·.1)
/-- The handle that a short address and PAN map to. -/
def findShort (s : State) (a p : Nat) : Option Nat :=
  if a = 0xFFFE then none else (s.nbrs.find? (fun e => e.2.b.short == a && e.2.b.pan == p)).map (·.1)
/-- Handles that the variant has (R306). -/
def handleLimit (s : State) : Nat := if isF s then 131072 else 32768

/-! Completion (R261). -/

/-- The pages of a frame are freed (R22). -/
def freeFrame (f : QFrame) (s : State) : State := freeGroup f.group (f.pages - f.spilled) s

/-- Count the completion of a transmission (R261, R264). -/
def countCompletion (status : Nat) (s : State) : State :=
  if status = 0 then count F.linkSeqCntTxOk_tx_ok 0 s
  else if status = 1 || status = 2 then count F.linkSeqCntTxFail_no_ack 0 s
  else if status = 5 then count F.linkSlmCntFit_oversize 0 s
  else if status = 9 then count F.linkSeqCntTxSkip_exhausted 0 s
  else s

/-- Frames of a flow that satisfy a test complete with a status and leave it (R261). A flow left empty is no longer active,
and no longer urgent (R347). -/
def completeWhere (h c status : Nat) (p : QFrame → Bool) (s : State) : State :=
  let f := flow s h c
  let gone := f.frames.filter p
  if gone.isEmpty then s
  else
    let s := gone.foldl (fun s x => countCompletion status (freeFrame x s)) s
    let rest := f.frames.filter (fun x => !p x)
    modFlow h c (fun f => { f with frames := rest, urgent := f.urgent && !rest.isEmpty }) s

/-- The head of a flow completes. Where it is a fragment and does not complete OK, the later fragments of its datagram
complete unsent with the same status, each counted (R376). -/
def completeHead (h c status : Nat) (s : State) : State :=
  match (flow s h c).frames with
  | [] => s
  | x :: _ =>
    match x.dgram with
    | some d =>
      if status = 0 then completeWhere h c status (fun y => y.id == x.id) s
      else
        let later := ((flow s h c).frames.filter (fun y => y.dgram == some d && y.id != x.id)).length
        let s := if later = 0 then s else countBy F.netFwdCntFrag2_frag_abandon 0 later s
        completeWhere h c status (fun y => y.dgram == some d) s
    | none => completeWhere h c status (fun y => y.id == x.id) s

/-- A downlink frame is on the air, or its acknowledgement window is open: it completes normally (R262). -/
def inFlight (s : State) (h id : Nat) : Bool :=
  (List.range 8).any (fun e => match (em s e).tx with
    | some t => t.kind == 0 && 4 ≤ t.phase && t.handle == h && t.frameId == id
    | none => false)
    || s.awaiting.any (fun t => t.kind == 0 && t.handle == h && t.frameId == id)
/-- Frames of all four flows that are not in flight complete with a status (R262). -/
def completeAll (h status : Nat) (s : State) : State :=
  (List.range 4).foldl (fun s c => completeWhere h c status (fun x => !inFlight s h x.id) s) s
/-- Frames queued for a handle. -/
def framesOf (b : Berth) : Nat := ((List.range 4).map (fun c => (flowOf b c).frames.length)).sum

end Sys2Proof.Machine
end

