-- ==== Sys2Proof/Machine/Store.lean ====
section
/-! DEFINITION. The neighbour store and the chairlift: residency, fetches, evictions, spills, persistent entries, errors in
records, and the neighbour commands (R306 to R337). -/

namespace Sys2Proof.Machine
open Sys2Proof

/-! Configuration (R319, R326, R333). -/

/-- free_reserve. -/
def freeReserve (s : State) : Nat := paramF s 0x0609 0 1 13 0
/-- rx_persist_s. -/
def rxPersist (s : State) : Nat := paramF s 0x0609 0 1 27 16
/-- spill_low in pages; a field of 0 means 256. -/
def spillLow (s : State) : Nat := if paramF s 0x0609 0 1 31 28 = 0 then 256 else 1024 * paramF s 0x0609 0 1 31 28

/-- Berths resident. -/
def residentCount (s : State) : Nat := (s.nbrs.filter (fun e => e.2.resident)).length
/-- Free berths of the 32,768. -/
def freeBerths (s : State) : Nat := 32768 - residentCount s
/-- Host pins. -/
def hostPins (s : State) : Nat := (s.nbrs.filter (fun e => e.2.b.hostPin)).length

/-- A berth is hard-pinned (R318): a record of its handle is being processed, a transmission to it runs, or the host pins it. -/
def hardPinned (s : State) (h : Nat) : Bool :=
  s.recs.any (fun r => r.handle == some h && !r.done)
    || (List.range 8).any (fun e => match (em s e).tx with
      | some t => t.handle == h && t.kind != 4
      | none => false)
    || s.awaiting.any (fun t => t.handle == h)
    || (match nbr s h with
      | some n => n.b.hostPin
      | none => false)

/-! Persistent entries (R313, R314). -/

/-- The persistent entry of a berth. (DEDUCED, log 73.) -/
def persistOf (b : Berth) : Persist :=
  { sampled := b.sampled, unsecuredOk := b.unsecuredOk, shortSrc := b.shortSrc, pendForce := b.pendForce,
    retryLimit := b.retryLimit, ext := b.ext, short := b.short, pan := b.pan, keyRef := b.keyRef, ctrValid := b.ctrValid,
    rxCtr := b.rxCtr, period := b.period, phase := b.phase }

/-- Write a handle's persistent entry; KEEP_MRAM is woken for it, and where it is FAILED nothing is written. -/
def writePersist (h : Nat) (s : State) : State :=
  let s := if domOn s 2 then s else wake 0x05 2 s
  match nbr s h with
  | some n =>
    if domOn s 2 then
      setNbr h { n with persistedAt := some s.now, dirtyAt := none } { s with persist := tabPut s.persist h (persistOf n.b) }
    else s
  | none => s

/-- A received counter or CSL anchor has changed: it is written at once where rx_persist_s has passed since the entry's last
write, and otherwise marked dirty (R314). (DEDUCED, log 40.) -/
def persistChange (h : Nat) (s : State) : State :=
  match nbr s h with
  | none => s
  | some n =>
    let due := match n.persistedAt with
      | some t => decide (t + 1000000000 * rxPersist s ≤ s.now)
      | none => true
    if due then writePersist h s
    else if n.dirtyAt.isSome then s else setNbr h { n with dirtyAt := some s.now } s

/-- PERSIST_INTERVAL_WRITE (R314): at the end of the interval a dirty entry is written. (DEDUCED, log 40.) -/
def execPersistIntervalWrite (h : Nat) (s : State) : Host.Outcome State Fault Refusal :=
  match nbr s h with
  | some n =>
    match n.dirtyAt, n.persistedAt with
    | some _, some t => done s (writePersist h (waitTill (t + 1000000000 * rxPersist s) s))
    | some _, none => done s (writePersist h s)
    | none, _ => done s s
  | none => done s s

/-- A record as it is built from its persistent entry: empty flows, no tone maps (R329, R331). (DEDUCED, log 73.) -/
def buildBerth (s : State) (p : Persist) : Berth :=
  let fl (c : Nat) : Flow :=
    { weight := paramF s 0x0C01 c 1 25 18, profile := paramF s 0x0C01 c 1 29 26
      credit := (paramF s 0x0C02 (paramF s 0x0C01 c 1 29 26) 2 30 0 : Nat) }
  { sampled := p.sampled, unsecuredOk := p.unsecuredOk, shortSrc := p.shortSrc, pendForce := p.pendForce,
    retryLimit := p.retryLimit, ext := p.ext, short := p.short, pan := p.pan, keyRef := p.keyRef, ctrValid := p.ctrValid,
    rxCtr := p.rxCtr, period := p.period, phase := p.phase, timing := (if p.sampled then 4 else 0), sync := s.time.ns,
    flows := (fl 0, fl 1, fl 2, fl 3) }

/-! Requests, fetches and evictions (R316 to R320). -/

/-- Count a fault of a class. -/
def countMiss (cls : Nat) (s : State) : State :=
  if cls = 0 then count F.linkStoreCntMissA_miss_a 0 s
  else if cls = 1 then count F.linkStoreCntMissB_miss_b 0 s
  else if cls = 2 then count F.linkStoreCntMissC_miss_c 0 s
  else count F.linkStoreCntMissD_miss_d 0 s

/-- The berth may be evicted: resident, not hard-pinned. -/
def evictable (s : State) (h : Nat) (n : Nbr) : Bool := n.resident && !n.writing && !hardPinned s h

/-- Begin the eviction of a berth: a clean one is freed at once, a dirty one is written back first (R319). -/
def evict (h : Nat) (s : State) : State :=
  match nbr s h with
  | none => s
  | some n =>
    if n.dirty then setNbr h { n with writing := true, changed := false } s
    else count F.linkStoreCntEvict_evictions 0 (setNbr h { n with resident := false, claim := none } s)

/-- No berth is free and none can be freed: the wait is counted (R320, R335). -/
def berthPressure (s : State) : State :=
  s |> count F.linkStoreCntExhaust_berth_exhausted 0
    |> raiseOnce Ev.linkBerthPressure 0 (fun n => [(freeBerths s, 16), ((s.nbrs.filter (fun e => hardPinned s e.1)).length, 16), (min n 65535, 16)])

/-- A consumer of a class needs a berth: where it is not resident a fetch is requested or joined (R316, R317, R319, R321).
NET_DDR is woken as for work handed over (R24). -/
def needBerth (h cls : Nat) (s : State) : State :=
  match nbr s h with
  | none => s
  | some n =>
    if n.resident then setNbr h { n with used := true, writing := false } s
    else
      let s := countMiss cls s
      match n.fetch with
      | some f =>
        if cls < f.cls then
          count F.linkStoreCntExhaust_promotions 0 (setNbr h { n with fetch := some { f with cls := cls } } s)
        else s
      | none =>
        let s := setNbr h { n with fetch := some ⟨cls, s.now⟩ } s
        let s := if domOn s 25 then s else wake 0x05 25 s
        if freeBerths s = 0 && !s.nbrs.any (fun e => evictable s e.1 e.2) then berthPressure s else s

/-- A berth fetch has brought a record: it is resident; one not built since the start is built from its persistent entry, and
an empty entry means that there is no record (R317, R331). -/
def berthArrives (h : Nat) (s : State) : State :=
  match nbr s h with
  | none => s
  | some n =>
    match n.fetch with
    | none => s
    | some f =>
      let s := if f.cls ≤ 1 then histAdd (14 + f.cls) (durationBin (s.now - f.at')) 1 s else s
      let m : Nbr := { n with resident := true, dirty := false, used := true, writing := false, fetch := none }
      if n.built then setNbr h m s
      else match tabFind s.persist h with
        | some p => count F.linkStoreCntRebuild_rebuilds 0 (setNbr h { m with b := buildBerth s p, built := true, dirty := true } s)
        | none => { s with nbrs := tabDel s.nbrs h }

/-- NET_DDR is on and trained (R472). -/
def ddrUp (s : State) : Bool := domOn s 25 && getB F.netDdrStatus_trained 0 s

/-- EVICTION_SWEEP (R319): berths are evicted until free_reserve are free; one used since the last sweep is passed over once,
and claimed berths go only where no other candidate is left, the latest due first. The hand begins at the lowest handle
(DESIGN CHOICE, log 18). -/
def execEvictionSweep (s : State) : Host.Outcome State Fault Refusal :=
  if !isF s || !domOn s 17 then done s s
  else
    let want (s : State) : Bool :=
      decide (freeBerths s + (s.nbrs.filter (fun e => e.2.writing)).length < freeReserve s)
    let step (s : State) (e : Nat × Nbr) : State :=
      if !want s || !evictable s e.1 e.2 || e.2.claim.isSome then s
      else if e.2.used then modNbr e.1 (fun n => { n with used := false }) s
      else evict e.1 s
    let s1 := s.nbrs.foldl step s
    let free := s1.nbrs.any (fun e => evictable s1 e.1 e.2 && e.2.claim.isNone)
    if want s1 && !free then
      let latest := s1.nbrs.foldl (fun (b : Option (Nat × Nat)) e => match e.2.claim, b with
        | some t, some (_, u) => if evictable s1 e.1 e.2 && u < t then some (e.1, t) else b
        | some t, none => if evictable s1 e.1 e.2 then some (e.1, t) else b
        | none, _ => b) none
      match latest with
      | some (h, _) => done s (evict h s1)
      | none => done s s1
    else done s s1

/-- WRITEBACK_COMPLETE (R319): a berth unchanged since its write-back began is freed; one changed stays resident and dirty. -/
def execWritebackComplete (h : Nat) (s : State) : Host.Outcome State Fault Refusal :=
  match nbr s h with
  | none => done s s
  | some n =>
    if !n.writing || !ddrUp s then done s s
    else
      let s1 := count F.linkStoreCntWriteback_writebacks 0 s
      if n.changed then done s (setNbr h { n with writing := false, changed := false } s1)
      else
        done s (count F.linkStoreCntEvict_evictions 0
          (setNbr h { n with writing := false, dirty := false, resident := false, claim := none } s1))

/-! Spill and fill of pages (R326, R327). -/

/-- A cell of the handle occurs within the next 64 slots (R274, R282). -/
def cellSoon (s : State) (h : Nat) : Bool :=
  slmRunning s && s.slm.cells.any (fun c =>
    let len := sfLength s c.sf
    c.handle == some h && sfEnabled s c.sf && len != 0 && decide ((c.off + len - nextAsn s % len) % len < 64))
  || slmRunning s && (match autoFrame s, nbr s h with
    | some k, some n => sfLength s k != 0
        && decide (((autoOffsets s k n.b.ext).1 + sfLength s k - nextAsn s % sfLength s k) % sfLength s k < 64)
    | _, _ => false)

/-- Pages of the neighbour's frames may be spilled (R295, R296, R326). -/
def spillable (s : State) (h : Nat) (b : Berth) : Bool :=
  phaseLost b || (if b.sampled then !s.slm.contacts.any (fun c => c.handle == h) else !cellSoon s h)

/-- The frames that may be spilled, oldest enqueue first: enqueue instant, handle, class, frame. A frame under way is held.
(DEDUCED, log 97.) -/
def spillCandidates (s : State) : List (Nat × Nat × Nat × QFrame) :=
  let all := s.nbrs.flatMap (fun e => if spillable s e.1 e.2.b then
    (List.range 4).flatMap (fun c =>
      let f := flowOf e.2.b c
      ((if f.busy then f.frames.drop 1 else f.frames).filter (fun x => x.spilled < x.pages)).map (fun x => (x.enq, e.1, c, x)))
    else [])
  all.mergeSort (fun a b => decide (a.1 ≤ b.1))

/-- Pages in the spill area. -/
def spilledPages (s : State) : Nat :=
  (s.nbrs.map (fun e => ((List.range 4).map (fun c => ((flowOf e.2.b c).frames.map (·.spilled)).sum)).sum)).sum
    + (s.fwd.reasm.map (·.spilled)).sum + (s.fwd.up.map (·.spilled)).sum + (s.fwd.deliver.map (·.spilled)).sum

/-- PAGE_SPILL (R326): below spill_low free pages, downlink pages go to DRAM until spill_low + 512 are free. (DEDUCED, log 97.) -/
def execPageSpill (s : State) : Host.Outcome State Fault Refusal :=
  if !isF s || !ddrUp s || spillLow s ≤ freePages s then done s s
  else
    done s ((spillCandidates s).foldl (fun s x =>
      let k := min (x.2.2.2.pages - x.2.2.2.spilled) (min (spillLow s + 512 - freePages s) (262144 - spilledPages s))
      if k = 0 then s
      else
        s |> modFlow x.2.1 x.2.2.1 (fun f => { f with
              frames := f.frames.map (fun y => if y.id = x.2.2.2.id then { y with spilled := y.spilled + k } else y) })
          |> freeGroup x.2.2.2.group k |> countBy F.linkStoreCntSpill_spills 0 k) s)

/-- PAGE_FILL_COMPLETE (R323, R327, R329): the pages come back on die, and the consumer that waits for them resumes. A fill that
finds no free page waits and is counted; what had a poisoned page ends with its other pages freed. (DEDUCED, log 97.) -/
def execPageFillComplete (w : Fill) (poisoned : Bool) (s : State) : Host.Outcome State Fault Refusal :=
  if !ddrUp s then done s s
  else match w with
    | .flow h c =>
      match (flow s h c).frames with
      | x :: _ =>
        if x.spilled = 0 then done s s
        else if poisoned then done s (completeHead h c 0x0D s)
        else if freePages s < x.spilled then done s (count F.linkStoreCntExhaust_berth_exhausted 0 s)
        else
          done s (s |> modFlow h c (fun f => { f with
                frames := f.frames.map (fun y => if y.id = x.id then { y with spilled := 0 } else y) })
            |> grantPages x.group x.spilled |> countBy F.linkStoreCntFill_fills 0 x.spilled)
      | [] => done s s
    | .reasm h t z =>
      match s.fwd.reasm.find? (fun r => r.handle == h && r.tag == t && r.size == z) with
      | some r =>
        if r.spilled = 0 then done s s
        else if poisoned then
          done s (freeGroup 5 (r.pages - r.spilled) { s with fwd := { s.fwd with
            reasm := s.fwd.reasm.filter (fun q => !(q.handle == h && q.tag == t && q.size == z)) } })
        else if freePages s < r.spilled then done s (count F.linkStoreCntExhaust_berth_exhausted 0 s)
        else
          let f (q : Reasm) : Reasm := if q.handle = h ∧ q.tag = t ∧ q.size = z then { q with spilled := 0, headDie := true } else q
          done s ({ s with fwd := { s.fwd with reasm := s.fwd.reasm.map f } }
            |> grantPages 5 r.spilled |> countBy F.linkStoreCntFill_fills 0 r.spilled)
      | none => done s s
    | .ring r =>
      match s.fwd.deliver.find? (fun d => d.ring == r && d.parked) with
      | some d =>
        if poisoned then
          done s (freeGroup d.group (d.pages - d.spilled) { s with fwd := { s.fwd with deliver := s.fwd.deliver.filter (fun x => x != d) } })
        else if freePages s < d.spilled then done s (count F.linkStoreCntExhaust_berth_exhausted 0 s)
        else
          let f (x : Delivery) : Delivery := if x.ring = r ∧ x.parked then { x with spilled := 0, parked := false } else x
          done s ({ s with fwd := { s.fwd with deliver := s.fwd.deliver.map f } }
            |> grantPages d.group d.spilled |> countBy F.linkStoreCntFill_fills 0 d.spilled)
      | none => done s s

/-- DMA_SPILLED_PAGE (R323): the DMA engine stops at a 64-byte boundary, notes its progress, parks the ring and requests a
class-D fill. (DEDUCED, log 97.) -/
def execDmaSpilledPage (r : Fin 32) (prog : Nat) (s : State) : Host.Outcome State Fault Refusal :=
  match s.fwd.deliver.find? (fun d => d.ring == r.val) with
  | some d =>
    if d.spilled = 0 || d.parked then done s s
    else
      let f (x : Delivery) : Delivery := { x with moved := min prog x.len / 64 * 64, parked := true }
      let ds := s.fwd.deliver.foldl (fun (a : List Delivery × Bool) x =>
        if !a.2 && x.ring == r.val then (a.1 ++ [f x], true) else (a.1 ++ [x], a.2)) ([], false)
      done s (countMiss 3 { s with fwd := { s.fwd with deliver := ds.1 } })
  | none => done s s

/-! Errors in records (R328 to R331). -/

/-- A neighbour's reassemblies are abandoned (R377). (DEDUCED, log 97.) -/
def dropReasm (h : Nat) (s : State) : State :=
  let gone := s.fwd.reasm.filter (fun r => r.handle == h)
  gone.foldl (fun s r => freeGroup 5 (r.pages - r.spilled) s)
    { s with fwd := { s.fwd with reasm := s.fwd.reasm.filter (fun r => r.handle != h) } }

/-- A neighbour is quarantined: its frames complete with NEIGHBOUR_GONE, its parked cipher jobs are freed, its cells are held
inactive (R262, R328). -/
def quarantine (h : Nat) (s : State) : State :=
  let s := dropReasm h (completeAll h 0x0B s)
  let s := { s with
    recs := s.recs.map (fun r => if r.handle = some h ∧ 2 ≤ r.job then { r with job := 0, done := true, acked := true } else r)
    slm := { s.slm with contacts := s.slm.contacts.filter (fun c => c.handle != h) } }
  modNbr h (fun n => { n with quarantined := true, claim := none }) s

/-- RECORD_POISONED (R328). -/
def execRecordPoisoned (h : Nat) (backing lasting : Bool) (s : State) : Host.Outcome State Fault Refusal :=
  match nbr s h with
  | none => done s s
  | some n =>
    if n.quarantined || (backing && n.fetch.isNone) || (!backing && !n.resident) then done s s
    else
      done s (quarantine h (count F.linkStoreCntEcc_poisoned 0 (setNbr h { n with fetch := none } s))
        |> raise Ev.linkNbrQuarantined [(h, 17), (b2n backing, 1), (b2n lasting, 1)])

/-- What a reset of NET_DDR loses (R330): records not resident and spilled pages; the frames that held them complete with
DOMAIN_FAILED. -/
def ddrReset (s : State) : State :=
  let lost := (s.nbrs.filter (fun e => !e.2.resident)).length
  let gone (n : Nbr) (x : QFrame) : Bool := !n.resident || x.spilled != 0
  let frames := (s.nbrs.map (fun e => ((List.range 4).map (fun c => ((flowOf e.2.b c).frames.filter (gone e.2)).length)).sum)).sum
  let s := s.nbrs.foldl (fun s e => (List.range 4).foldl (fun s c => completeWhere e.1 c 0x0D (gone e.2) s) s) s
  let s := (s.fwd.reasm.filter (fun r => r.spilled != 0)).foldl (fun s r => freeGroup 5 (r.pages - r.spilled) s) s
  let s := (s.fwd.up.filter (fun u => u.spilled != 0)).foldl (fun s u => freeGroup u.group (u.pages - u.spilled) s) s
  let s := (s.fwd.deliver.filter (fun d => d.spilled != 0)).foldl (fun s d => freeGroup d.group (d.pages - d.spilled) s) s
  let s := { s with
    nbrs := s.nbrs.map (fun e => (e.1, if e.2.resident then { e.2 with writing := false } else { e.2 with built := false }))
    fwd := { s.fwd with
      reasm := s.fwd.reasm.filter (fun r => r.spilled == 0)
      up := s.fwd.up.filter (fun u => u.spilled == 0)
      deliver := s.fwd.deliver.filter (fun d => d.spilled == 0) } }
  raise Ev.linkStoreRebuild [(lost, 32), (frames, 32)] s

/-- DDR_RESET_REBUILD (R330): NET_DDR has been reset. -/
def execDdrResetRebuild (s : State) : Host.Outcome State Fault Refusal :=
  if isF s && s.net.ddrLost then done s (ddrReset { s with net := { s.net with ddrLost := false } }) else done s s

/-! The store's registers (R334). -/

/-- LINK_STORE_CFG to LINK_STORE_SPILL by offset / 4, and the counters at offsets 0x20 to 0x54. -/
def storeWord (s : State) (k : Nat) : Word :=
  let two (a b : Field) : Word := wordOf [(getF a 0 s, 0), (getF b 0 s, 16)]
  let one (a : Field) : Word := w32 (getF a 0 s)
  match k with
  | 0 => wordOf [(freeReserve s, 0), (rxPersist s, 16), (paramF s 0x0609 0 1 31 28, 28)]
  | 1 => wordOf [(s.nbrs.length, 0), (min (s.nbrs.filter (fun e => e.2.quarantined)).length 16383, 18)]
  | 2 => wordOf [(residentCount s, 0), (freeBerths s, 16)]
  | 3 => wordOf [((s.nbrs.filter (fun e => hardPinned s e.1)).length, 0), (hostPins s, 16)]
  | 4 => w32 (spilledPages s)
  | 8 => one F.linkStoreCntMissA_miss_a
  | 9 => one F.linkStoreCntMissB_miss_b
  | 10 => one F.linkStoreCntMissC_miss_c
  | 11 => one F.linkStoreCntMissD_miss_d
  | 12 => one F.linkStoreCntPreempt_preempts
  | 13 => one F.linkStoreCntEvict_evictions
  | 14 => one F.linkStoreCntWriteback_writebacks
  | 15 => one F.linkStoreCntSpill_spills
  | 16 => one F.linkStoreCntFill_fills
  | 17 => two F.linkStoreCntPark_cipher_park F.linkStoreCntPark_slot_full
  | 18 => one F.linkStoreCntSkip_sched_skip
  | 19 => two F.linkStoreCntEcc_corrected F.linkStoreCntEcc_poisoned
  | 20 => two F.linkStoreCntRebuild_rebuilds F.linkStoreCntRebuild_quarantined_rx
  | 21 => two F.linkStoreCntExhaust_berth_exhausted F.linkStoreCntExhaust_promotions
  | _ => 0

/-! Berth words (R310, R311). -/

/-- Berth words 0x00 to 0x3C by offset / 4. -/
def berthWord (h : Nat) (b : Berth) (k : Nat) : Word :=
  match k with
  | 0 => wordOf [(h, 0), (1, 17), (b2n b.sampled, 18), (b2n b.unsecuredOk, 19), (b2n b.shortSrc, 20), (b2n b.gtAllowed, 21),
      (b2n b.gtOpt1, 22), (b2n b.gtOpt2, 23), (b2n b.ctrValid.1, 24), (b2n b.ctrValid.2, 25), (b2n b.pendForce, 26),
      (b2n b.hostPin, 27), (b.retryLimit, 28)]
  | 1 => wordAt b.ext 0
  | 2 => wordAt b.ext 1
  | 3 => wordOf [(b.short, 0), (b.pan, 16)]
  | 4 => wordOf [(b.txMode, 0), (b.mrMcs, 8), (b.gtMiss, 12), (b2n b.gtFallback, 15), (b.txDsn, 16), (b.lastRxDsn, 24)]
  | 5 => wordOf [(unsignedOf b.power 16, 0), (b.period, 16)]
  | 6 => wordOf [(b.keyRef.1, 0), (b.keyRef.2, 16)]
  | 7 => w32 b.rxCtr.1
  | 8 => w32 b.rxCtr.2
  | 9 => w32 b.lastRxMs
  | 10 => wordOf [(b.phase, 0), (b.plan, 16), (b.channel, 20)]
  | 11 => wordOf [(b.timing, 0), (min b.misses 15, 4), (b.fullWakeMs % 65536, 16)]
  | 12 => wordAt b.sync 0
  | 13 => wordAt b.sync 1
  | 14 => wordOf [(min b.rptAge 65535, 0), (unsignedOf b.pMeas 16, 16)]
  | _ => match b.oldRx with
    | some (i, c) => wordOf [(i, 0), (c, 8), (b2n b.txConfirmed, 24), (1, 25)]
    | none => wordOf [(b2n b.txConfirmed, 24)]

/-! Commands (R336, R337). -/

/-- The link word of NBR_ADD and NBR_SET: tx_mode, mr_mcs, retry_limit, power_q. -/
def linkOk (w : Word) : Bool :=
  let m := fieldOf w 7 0
  let c := fieldOf w 10 8
  onlyBits w [(7, 0), (10, 8), (14, 12), (31, 16)] && modeOk m
    && (!(isMrOfdm m || isGt m) || isMrOfdm (0x40 + 8 * ofdmOption m + c) && c < 7)
/-- Apply it. -/
def withLink (b : Berth) (w : Word) : Berth :=
  { b with txMode := fieldOf w 7 0, mrMcs := fieldOf w 10 8, retryLimit := fieldOf w 14 12, power := signedOf (fieldOf w 31 16) 16 }

/-- An address is bound to another handle (R337). -/
def addrTaken (s : State) (h ext short pan : Nat) : Bool :=
  (match findExt s ext with | some k => k != h | none => false)
    || (match findShort s short pan with | some k => k != h | none => false)

/-- The lowest free handle. -/
def freeHandle (s : State) : Option Nat := (List.range (s.nbrs.length + 1)).find? (fun h => (nbr s h).isNone && h < handleLimit s)

/-- The handle of a command, where it is refused: absent on an L variant, out of the bits named, or without a record. -/
def handleRefused (g : Goruz) (s : State) (h : Nat) (fields : List (List (Nat × Nat))) : Option Status :=
  if !isF s && 32767 < h then some .absent
  else if !onlyFields g.words fields then some .badParam
  else if (nbr s h).isNone then some .notFound
  else none

/-- A command that waits for a berth at class C keeps its request words (R321). -/
def waitBerth (g : Goruz) (h : Nat) (s : State) : Res := .later (h :: g.words.map (·.toNat)) (needBerth h 2 s)

/-- Make room for a berth where none is free: a candidate is freed, its contents in its backing record (R319). -/
def makeRoom (s : State) : State :=
  if 0 < freeBerths s then s
  else match s.nbrs.find? (fun e => evictable s e.1 e.2 && e.2.claim.isNone) with
    | some e => count F.linkStoreCntEvict_evictions 0 (setNbr e.1 { e.2 with resident := false, dirty := false } s)
    | none => berthPressure s

/-- NBR_ADD. -/
def bodyNbrAdd (g : Goruz) (s : State) : Res :=
  let auto := gf g 1 17 17 = 1
  let ext := ofWords [gw g 2, gw g 3]
  let short := gf g 4 15 0
  let pan := gf g 4 31 16
  if !auto && !isF s && 32767 < gf g 1 16 0 then fails .absent s
  else if !onlyFields g.words [[(19, 0)], [(31, 0)], [(31, 0)], [(31, 0)], [(31, 0)], [(31, 0)]] || ext = 0 || ext = 2 ^ 64 - 1
    || !linkOk (gw g 5) then fails .badParam s
  else if domState s 2 == 3 || domState s 17 == 3 then fails .domainFailed s
  else
    let ho := if auto then (if (findExt s ext).isSome || (findShort s short pan).isSome then some (handleLimit s) else freeHandle s)
      else some (gf g 1 16 0)
    match ho with
    | none => fails .full s
    | some h =>
      match nbr s h with
      | some n =>
        if n.b.ext == ext && n.b.short == short && n.b.pan == pan then .now .okAlready [w32 h] s else fails .badParam s
      | none =>
        if h = handleLimit s || addrTaken s h ext short pan then fails .badParam s
        else
          let s := makeRoom (wake 0x03 17 s)
          let p : Persist := ⟨false, gf g 1 18 18 = 1, gf g 1 19 19 = 1, false, 0, ext, short, pan, (gf g 6 15 0, gf g 6 31 16), (false, false), (0, 0), 0, 0⟩
          let b := withLink { buildBerth s p with txDsn := freeNow 8 s } (gw g 5)
          .now .ok [w32 h] (writePersist h (freeNext (setNbr h { b := b, resident := decide (0 < freeBerths s) || !isF s } s)))

/-- What the removal of a record takes with it (R273, R332, R372). -/
def nbrRemove (h : Nat) (s : State) : State :=
  let s := dropReasm h (completeAll h 0x0B s)
  let s := ((List.range 4).flatMap (fun c => (flow s h c).frames)).foldl (fun s x => freeFrame x s) s
  let s := { s with
    recs := s.recs.map (fun r => if r.handle = some h ∧ (r.parked ∨ 2 ≤ r.job) then { r with parked := false, job := 0, done := true, acked := true } else r)
    slm := { s.slm with
      cells := s.slm.cells.filter (fun c => c.handle != some h)
      contacts := s.slm.contacts.filter (fun c => c.handle != h) }
    fwd := { s.fwd with routes := s.fwd.routes.filter (fun e => e.2.static || e.2.entry % 2 ^ 19 != h) }
    nbrs := tabDel s.nbrs h }
  let s := if domOn s 2 then s else wake 0x05 2 s
  if domOn s 2 then { s with persist := tabDel s.persist h } else s

/-- NBR_REMOVE (R332). -/
def bodyNbrRemove (g : Goruz) (s : State) : Res :=
  let h := gf g 1 16 0
  match handleRefused g s h [[(16, 0)]] with
  | some st => fails st s
  | none =>
    let k := match nbr s h with
      | some n => framesOf n.b
      | none => 0
    .now .ok [w32 k] (nbrRemove h s)

/-- NBR_SET (R314, R336). -/
def bodyNbrSet (g : Goruz) (s : State) : Res :=
  let h := gf g 1 16 0
  let sel (i : Nat) : Bool := gf g 1 i i = 1
  match handleRefused g s h [[(16, 0), (27, 24)], [(2, 0)], [(31, 0)], [(31, 0)], [(31, 0)]] with
  | some st => fails st s
  | none =>
    if gf g 1 27 24 = 0 || (sel 25 && !linkOk (gw g 3)) then fails .badParam s
    else if sel 27 && (match findShort s (gf g 5 15 0) (gf g 5 31 16) with | some k => k != h | none => false) then fails .badParam s
    else if !resident s h then waitBerth g h s
    else
      let f (b : Berth) : Berth :=
        let b := if sel 24 then { b with unsecuredOk := gf g 2 0 0 = 1, shortSrc := gf g 2 1 1 = 1, pendForce := gf g 2 2 2 = 1 } else b
        let b := if sel 25 then withLink b (gw g 3) else b
        let k := (gf g 4 15 0, gf g 4 31 16)
        let b := if sel 26 then { b with keyRef := k, ctrValid := (b.ctrValid.1 && k.1 == b.keyRef.1, b.ctrValid.2 && k.2 == b.keyRef.2) } else b
        if sel 27 then { b with short := gf g 5 15 0, pan := gf g 5 31 16 } else b
      let t := modBerth h f s
      .now .ok [] (match nbr s h with
        | some n => if persistOf (f n.b) == persistOf n.b then t else writePersist h t
        | none => t)

/-- A berth with the age of its last SNR_REPORT as it stands; none counts as the greatest age (R310). -/
def shownBerth (s : State) (n : Nbr) : Berth :=
  { n.b with rptAge := (match n.reportAt with
    | some t => min 65535 ((s.now - t) / 1000000000)
    | none => 65535) }

/-- NBR_GET (R337): on a quarantined handle, the persistent values. -/
def bodyNbrGet (g : Goruz) (s : State) : Res :=
  let h := gf g 1 16 0
  match handleRefused g s h [[(16, 0)]] with
  | some st => fails st s
  | none =>
    match nbr s h with
    | none => fails .notFound s
    | some n =>
      if n.quarantined then
        .now .ok ((List.range 16).map (berthWord h (match tabFind s.persist h with | some p => buildBerth s p | none => { ext := n.b.ext }))) s
      else if !n.resident then waitBerth g h s
      else .now .ok ((List.range 16).map (berthWord h (shownBerth s n))) s

/-- NBR_FIND. -/
def bodyNbrFind (g : Goruz) (s : State) : Res :=
  let short := gf g 1 0 0 = 1
  if !onlyFields g.words [[(0, 0)], [(31, 0)], [(31, 0)]] || (short && gw g 3 != 0) then fails .badParam s
  else match (if short then findShort s (gf g 2 15 0) (gf g 2 31 16) else findExt s (ofWords [gw g 2, gw g 3])) with
    | none => fails .notFound s
    | some h => .now .ok [wordOf [(h, 0), (b2n (!nbrLive s h), 17), (b2n (resident s h), 18)]] s

/-- NBR_STATS (R312, R337): what the 16 counters count is not stated; each is a free value (DESIGN CHOICE, log 19). -/
def bodyNbrStats (g : Goruz) (s : State) : Res :=
  let h := gf g 1 16 0
  if !isF s then fails .absent s
  else match handleRefused g s h [[(16, 0), (24, 24)]] with
    | some st => fails st s
    | none =>
      if !resident s h then waitBerth g h s
      else
        .now .ok ((List.range 16).map (fun i => w32 (Config.freeValue (s.freeCtr + i)))) { s with freeCtr := s.freeCtr + 16 }

/-- NBR_RESTORE (R329). -/
def bodyNbrRestore (g : Goruz) (s : State) : Res :=
  let h := gf g 1 16 0
  match handleRefused g s h [[(16, 0)]] with
  | some st => fails st s
  | none =>
    match nbr s h, tabFind s.persist h with
    | some n, some p =>
      if !n.quarantined then fails .okAlready s
      else
        let s := makeRoom s
        .now .ok [] (setNbr h { b := { buildBerth s p with hostPin := n.b.hostPin }, persistedAt := n.persistedAt } s)
    | some n, none => if !n.quarantined then fails .okAlready s else fails .notFound s
    | none, _ => fails .notFound s

/-- NBR_PIN (R318, R337). -/
def bodyNbrPin (g : Goruz) (s : State) : Res :=
  let h := gf g 1 16 0
  let v := gf g 1 24 24 = 1
  match handleRefused g s h [[(16, 0), (24, 24)]] with
  | some st => fails st s
  | none =>
    match nbr s h with
    | none => fails .notFound s
    | some n =>
      if n.b.hostPin == v then fails .okAlready s
      else if v && 1024 ≤ hostPins s then fails .full s
      else
        let s := if n.resident then s else needBerth h 2 s
        .now .ok [] (modBerth h (fun b => { b with hostPin := v }) s)

/-- The check of a store configuration (R334, R336). -/
def infoStore (ws : List Word) : RecInfo :=
  let w := wAt ws 0
  { ok := ws.length == 1 && onlyFields ws [[(13, 0), (31, 16)]] && 64 ≤ fieldOf w 13 0 && fieldOf w 13 0 ≤ 8192
      && 10 ≤ fieldOf w 27 16 && fieldOf w 27 16 ≤ 3600 }

/-- STORE_CONFIG. -/
def bodyStoreConfig (g : Goruz) (s : State) : Res := stageBody 0x0609 (infoStore g.words) g s

/-- STORE_STATUS. -/
def bodyStoreStatus (_ : Goruz) (s : State) : Res :=
  .now .ok ((List.range 5).map (storeWord s) ++ (List.range 14).map (fun i => storeWord s (8 + i))) s

end Sys2Proof.Machine
end

