-- ==== Sys2Proof/Machine/Keys.lean ====
section
/-! DEFINITION. Keys, the vault and its parcels, the cipher engines, counters and leases, and tamper (R385 to R420). -/

namespace Sys2Proof.Machine
open Sys2Proof

/-! Root and identity (R385, R388). -/

/-- The root that keys are derived from: the fixed test root while debug is active (R89, R388). -/
def useRoot (s : State) : Nat := if s.keys.debugActive then Config.testRoot else s.keys.root
/-- The identity hash, stored in MRAM at enrolment (R385). -/
def identityHash (s : State) : Nat :=
  Config.sha256 ((List.range 16).map (wordAt (Config.publicOf (Config.derive s.keys.root 2))))
/-- TAMPER_HOLD is set. -/
def tamperHold (s : State) : Bool := reason s 7

/-! The vault (R389, R396). -/

/-- The latest commit: counter and digest (R396). -/
def commitRec (s : State) : Nat × Nat := if s.keys.latestB then s.keys.areaB else s.keys.areaA
/-- The committed parcel counter. -/
def parcelCtr (s : State) : Nat := (commitRec s).1
/-- A slot of an entry that a commit has covered. -/
def slotHeld (c : Nat) : Option KSlot → Option KSlot
  | some k => if k.tag ≤ c then some k else none
  | none => none
/-- The second slot of an entry is in force (R396). -/
def slotB (c : Nat) (v : VEntry) : Bool :=
  match slotHeld c v.a, slotHeld c v.b with
  | none, some _ => true
  | some x, some y => decide (x.tag < y.tag)
  | _, none => false
/-- The slot in force. -/
def slotInForce (c : Nat) (v : VEntry) : Option KSlot := if slotB c v then slotHeld c v.b else slotHeld c v.a
/-- The key that an entry holds (R389). -/
def keyOf (s : State) (e : Nat) : Option KSlot :=
  match tabFind s.keys.vault e with
  | some v => (match slotInForce (parcelCtr s) v with
    | some k => if k.length = 0 then none else some k
    | none => none)
  | none => none
/-- A transport key is held. -/
def transportHeld (s : State) : Bool := (keyOf s 8191).isSome
/-- Entries that hold a key. -/
def keysHeld (s : State) : Nat := (s.keys.vault.filter (fun e => (keyOf s e.1).isSome)).length

/-- A key reference is valid and names an entry (R390). -/
def refNames (r e : Nat) : Bool := bitOf r 15 && r % 8192 == e
/-- A key reference is usable: valid, and its entry holds an AIR key (R390). -/
def usable (s : State) (r : Nat) : Bool :=
  bitOf r 15 && !bitOf r 13 && (match keyOf s (r % 8192) with
    | some k => k.usage == 1
    | none => false)
/-- The lantern's key reference. -/
def lanternRef (s : State) : Nat := paramF s 0x0506 0 1 31 16
/-- The reference count of an entry: the neighbours' references, as their persistent entries hold them, and the lantern's
(R389). -/
def refCount (s : State) (e : Nat) : Nat :=
  (s.persist.map (fun p => b2n (refNames p.2.keyRef.1 e) + b2n (refNames p.2.keyRef.2 e))).sum + b2n (refNames (lanternRef s) e)

/-- The reference that a transmission to a neighbour uses; none where it is not usable (R390). -/
def txRef (s : State) (b : Berth) : Option Nat :=
  let (r0, r1) := b.keyRef
  if bitOf r0 14 && usable s r0 then some (r0 % 8192)
  else if bitOf r1 14 && usable s r1 then some (r1 % 8192)
  else if !bitOf r0 14 && !bitOf r1 14 && usable s r0 then some (r0 % 8192)
  else none

/-- A reference is a candidate for a received record (R390). -/
def candidate (s : State) (r : Nat) (x : Aux) : Bool :=
  usable s r && (match keyOf s (r % 8192) with
    | some k => k.idMode == x.kim
        && (x.kim == 0 || k.index == x.index && (x.kim == 1 || k.source == x.source % 2 ^ (if x.kim = 2 then 32 else 64)))
    | none => false)
/-- The slots 0 and 1 whose references are candidates, in order (R390). -/
def candidates (s : State) (b : Berth) (x : Aux) : List Nat :=
  (if candidate s b.keyRef.1 x then [0] else []) ++ (if candidate s b.keyRef.2 x then [1] else [])

/-! The key cache (R391). -/

/-- The key is cached. -/
def cached (s : State) (e : Nat) : Bool := s.keys.cache.contains e
/-- A job uses a cached key: it is the latest used. -/
def touchKey (e : Nat) (s : State) : State :=
  { s with keys := { s.keys with cache := e :: s.keys.cache.filter (· != e) } }
/-- Cached copies of entries are invalidated (R391). -/
def uncache (es : List Nat) (s : State) : State :=
  { s with keys := { s.keys with cache := s.keys.cache.filter (fun e => !es.contains e) } }
/-- A parked job holds the key (R391): the neighbour of a parked record names it. -/
def keyInUse (s : State) (e : Nat) : Bool :=
  s.recs.any (fun r => 2 ≤ r.job && (match r.handle with
    | some h => (match nbr s h with
      | some n => refNames n.b.keyRef.1 e || refNames n.b.keyRef.2 e
      | none => false)
    | none => false))

/-- KEY_CACHE_MISS (R391): the key is unwrapped from its slot in force, with KEEP_MRAM on. The least recently used key that
no job holds makes room. -/
def execKeyCacheMiss (entry : Fin 8192) (s : State) : Host.Outcome State Fault Refusal :=
  if (keyOf s entry).isNone || cached s entry || !s.keys.rootOk || s.keys.debugActive || tamperHold s then done s s
  else
    let s1 := count F.linkCiphCntCache_cache_miss 0 s
    let s1 := if domOn s1 2 then s1 else wake 0x05 2 s1
    if !domOn s1 2 then done s s1
    else
      let s1 := if s1.keys.cache.length < 4096 then s1
        else match s1.keys.cache.reverse.find? (fun e => !keyInUse s1 e) with
          | some e => uncache [e] s1
          | none => s1
      if s1.keys.cache.length < 4096 then done s (touchKey entry s1) else done s s1

/-! Counters and leases (R404 to R408). -/

/-- The lease L (R406). -/
def leaseLen (s : State) : Nat := 2 ^ paramF s 0x0701 0 1 4 0

/-- What taking the next counter of a key comes to. -/
inductive CtrRes where
  | got (c : Nat) (s : State)
  | wait (s : State)
  | exhausted (s : State)

/-- Change a vault entry. -/
def modVault (e : Nat) (f : VEntry → VEntry) (s : State) : State :=
  match tabFind s.keys.vault e with
  | some v => { s with keys := { s.keys with vault := tabPut s.keys.vault e (f v) } }
  | none => s

/-- On the holder of a torch pair, a value of an AIR key is used only once the boundary of its lease has been sent to the standby; a
link that is down carries nothing, and the limit of `leaseAllowed` is then what remains (R408). (DEDUCED, log 91.) -/
def leaseSent (s : State) (e c usage : Nat) : Bool :=
  !(getF F.keepTorchStatus_role 0 s == 1 && usage == 1) || decide (c < tabGet s.torch.sentLeases e 0)
    || !getB F.netEthStatus_link (paramF s 0x0B02 0 1 1 1) s

/-- Take the next value of a key's outgoing counter (R257, R404 to R406). -/
def takeCounter (e : Nat) (s : State) : CtrRes :=
  match tabFind s.keys.vault e, keyOf s e with
  | some v, some k =>
    let c := v.next
    let last := if k.usage = 1 then 0xFFFFFFFF else 2 ^ 64 - 1
    if last ≤ c then
      if 2 ≤ v.rekey then .exhausted s
      else .exhausted (s |> modVault e (fun v => { v with rekey := 2 }) |> count F.linkCiphCntLease_exhausted_keys 0
        |> raise Ev.keepKeyRekey [(e, 32), (k.usage, 4), (1, 1)])
    else if leaseBoundary v ≤ c || !leaseSent s e c k.usage then .wait (count F.linkCiphCntLease_lease_wait 0 s)
    else
      let low := k.usage == 1 && 0xF0000000 ≤ c && v.rekey == 0
      let s := modVault e (fun v => { v with next := c + 1, rekey := if low then 1 else v.rekey }) s
      .got c (if low then raise Ev.keepKeyRekey [(e, 32), (k.usage, 4), (0, 1)] s else s)
  | _, _ => .wait s

/-- The extension may be made: on a torch pair at most 63 leases beyond the boundary that the standby has acknowledged
(R408). -/
def leaseAllowed (s : State) (v : VEntry) (k : KSlot) : Bool :=
  !(getF F.keepTorchStatus_role 0 s == 1 && k.usage == 1) || decide (leaseBoundary v + leaseLen s ≤ v.acked + 63 * leaseLen s)

/-- LEASE_EXTENSION (R406): the counter has reached B − L/2; B + L is written into the next location. -/
def execLeaseExtension (entry : Fin 8192) (s : State) : Host.Outcome State Fault Refusal :=
  match tabFind s.keys.vault entry, keyOf s entry with
  | some v, some k =>
    if k.usage = 0 || 3 < k.usage || v.next + leaseLen s / 2 < leaseBoundary v || !leaseAllowed s v k then done s s
    else
      let s1 := if domOn s 2 then s else wake 0x05 2 s
      if !domOn s1 2 then done s s1
      else
        let q := leaseSeq v + 1
        done s (modVault entry (fun v => { v with leases := tabPut v.leases (q % 8) (leaseBoundary v + leaseLen s, q) }) s1)
  | _, _ => done s s

/-! Parked cipher jobs, and the engines (R399 to R403). -/

/-- Parked cipher jobs are freed: their records stay in the FTQ and follow R242 (R395, R411). -/
def freeCipherJobs (s : State) : State :=
  { s with recs := s.recs.map (fun r => if 2 ≤ r.job then { r with job := 0, parked := true } else r) }


/-- Engines of its kind in service: 0 and 1 air, 2 host, 3 general. (DEDUCED, log 65.) -/
def engineOk (s : State) (e : Nat) : Bool :=
  if underTest s 5 e then false
  else if e < 2 then bitOf (getF F.linkCiphStatus_in_service 0 s) e
  else if e = 2 then getB F.netHciphStatus_in_service 0 s
  else s.keys.general

/-- No engine serves air jobs: LINK_CIPH is treated as FAILED (R403). -/
def cipherDown (s : State) : Bool :=
  !engineOk s 0 && !engineOk s 1 && (!engineOk s 2 || domDead s 21)

/-- Retire an engine (R10, R403). -/
def retireEngine (e : Nat) (s : State) : State :=
  let s := retireNote 5 e s
  if e < 2 then
    let m := setBit (getF F.linkCiphStatus_in_service 0 s) e false
    s |> setF F.linkCiphStatus_in_service 0 m |> raise Ev.linkCipherRetired [(e, 32), (b2n (bitOf m (1 - e)), 32)]
  else if e = 2 then
    s |> setF F.netHciphStatus_in_service 0 0 |> raise Ev.netCipherRetired [(e, 32), (0, 32)]
  else
    raise Ev.keepCipherRetired [(e, 32), (0, 32)] { s with keys := { s.keys with general := false } }

/-- The counters of an engine's known-answer tests. -/
def katFields (e : Nat) : Field × Field :=
  if e < 2 then (F.linkCiphCntKat_kat_runs, F.linkCiphCntKat_kat_fail)
  else if e = 2 then (F.netHciphCntKat_kat_runs, F.netHciphCntKat_kat_fail)
  else (F.keepGciphCntKat_kat_runs, F.keepGciphCntKat_kat_fail)

/-- KNOWN_ANSWER_TEST (R402, R403): a test that fails is an error event, and is repeated once, as the engine's targeted self-test
(R510, R512); a second failure retires the engine. -/
def execKnownAnswerTest (e : Fin 4) (fails : Fin 3) (s : State) : Host.Outcome State Fault Refusal :=
  let d := if e.val < 2 then 16 else if e.val = 2 then 21 else 1
  if !engineOk s e || !domOn s d then done s s
  else
    let (r, f) := katFields e
    let s1 := countBy r 0 (if fails.val = 0 then 1 else 2) s
    let s1 := if fails.val = 0 then s1
      else outcomeNote 5 (elemRegion 5 0 e) e (fails.val == 1) (lifeAdd 3 1 (countBy f 0 fails s1))
    done s (if fails.val = 2 then retireEngine e s1 else s1)

/-! Tamper (R409 to R415). -/

/-- The policy of a source: 0 LOG, 1 HOLD, 2 ERASE. (DEDUCED, log 42.) -/
def tamperPolicy (s : State) (src : Nat) : Nat := bitsOf s.keys.tamper (2 * src) 2
/-- The source is monitored: a mesh pair may be declared unused by the image (R40, R409). -/
def tamperMonitored (s : State) (src : Nat) : Bool :=
  if src < 2 then !(paramW s 0x0112 0 1).getLsbD (7 + src) else src < 5

/-- The snuff (R411). -/
def snuff (s : State) : State :=
  let s := freeCipherJobs { s with
    keys := { s.keys with cache := [] }
    nbrs := s.nbrs.map (fun e => (e.1, if e.2.resident then { e.2 with b := { e.2.b with keyRef := (0, 0) } } else e.2)) }
  count F.keepTampCnt_snuffs 0 s

/-- ERASE (R413). -/
def eraseAll (s : State) : State :=
  { s with keys := { s.keys with helper := false, vault := [], erased := true, nextRoot := none } }

/-- An alarm is noted: counted, logged and raised (R410, R521). -/
def tamperNote (src sit : Nat) (s : State) : State :=
  let items := [(src, 32), (s.keys.tamper, 10), (sit, 32), (b2n (tamperPolicy s src == 2), 1)]
  s |> setF F.keepTampStatus_active 0 (setBit (getF F.keepTampStatus_active 0 s) src true)
    |> setF F.keepTampStatus_latched 0 (setBit (getF F.keepTampStatus_latched 0 s) src true)
    |> setF F.keepTampStatus_last_source 0 src |> setF F.keepTampStatus_last_situation 0 sit
    |> count F.keepTampCnt_alarms 0 |> histAdd 18 src 1 |> histAdd 18 (8 + sit) 1
    |> raise Ev.keepTamper items |> journalEntry 5 (packItems items)

/-- A UPD_ACTIVATE that has not yet written its commit word is aborted (R533). -/
def abortActivation (s : State) : State :=
  [0, 1, 2, 3].foldl (fun s n => match (lane s n).ex with
    | some x => if x.opcode == 0x0204 && s.upd.act.isNone && s.torch.pair.isNone then respond n x.tag .tamperAbort [] s else s
    | none => s) s

/-- An alarm while the part runs, sleeps, or works on keys: the policy of its source is applied (R410, R413). (DEDUCED, log 42.) -/
def tamperAct (src sit : Nat) (s : State) : State :=
  let s := tamperNote src sit s
  if tamperPolicy s src = 0 then s
  else
    let s := abortActivation (snuff s)
    let s := if tamperPolicy s src = 2 then eraseAll s else s
    let s := if domOn s 1 then s else wake 0x12 1 s
    blankRefresh (setReason 7 s)

/-- TAMPER_ALARM (R409, R410). Before the part has started the alarm is what the tamper step will find. (DEDUCED, log 40.) -/
def execTamperAlarm (src : Fin 5) (s : State) : Host.Outcome State Fault Refusal :=
  if s.start.testHeld || !tamperMonitored s src then done s s
  else if !serving s then
    done s (s |> setF F.keepTampStatus_active 0 (setBit (getF F.keepTampStatus_active 0 s) src true)
      |> setF F.keepTampStatus_latched 0 (setBit (getF F.keepTampStatus_latched 0 s) src true))
  else done s (tamperAct src (if domOn s 1 then 1 else 2) s)

/-- TAMPER_ALARM_CONDITION_END (R414, R416). -/
def execTamperAlarmConditionEnd (src : Fin 5) (s : State) : Host.Outcome State Fault Refusal :=
  done s (setF F.keepTampStatus_active 0 (setBit (getF F.keepTampStatus_active 0 s) src false) s)

/-- A source under HOLD or ERASE is in alarm now (R414). (DEDUCED, log 42.) -/
def alarmPersists (s : State) : Bool :=
  (List.range 5).any (fun i => bitOf (getF F.keepTampStatus_active 0 s) i && tamperPolicy s i != 0)

/-! The ingress buffer (R392). -/

/-- Words buffered. -/
def ingressWords (s : State) : Nat := s.keys.ingress.length
/-- Append a word; beyond the 4,096th it is discarded and sets overflow. -/
def ingressWrite (w : Word) (s : State) : State :=
  if ingressWords s < 4096 then { s with keys := { s.keys with ingress := s.keys.ingress ++ [w] } }
  else setF F.keepKeyIngressStat_overflow 0 1 s
/-- Clear the buffer. -/
def ingressClear (s : State) : State :=
  setF F.keepKeyIngressStat_overflow 0 0 { s with keys := { s.keys with ingress := [] } }

/-- KEY_INGRESS_DATA_WRITE (R392): a register write over PCIe. -/
def execKeyIngressDataWrite (w : Word) (s : State) : Host.Outcome State Fault Refusal :=
  if pcieUsed s then done s (keepAccess (ingressWrite w) s) else done s s

/-- KEY_INGRESS_WRITE (R420). -/
def bodyKeyIngressWrite (g : Goruz) (s : State) : Res :=
  if 4096 < ingressWords s + g.words.length then fails .full s
  else
    let s := g.words.foldl (fun s w => ingressWrite w s) s
    .now .ok [w32 (ingressWords s)] s

/-- KEY_INGRESS_CLEAR. -/
def bodyKeyIngressClear (_ : Goruz) (s : State) : Res := .now .ok [] (ingressClear s)

/-! Parcels (R392 to R398). -/

/-- Octets `[i, i + n)` of words, the first lowest. -/
def octetsOf (ws : List Word) (i n : Nat) : Nat := bitsOf (ofWords ws) (8 * i) (8 * n)

/-- A key record, from its 48 octets as one number (R392). -/
def recordSlot (tag x : Nat) : KSlot :=
  { tag := tag, usage := bitsOf x 16 4, length := bitsOf x 24 8, idMode := bitsOf x 32 2, group := bitOf x 34,
    txLevel := bitsOf x 36 3, index := bitsOf x 40 8, source := bitsOf x 48 64, key := bitsOf x 128 256 }
/-- The entry that a record names. -/
def recordEntry (x : Nat) : Nat := bitsOf x 0 13

/-- A key record is in range (R392, R393 step 7). -/
def recordOk (x : Nat) : Bool :=
  let k := recordSlot 0 x
  let lens : List Nat := match k.usage with
    | 1 => [16] | 2 => [16, 32] | 3 => [32] | 4 => [16, 32] | 5 => [32] | _ => []
  1 ≤ k.usage && k.usage ≤ 5 && (k.usage == 5) == (recordEntry x == 8191) && bitsOf x 112 16 == 0
    && (k.length == 0
      || (lens.contains k.length && bitsOf k.key (8 * k.length) (256 - 8 * k.length) == 0
        && (k.usage != 1 || (1 ≤ k.txLevel && k.txLevel != 4
          && (match k.idMode with
            | 3 => true
            | 2 => bitsOf k.source 32 32 == 0
            | _ => k.source == 0)))))

/-- A parcel as its header gives it. -/
structure Parcel where
  type : Nat
  count : Nat
  cmacAuth : Bool
  counter : Nat
  /-- Words of header and body, the body alone, the authenticator, and the ephemeral key. -/
  signed : List Word
  body : List Word
  auth : List Word
  eph : Nat
  deriving DecidableEq, Repr

/-- Words of the body of a type. -/
def bodyWords (type count : Nat) : Nat :=
  match type with
  | 1 => 14 * count | 2 => 16 | 3 => 2 | 5 => 1 | _ => 0

/-- Step 1 of R393: magic, version, type, length and record count agree with one another and with the words buffered. -/
def parseParcel (ws : List Word) : Option Parcel :=
  let type := fieldOf (wAt ws 1) 15 8
  let count := fieldOf (wAt ws 1) 31 16
  let cm := (wAt ws 3).getLsbD 0
  let n := 30 + bodyWords type count
  let tot := n + (if cm then 4 else 16)
  if ws.length = tot && wAt ws 0 == 0x50434B58 && fieldOf (wAt ws 1) 7 0 = 1 && 1 ≤ type && type ≤ 6 && count ≤ 256
    && (type == 1 || count == 0) && (wAt ws 2).toNat = 4 * tot then
    some ⟨type, count, cm, ofWords [wAt ws 12, wAt ws 13], ws.take n, (ws.take n).drop 30, ws.drop n, ofWords ((ws.take 30).drop 14)⟩
  else none

/-- Step 3 of R393: the type is admitted in the present state (R388, R414, R415). -/
def parcelAdmitted (s : State) (p : Parcel) : Bool :=
  (!tamperHold s || p.type == 4 || (p.type == 6 && s.keys.erased))
    && (match p.type with
      | 1 => s.keys.owned && s.keys.rootOk && !s.keys.debugActive
      | 3 => s.keys.owned
      | 4 => !s.keys.erased
      | 5 => s.keys.debugPermitted && !p.cmacAuth
      | 6 => !s.keys.debugActive && (!s.keys.rootOk || s.keys.erased)
      | _ => true)

/-- Step 4 of R393: the authenticator verifies. (DEDUCED, log 43.) -/
def parcelAuthentic (s : State) (p : Parcel) : Bool :=
  if p.cmacAuth then
    (p.type == 1 || p.type == 3) && !s.keys.requireEcdsa && s.keys.rootOk && !s.keys.debugActive
      && (match keyOf s 8191 with
        | some k => Config.cmac k.key p.signed == ofWords p.auth
        | none => false)
  else
    let key := if p.type = 2 && !s.keys.owned then ofWords p.body else s.keys.ownerKey
    (s.keys.owned || p.type == 2) && Config.ecdsaOk key (Config.sha256 p.signed) p.auth

/-- The wrapped records of a KEYS parcel. -/
def wrappedRecords (p : Parcel) : List (List Word) := (List.range p.count).map (fun i => (p.body.drop (14 * i)).take 14)
/-- The key-encryption key of a parcel (R392). -/
def parcelKek (s : State) (p : Parcel) : Nat :=
  Config.derive (Config.ecdh (Config.derive (useRoot s) 2) p.eph) (identityHash s + 2 ^ 256 * p.counter)
/-- The index of the first element that a test holds of. -/
def firstWhere {α : Type} (f : Nat → α → Bool) : Nat → List α → Option Nat
  | _, [] => none
  | i, x :: t => if f i x then some i else firstWhere f (i + 1) t

/-- Apply a record: it is written into the entry's slot that is not in force (R394, R396). -/
def applyRecord (tag : Nat) (s : State) (x : Nat) : State :=
  let k := recordSlot tag x
  let v := tabGet s.keys.vault (recordEntry x) {}
  let v := if slotB (parcelCtr s) v then { v with a := some k } else { v with b := some k }
  let v := if k.length = 0 then v
    else if 1 ≤ k.usage && k.usage ≤ 3 then { v with leases := [(1, (leaseLen s, 1))], next := 0, acked := 0, rekey := 0 }
    else v
  { s with keys := { s.keys with vault := tabPut s.keys.vault (recordEntry x) v } }

/-- Commit the counter and the digest into the area that does not hold the latest commit (R396), and tell it (R394).
(DEDUCED, log 43.) -/
def commitParcel (p : Parcel) (digest n : Nat) (s : State) : State :=
  let k := s.keys
  { s with keys := (if k.latestB then { k with areaA := (p.counter, digest), latestB := false }
      else { k with areaB := (p.counter, digest), latestB := true }) }
    |> lifeAdd 0x0F 1 |> raise Ev.keepKeyCommitted [(p.type, 8), (n, 9), (0, 15), (p.counter, 64)]

/-- A reference without its valid bit. -/
def invalidRef (r : Nat) : Nat := setBit r 15 false

/-- What a change of owner takes with the vault (R394, R395). -/
def dropVault (s : State) : State :=
  let f (b : Berth) : Berth := { b with keyRef := (invalidRef b.keyRef.1, invalidRef b.keyRef.2), ctrValid := (false, false) }
  let lantern (t : Tab (List Word)) : Tab (List Word) := match tabFind t (cfgKey 0x0506 0) with
    | some (w :: ws) => tabPut t (cfgKey 0x0506 0) ((w &&& 0x7FFFFFFF) :: ws)
    | _ => t
  freeCipherJobs { s with
    nbrs := s.nbrs.map (fun e => (e.1, { e.2 with b := f e.2.b }))
    persist := s.persist.map (fun e => (e.1, { e.2 with
      keyRef := (invalidRef e.2.keyRef.1, invalidRef e.2.keyRef.2), ctrValid := (false, false) }))
    cfg := { s.cfg with committed := lantern s.cfg.committed, staged := lantern s.cfg.staged }
    keys := { s.keys with vault := [], cache := [], requireSigned := false, requireEcdsa := false, debugPermitted := true, tamper := 0 } }

/-- Effects of a CLEAR parcel that completes with GZ_OK (R414). A hold set at start-up leaves the start sequence to resume at
its root step, which START_SEQUENCE then does. -/
def clearHold (s : State) : State :=
  if s.keys.holdAtStart then clearReasons [7] s
  else
    let f (h : Nat) (n : Nbr) : Nbr := if n.resident then (match tabFind s.persist h with
      | some p => { n with b := { n.b with keyRef := p.keyRef } }
      | none => n) else n
    blankRefresh (clearReasons [7] { s with nbrs := s.nbrs.map (fun e => (e.1, f e.1 e.2)) })

/-- Apply a parcel that has passed every check (R394). (DEDUCED, log 43.) -/
def applyParcel (p : Parcel) (recs : List Nat) (s : State) : State :=
  match p.type with
  | 1 => uncache (recs.map recordEntry) (recs.foldl (applyRecord p.counter) s)
  | 2 =>
    let s := if s.keys.owned then dropVault s else s
    { s with keys := { s.keys with owned := true, ownerKey := ofWords p.body } }
  | 3 =>
    let b := wAt p.body 0
    { s with keys := { s.keys with
        requireSigned := b.getLsbD 0, requireEcdsa := b.getLsbD 1, debugPermitted := b.getLsbD 2, tamper := fieldOf (wAt p.body 1) 9 0 } }
  | 4 => clearHold s
  | 5 => { s with keys := { s.keys with debugArmed := (wAt p.body 0).getLsbD 0 } }
  | _ =>
    let was := s.keys.erased
    let s1 := freeNext { s with keys := { s.keys with
        nextRoot := some (freeNow 256 s), helper := true, vault := [], cache := [], erased := false } }
    if was then clearReasons [7] { s1 with start := { s1.start with gateReady := false } } else s1

/-- The response words of a submission (R419). (DEDUCED, log 43.) -/
def parcelWords (p : Parcel) (n r : Nat) : List Word :=
  [wordOf [(p.type, 0), (n, 16)], wordAt p.counter 0, wordAt p.counter 1, w32 r]

/-- The checks of R393 in their order, then the commit. (DEDUCED, log 43.) -/
def submitParcel (ws : List Word) (alarm : Option (Fin 5)) (s : State) : Status × List Word × State :=
  match parseParcel ws with
  | none => (.badParam, [], s)
  | some p =>
    let digest := Config.sha256 ws
    if octetsOf ws 16 32 != identityHash s then (.authFail, [], s)
    else if !parcelAdmitted s p then (.notPermitted, [], s)
    else if !parcelAuthentic s p then (.authFail, [], s)
    else if digest = (commitRec s).2 then (.okAlready, parcelWords p 0 0xFFFF, s)
    else if p.counter ≤ parcelCtr s then (.replay, [], s)
    else
      let ws' := if p.type = 1 then wrappedRecords p else []
      let kek := parcelKek s p
      match firstWhere (fun _ w => !Config.unwrapOk kek w) 0 ws' with
      | some i => (.authFail, parcelWords p 0 i, s)
      | none =>
        let recs := ws'.map (Config.unwrap kek)
        match firstWhere (fun i x => !recordOk x || (recs.take i).any (fun y => recordEntry y == recordEntry x)) 0 recs with
        | some i => (.badParam, parcelWords p 0 i, s)
        | none =>
          match firstWhere (fun _ x => 0 < refCount s (recordEntry x)) 0 recs with
          | some i => (.busy, parcelWords p 0 i, s)
          | none =>
            if p.type = 4 && alarmPersists s then (.busy, [], s)
            else match alarm with
              | some a =>
                if tamperMonitored s a && tamperPolicy s a != 0 then (.tamperAbort, [], tamperAct a 3 s)
                else
                  let s := if tamperMonitored s a then tamperNote a 3 s else s
                  (.ok, parcelWords p p.count 0xFFFF, commitParcel p digest p.count (applyParcel p recs s))
              | none => (.ok, parcelWords p p.count 0xFFFF, commitParcel p digest p.count (applyParcel p recs s))

/-! Status (R416, R419). -/

/-- KEEP_KEY_STATE. -/
def keyStateW (s : State) : Word :=
  wordOf [(b2n s.keys.owned, 0), (b2n s.keys.rootOk, 1), (b2n s.keys.debugArmed, 2), (b2n s.keys.debugActive, 3),
    (b2n (tamperHold s), 4), (b2n s.keys.erased, 5), (b2n (transportHeld s), 6), (b2n s.keys.requireSigned, 8),
    (b2n s.keys.requireEcdsa, 9), (b2n s.keys.debugPermitted, 10), (paramF s 0x0701 0 1 4 0, 16), (paramF s 0x0701 0 1 15 8, 24)]
/-- KEEP_TAMP_POLICY. -/
def tampPolicyW (s : State) : Word :=
  wordOf [(s.keys.tamper % 1024, 0), (maskOf ((List.range 5).filter (tamperMonitored s)), 10)]
/-- KEEP_TAMP_STATUS. -/
def tampStatusW (s : State) : Word :=
  wordOf [(getF F.keepTampStatus_active 0 s, 0), (getF F.keepTampStatus_latched 0 s, 8),
    (getF F.keepTampStatus_last_source 0 s, 16), (getF F.keepTampStatus_last_situation 0 s, 20)]
/-- LINK_CIPH_STATUS. -/
def ciphStatusW (s : State) : Word :=
  wordOf [(getF F.linkCiphStatus_in_service 0 s, 0), (parkedJobs s 0, 4),
    (parkedJobs s 1, 8), (s.keys.cache.length, 16)]

/-- KEY_STATUS. -/
def bodyKeyStatus (_ : Goruz) (s : State) : Res :=
  .now .ok ([keyStateW s, wordAt (parcelCtr s) 0, wordAt (parcelCtr s) 1, w32 (keysHeld s)]
    ++ (List.range 8).map (wordAt (commitRec s).2)) s

/-- KEY_INFO (R420). -/
def bodyKeyInfo (g : Goruz) (s : State) : Res :=
  let e := gf g 1 12 0
  if !onlyFields g.words [[(12, 0)]] then fails .badParam s
  else if !s.keys.rootOk then fails .notPermitted s
  else match keyOf s e, tabFind s.keys.vault e with
    | some k, some v =>
      .now .ok [wordOf [(k.usage, 0), (k.length, 8), (k.idMode, 16), (b2n k.group, 18), (k.txLevel, 20), (k.index, 24)],
        wordAt k.source 0, wordAt k.source 1, wordAt v.next 0, wordAt v.next 1,
        wordAt (leaseBoundary v) 0, wordAt (leaseBoundary v) 1, w32 (refCount s e)] s
    | _, _ => fails .notFound s

/-- TAMPER_STATUS. -/
def bodyTamperStatus (_ : Goruz) (s : State) : Res :=
  .now .ok [tampPolicyW s, tampStatusW s,
    wordOf [(getF F.keepTampCnt_alarms 0 s, 0), (getF F.keepTampCnt_snuffs 0 s, 16)]] s

/-- CIPHER_STATUS. -/
def bodyCipherStatus (_ : Goruz) (s : State) : Res :=
  .now .ok [ciphStatusW s, w32 (getF F.linkCiphCntJobs_jobs 0 s), w32 (getF F.linkCiphCntJobs_jobs 1 s),
    w32 (getF F.linkCiphCntCache_cache_miss 0 s),
    wordOf [(getF F.linkCiphCntKat_kat_runs 0 s, 0), (getF F.linkCiphCntKat_kat_fail 0 s, 16)],
    w32 (getF F.linkCiphCntOverflow_overflow 0 s),
    wordOf [(getF F.linkCiphCntLease_lease_wait 0 s, 0), (getF F.linkCiphCntLease_exhausted_keys 0 s, 16)],
    wordOf [(getF F.netHciphStatus_in_service 0 s, 0), (getF F.netHciphStatus_parked 0 s, 1), (getF F.netHciphStatus_preempted 0 s, 4)],
    w32 (getF F.netHciphCntJobs_jobs 0 s), w32 (getF F.netHciphCntPreempt_preempts 0 s),
    wordOf [(getF F.netHciphCntKat_kat_runs 0 s, 0), (getF F.netHciphCntKat_kat_fail 0 s, 16)]] s

/-- The check of KEY_CONFIG's words (R418, R419). -/
def infoKey (ws : List Word) : RecInfo :=
  let l := fieldOf (wAt ws 0) 4 0
  { ok := ws.length == 1 && onlyFields ws [[(4, 0), (15, 8)]] && 16 ≤ l && l ≤ 22 }

/-- KEY_CONFIG. -/
def bodyKeyConfig (g : Goruz) (s : State) : Res := stageBody 0x0701 (infoKey g.words) g s

end Sys2Proof.Machine
end

