-- ==== Sys2Proof/Machine/Gt.lean ====
section
/-! DEFINITION. Graded-tone OFDM: tone maps, the tone mapper, the receive map table, the fallback, and the PHY commands
(R214 to R235). -/

namespace Sys2Proof.Machine
open Sys2Proof

/-! Configuration (R231, R234). -/

/-- margin in 0.5 dB. -/
def gtMargin (s : State) : Nat := paramF s 0x0440 0 1 4 0
/-- min_interval in ns. -/
def gtInterval (s : State) : Nat := 1000000000 * paramF s 0x0440 0 1 15 8
/-- fallback_after. -/
def gtAfter (s : State) : Nat := paramF s 0x0440 0 1 18 16
/-- fallback_mcs. -/
def gtMcs (s : State) : Nat := paramF s 0x0440 0 1 21 20
/-- gt_en. -/
def gtEn (s : State) : Bool := paramF s 0x0440 0 1 22 22 == 1
/-- map_hold in ns. -/
def gtHold (s : State) : Nat := 1000000000 * paramF s 0x0440 0 1 31 24

/-! Tone maps (R214, R215, R219). -/

/-- Data tones of an option: 0 is option 1. -/
def dataTones (option : Nat) : Nat := if option = 0 then 96 else 48
/-- The FCS of IEEE 802.15.4 over octets: x^16 + x^12 + x^5 + 1 from 0, least significant bit first. (PRESUMED, log 39.) -/
def crc16 (octets : List Nat) : Nat :=
  octets.foldl (fun c o => (List.range 8).foldl (fun c _ => if c % 2 = 1 then Nat.xor (c / 2) 0x8408 else c / 2) (Nat.xor c o)) 0
/-- Octets 0 to 37 of a map (R219). -/
def mapOctets (id option rate : Nat) (codes : List Nat) : List Nat :=
  let n := codes.foldr (fun c a => c % 8 + 8 * a) 0
  id :: (option + 2 * rate) :: (List.range 36).map (fun i => bitsOf n (8 * i) 8)
/-- map_check (R219). (PRESUMED, log 39.) -/
def mapCheck (id option rate : Nat) (codes : List Nat) : Nat := crc16 (mapOctets id option rate codes)
/-- A map with an identifier. -/
def mkMap (id option rate : Nat) (codes : List Nat) : ToneMap := ⟨id, mapCheck id option rate codes, option, rate, codes⟩
/-- The pair that identifies a map (R219). -/
def mapPair (m : ToneMap) : Nat × Nat := (m.id, m.check)
/-- Two maps load their tones alike. -/
def sameMap (a b : ToneMap) : Bool := a.option == b.option && a.rate == b.rate && a.codes == b.codes
/-- The 40 octets of a map as words (R219, R234). -/
def mapWords (m : ToneMap) : List Word :=
  let n := (mapOctets m.id m.option m.rate m.codes ++ [m.check % 256, m.check / 256]).foldr (fun c a => c + 256 * a) 0
  (List.range 10).map (wordAt n)
/-- The least N_CBPS of a valid map (R215). -/
def leastCbps (option : Nat) : Nat := if option = 0 then 24 else 12
/-- A map is valid (R215). -/
def mapValid (m : ToneMap) : Bool :=
  m.codes.all (fun c => c ≤ 4) && mapCbps m.codes % 4 == 0 && leastCbps m.option ≤ mapCbps m.codes
    && (m.codes.drop (dataTones m.option)).all (· == 0)

/-! The modes of downlink frames (R229, R255). -/

/-- The neighbour has reported support for an option (R229). -/
def gtSupport (b : Berth) (option : Nat) : Bool := if option = 0 then b.gtOpt1 else option == 1 && b.gtOpt2
/-- The neighbour's frames are in fallback: GT-OFDM is permitted to it, and its attempts have failed or it has lost its map (R229). -/
def inFallback (s : State) (b : Berth) : Bool :=
  b.gtFallback && (isMrOfdm b.txMode || isGt b.txMode) && gtEn s && b.gtAllowed && gtSupport b (ofdmOption b.txMode)
/-- The PHY mode of a downlink frame, and the map it is sent with (R229, R255). -/
def dataMode (s : State) (b : Berth) : Nat × Option ToneMap :=
  if isMrOfdm b.txMode || isGt b.txMode then
    let o := ofdmOption b.txMode
    if inFallback s b then (0x40 + 8 * o + gtMcs s, none)
    else if gtEn s && b.gtAllowed && gtSupport b o then
      match b.txMap with
      | some m => if m.option = o && mapValid m then (0x70 + 8 * o + m.rate, some m) else (0x40 + 8 * o + b.mrMcs, none)
      | none => (0x40 + 8 * o + b.mrMcs, none)
    else (0x40 + 8 * o + b.mrMcs, none)
  else (b.txMode, none)

/-! Deriving maps (R223, R224). Levels are in 1/80 dB. -/

/-- Threshold of a code at a rate. -/
def toneThreshold (rate code : Nat) : Int :=
  80 * (match rate, code with
    | 0, 1 => 2 | 0, 2 => 5 | 0, 3 => 11 | 0, 4 => 17
    | _, 1 => 4 | _, 2 => 8 | _, 3 => 14 | _, 4 => 20
    | _, _ => -1000)
/-- Deviation of a tone by its code (R310). -/
def toneDevOf (c : Nat) : Int := match c with
  | 1 => 160 | 2 => -160 | 3 => -400 | _ => 0
/-- Deviation of tone d of a neighbour. -/
def devAt (b : Berth) (d : Nat) : Int := toneDevOf (b.toneDev.getD d 0)
/-- Uplink SNR of tone d (R310). -/
def snrUp (b : Berth) (d : Nat) : Int := 40 * b.ulSnr.getD (d / 8) 0 + devAt b d
/-- Downlink SNR of tone d from the node's report (R223). `dp` is p_now less p_meas. -/
def snrDown (b : Berth) (dp : Int) (d : Nat) : Int :=
  let g := d / 8
  let mean := ((List.range 8).map (fun i => devAt b (8 * g + i))).sum / 8
  40 * ((b.dlSnr.getD g none).getD 0) + (devAt b d - mean) + dp

/-- The code of a tone, with the hysteresis against the code it has (R224). -/
def toneCode (rate : Nat) (margin snr : Int) (held : Option Nat) : Nat :=
  let ok (k : Nat) : Bool := match held with
    | some c => decide (toneThreshold rate k + margin + (if c < k then 160 else 0) ≤ snr)
    | none => decide (toneThreshold rate k + margin ≤ snr)
  if ok 4 then 4 else if ok 3 then 3 else if ok 2 then 2 else if ok 1 then 1 else 0

/-- Excess of a tone's SNR over what its code needs; none for a tone that is off. -/
def toneExcess (rate : Nat) (margin : Int) (snr : Nat → Int) (d code : Nat) : Option Int :=
  if code = 0 then none else some (snr d - toneThreshold rate code - margin)
/-- The loaded tone of least excess, the lowest where several are alike (R224). -/
def leastTone (rate : Nat) (margin : Int) (snr : Nat → Int) (codes : List Nat) : Option (Nat × Int) :=
  (List.range codes.length).foldl (fun b d => match toneExcess rate margin snr d (codes.getD d 0), b with
    | some x, some (_, y) => if x < y then some (d, x) else b
    | some x, none => some (d, x)
    | none, _ => b) none
/-- Tones are lowered until N_CBPS is a multiple of 4 (R224). -/
def trimTones (rate : Nat) (margin : Int) (snr : Nat → Int) : Nat → List Nat → List Nat
  | 0, codes => codes
  | n + 1, codes =>
    if mapCbps codes % 4 = 0 then codes
    else match leastTone rate margin snr codes with
      | some (d, _) => trimTones rate margin snr n (codes.set d (codes.getD d 0 - 1))
      | none => codes

/-- The candidate at a code rate (R224). -/
def candidateMap (s : State) (option rate : Nat) (snr : Nat → Int) (cur : Option ToneMap) : List Nat :=
  let margin : Int := 40 * gtMargin s
  let held (d : Nat) : Option Nat := match cur with
    | some m => if m.rate = rate && m.option = option then some (m.codes.getD d 0) else none
    | none => none
  trimTones rate margin snr 400 ((List.range (dataTones option)).map (fun d => toneCode rate margin (snr d) (held d)))

/-- The map chosen, without its identifier; none where no candidate reaches the minimum (R224). -/
def chooseMap (s : State) (option : Nat) (snr : Nat → Int) (cur : Option ToneMap) : Option ToneMap :=
  let a := candidateMap s option 0 snr cur
  let b := candidateMap s option 1 snr cur
  let ok (c : List Nat) : Bool := leastCbps option ≤ mapCbps c
  let da := if ok a then mapDbps a 0 else 0
  let db := if ok b then mapDbps b 1 else 0
  if da = 0 && db = 0 then none
  else if db ≤ da then some ⟨0, 0, option, 0, a⟩ else some ⟨0, 0, option, 1, b⟩

/-! The receive map table and the issue of maps (R221, R225, R226). -/

/-- A map of a direction may be issued now (R225). -/
def mayIssue (s : State) (last : Option Nat) (m : ToneMap) (cur : Option ToneMap) : Bool :=
  let due := match last with
    | some t => decide (t + gtInterval s ≤ s.now)
    | none => true
  match cur with
  | some c => !sameMap m c && (due || decide (4 * mapDbps m.codes m.rate ≤ 3 * mapDbps c.codes c.rate))
  | none => due

/-- The identifier that a new receive map takes: the lowest whose pair is free or holds the same map (R226). -/
def freeMapId (s : State) (m : ToneMap) : Option ToneMap :=
  ((List.range 255).map (fun i => mkMap (i + 1) m.option m.rate m.codes)).find? (fun x =>
    match tabFind s.gt (gtKey x.id x.check) with
    | some e => sameMap e.map x
    | none => true)

/-- Issue a direction-0 map: it is placed in the table before it is sent (R221, R226). -/
def issueRx (h : Nat) (m : ToneMap) (s : State) : State :=
  match nbr s h, freeMapId s m with
  | some n, some x =>
    let k := gtKey x.id x.check
    if (tabFind s.gt k).isNone && 4096 ≤ s.gt.length then
      s |> count F.airTmCntFull_table_full 0 |> raisePerSecond Ev.airGtTableFull 0 [(h, 17), (s.gt.length, 13)]
    else
      let s := { s with gt := tabPut s.gt k ⟨x, s.now⟩ }
      let s := setF F.airTmTable_peak 0 (max (getF F.airTmTable_peak 0 s) s.gt.length) s
      s |> setNbr h { n with issued := (some s.now, n.issued.2), mapDue := (true, n.mapDue.2), rxConfirmed := false }
        |> modBerth h (fun b => { b with rxMap := some x, oldRx := (match b.rxMap with
            | some o => some (mapPair o)
            | none => b.oldRx) })
        |> count F.airTmCntIssued_issued 0
  | _, _ => s

/-- Issue a direction-1 map, which takes the identifier after that of the link's last (R221, DEDUCED, log 20). -/
def issueTx (h : Nat) (m : ToneMap) (s : State) : State :=
  match nbr s h with
  | some n =>
    let last := match n.newTx, n.b.txMap with
      | some x, _ => x.id
      | none, some x => x.id
      | none, none => 0
    let x := mkMap (last % 255 + 1) m.option m.rate m.codes
    s |> setNbr h { n with issued := (n.issued.1, some s.now), mapDue := (n.mapDue.1, true), newTx := some x }
      |> modBerth h (fun b => { b with txConfirmed := false }) |> count F.airTmCntIssued_issued 0
  | none => s

/-- Fold an uplink measurement into the estimate: an exponential average of weight 1/4 in dB. The tone deviations are those of
the latest frame (DEDUCED, log 20). -/
def foldSnr (b : Berth) (snr : List Int) (dev : List Nat) : Berth :=
  let f (i : Nat) (x : Int) : Int := match b.ulSnr[i]? with
    | some o => o + roundDiv (x - o) 4
    | none => x
  { b with ulSnr := (List.range snr.length).map (fun i => f i (snr.getD i 0)), toneDev := dev }

/-- A link is a GT link on an option (R229). -/
def gtLink (s : State) (b : Berth) (option : Nat) : Bool := gtEn s && b.gtAllowed && gtSupport b option

/-- The node's report is fit for a downlink map (R223). -/
def reportFit (s : State) (n : Nbr) (option : Nat) : Bool :=
  (match n.reportAt with
    | some t => decide (s.now ≤ t + 120000000000)
    | none => false)
    && n.b.dlSnr.length == dataTones option / 8 && n.b.dlSnr.all Option.isSome

/-- The tone mapper at a frame that has closed FCS_OK in MR-OFDM or GT-OFDM (R223 to R226): measured SNR per group in 0.5 dB and
the deviation code of each tone. -/
def mapperRun (h mode port : Nat) (snr : List Int) (dev : List Nat) (s : State) : State :=
  if !(isMrOfdm mode || isGt mode) || 1 < ofdmOption mode || !domOn s 14 then s
  else match nbr s h with
    | none => s
    | some n =>
      if !n.resident || n.quarantined then s
      else
        let o := ofdmOption mode
        let s := modBerth h (fun b => foldSnr b snr dev) s
        match nbr s h with
        | none => s
        | some n =>
          if !gtLink s n.b o then s
          else
            let s := match chooseMap s o (snrUp n.b) n.b.rxMap with
              | some m => if mayIssue s n.issued.1 m n.b.rxMap then issueRx h m s else s
              | none => modBerth h (fun b => { b with rxMap := none, oldRx := (match b.rxMap with
                  | some x => some (mapPair x)
                  | none => b.oldRx) }) s
            if !reportFit s n o then s
            else
              let dp : Int := 4 * framePower s port (5 * n.b.power) - 20 * n.b.pMeas
              match chooseMap s o (snrDown n.b dp) n.b.txMap with
              | some m =>
                let pendingSame := match n.newTx with
                  | some x => sameMap x m
                  | none => false
                if !pendingSame && mayIssue s n.issued.2 m n.b.txMap then issueTx h m s else s
              | none => modNbr h (fun n => { n with newTx := none, mapDue := (n.mapDue.1, false), b := { n.b with txMap := none, txConfirmed := false } }) s

/-- A frame has been received under a map: where it is the new one, the old is no longer accepted (R221). -/
def usedMap (h : Nat) (pair : Nat × Nat) (s : State) : State :=
  modNbr h (fun n => match n.b.rxMap with
    | some m => if mapPair m = pair then { n with rxConfirmed := true, b := { n.b with oldRx := none } } else n
    | none => n) s

/-- A direction-0 map is sent again at the next acknowledgement of a frame that does not use it (R221, worked example). -/
def mapMissed (h : Nat) (s : State) : State :=
  modNbr h (fun n => if n.b.rxMap.isSome && !n.rxConfirmed then { n with mapDue := (true, n.mapDue.2) } else n) s

/-- The fallback starts: the present transmit map is due again in direction 1 (R229). -/
def fallbackStart (h : Nat) (s : State) : State :=
  modNbr h (fun n => { n with
    newTx := (match n.newTx with
      | some x => some x
      | none => n.b.txMap)
    mapDue := (n.mapDue.1, n.mapDue.2 || n.newTx.isSome || n.b.txMap.isSome)
    b := { n.b with gtFallback := true } }) s

/-- A GT IE of an accepted frame (R220, R229). -/
def takeGtIe (h : Nat) (s : State) (ie : GtIe) : State :=
  match nbr s h with
  | none => s
  | some n =>
    match ie with
    | .report _ _ snr =>
      count F.airTmCntReport_reports 0 (setNbr h { n with reportAt := some s.now, dirty := true, b := { n.b with dlSnr := snr, pMeas := n.lastPower } } s)
    | .status unknown o1 o2 rx prev _ =>
      let named := match n.b.txMap with
        | some m => mapPair m == rx || mapPair m == prev
        | none => false
      let s := setNbr h { n with dirty := true, b := { n.b with gtOpt1 := o1, gtOpt2 := o2 } } s
      if named then modBerth h (fun b => { b with gtFallback := false, gtMiss := 0, txConfirmed := true }) s
      else if unknown && n.b.txMap.isSome then fallbackStart h s
      else s

/-- GT IEs of an accepted frame. An IE of 12 or 6 groups fits its option (R220). -/
def takeGtIes (h : Nat) (ies : List GtIe) (s : State) : State :=
  (ies.filter (fun ie => match ie with
    | .report o _ snr => o < 2 && snr.length == dataTones o / 8
    | .status .. => true)).foldl (takeGtIe h) s

/-- A link uses an entry of the table (R221, R226). -/
def entryUsed (s : State) (pair : Nat × Nat) : Bool :=
  s.nbrs.any (fun e => (match e.2.b.rxMap with
    | some m => mapPair m == pair
    | none => false) || e.2.b.oldRx == some pair)

/-- Old receive maps are dropped once map_hold has passed since the new one was issued (R221). -/
def dropOldMaps (s : State) : State :=
  { s with nbrs := s.nbrs.map (fun e => (e.1, match e.2.issued.1 with
    | some t => if t + gtHold s ≤ s.now then { e.2 with b := { e.2.b with oldRx := none } } else e.2
    | none => e.2)) }

/-- MAP_TABLE_ENTRY_FREE (R226): an entry that no link uses is freed once map_hold has passed since its last use. -/
def execMapTableEntryFree (id check : Nat) (s : State) : Host.Outcome State Fault Refusal :=
  match tabFind s.gt (gtKey id check) with
  | none => done s s
  | some e =>
    let s1 := dropOldMaps s
    if entryUsed s1 (id, check) || !domOn s 14 then done s s1
    else
      let s1 := dropOldMaps (waitTill (e.lastUse + gtHold s) s1)
      done s { s1 with gt := tabDel s1.gt (gtKey id check) }

/-! Commands (R233 to R235). -/

/-- The check of PHY_GT_CONFIG's words. -/
def infoGt (ws : List Word) : RecInfo :=
  let w := wAt ws 0
  { ok := ws.length == 2 && onlyFields ws [[(4, 0), (15, 8), (18, 16), (22, 20), (31, 24)], [(23, 0)]]
      && fieldOf w 4 0 ≤ 20 && 1 ≤ fieldOf w 15 8 && 1 ≤ fieldOf w 18 16 && 10 ≤ fieldOf w 31 24
      && (fieldOf w 22 22 == 0 || wAt ws 1 != 0) }
/-- The check of PHY_TS_TRIM_SET's words. The coded and uncoded FSK of an index share a record (R230). -/
def infoTsTrim (s : State) (ws : List Word) : RecInfo :=
  let p := fieldOf (wAt ws 0) 1 0
  let m := fieldOf (wAt ws 0) 15 8
  let t := signedOf (fieldOf (wAt ws 1) 15 0) 16
  { ok := ws.length == 2 && onlyFields ws [[(1, 0), (15, 8)], [(15, 0)]] && p < 3 && (m == 0 || modeOk m) && -500 ≤ t && t ≤ 500
    res := p + 4 * (if isFec m then m - 16 else m)
    absent := p < 3 && !portPresent s p }
/-- The check of PHY_FSK_CONFIG's word. -/
def infoFsk (ws : List Word) : RecInfo :=
  let n := fieldOf (wAt ws 0) 9 0
  { ok := ws.length == 1 && onlyFields ws [[(9, 0), (13, 12)]] && 4 ≤ n && n ≤ 1000 }

/-- PHY_GT_CONFIG. -/
def bodyPhyGtConfig (g : Goruz) (s : State) : Res := stageBody 0x0440 (infoGt g.words) g s
/-- PHY_TS_TRIM_SET. -/
def bodyPhyTsTrimSet (g : Goruz) (s : State) : Res := stageBody 0x0441 (infoTsTrim s g.words) g s
/-- PHY_FSK_CONFIG. -/
def bodyPhyFskConfig (g : Goruz) (s : State) : Res := stageBody 0x0442 (infoFsk g.words) g s

/-- PHY_TS_CORR_GET. -/
def bodyPhyTsCorrGet (g : Goruz) (s : State) : Res :=
  let p := gf g 1 1 0
  let m := gf g 1 15 8
  if p < 3 && !portPresent s p then fails .absent s
  else if !onlyFields g.words [[(1, 0), (15, 8)]] || 3 ≤ p || !(m == 0 || modeOk m) then fails .badParam s
  else .now .ok [i32 (tsFactory s p m), i32 (tsTrim s p m), i32 (tsCorr s p m)] s

/-- GT_LINK_SET (R235). -/
def bodyGtLinkSet (g : Goruz) (s : State) : Res :=
  let h := gf g 1 16 0
  let a := gf g 1 24 24 = 1
  let r := gf g 1 25 25 = 1
  if !onlyFields g.words [[(16, 0), (25, 24)]] then fails .badParam s
  else match nbr s h with
    | none => fails .notFound s
    | some n =>
      if n.b.gtAllowed == a && !r then fails .okAlready s
      else
        let s := modBerth h (fun b => { b with gtAllowed := a }) s
        let s := if r then modNbr h (fun n => { n with newTx := none, mapDue := (false, false), rxConfirmed := false
                                                       b := { n.b with txMap := none, rxMap := none, oldRx := none, txConfirmed := false } }) s else s
        .now .ok [] s

/-- GT_MAP_GET (R235). -/
def bodyGtMapGet (g : Goruz) (s : State) : Res :=
  let h := gf g 1 16 0
  if !onlyFields g.words [[(16, 0), (24, 24)]] then fails .badParam s
  else match nbr s h with
    | none => fails .notFound s
    | some n =>
      if !n.resident then waitBerth g h s
      else
        let tx := gf g 1 24 24 = 0
        match (if tx then n.b.txMap else n.b.rxMap) with
        | some m =>
          .now .ok (wordOf [(1, 0), (b2n (if tx then n.b.txConfirmed else n.rxConfirmed), 1), (m.id, 8), (m.check, 16)] :: mapWords m) s
        | none => .now .ok (List.replicate 11 0) s

/-- A register of the tone mapper as it reads, by its place from 0xC12000. -/
def tmWord (s : State) (k : Nat) : Word :=
  match k with
  | 0 => paramW s 0x0440 0 1
  | 1 => paramW s 0x0440 0 2
  | 2 => wordOf [(s.gt.length, 0), (getF F.airTmTable_peak 0 s, 16)]
  | 3 => wordOf [(getF F.airTmLastUnknown_map_id 0 s, 0), (getF F.airTmLastUnknown_map_check 0 s, 8),
      (getF F.airTmLastUnknown_listener 0 s, 24)]
  | 4 => w32 (getF F.airTmCntIssued_issued 0 s)
  | 5 => w32 (getF F.airTmCntUnknown_unknown 0 s)
  | 6 => w32 (getF F.airTmCntFull_table_full 0 s)
  | 7 => w32 (getF F.airTmCntFallback_fallback 0 s)
  | _ => w32 (getF F.airTmCntReport_reports 0 s)

/-- GT_STATUS. -/
def bodyGtStatus (_ : Goruz) (s : State) : Res := .now .ok ((List.range 9).map (tmWord s)) s

end Sys2Proof.Machine
end

