-- ==== Sys2Proof/Machine/Windows.lean ====
section
/-! DEFINITION. The times of slot templates, the uncertainty of the part and of its neighbours, and the timing states that follow
(R269, R288, R292 to R294, R298). -/

namespace Sys2Proof.Machine
open Sys2Proof

/-! Configuration (R269, R271, R303). Times in ns. -/

/-- tx_offset of a slotframe's template. -/
def txOffset (s : State) (k : Nat) : Nat := tmplNs s k 2 15 0
/-- rx_wait. -/
def rxWait (s : State) (k : Nat) : Nat := tmplNs s k 2 31 16
/-- rx_wait_max. -/
def rxWaitMax (s : State) (k : Nat) : Nat := tmplNs s k 3 15 0
/-- tx_ack_delay. -/
def txAckDelay (s : State) (k : Nat) : Nat := tmplNs s k 3 31 16
/-- ack_wait. -/
def ackWaitNs (s : State) (k : Nat) : Nat := tmplNs s k 4 15 0
/-- end_guard. -/
def endGuard (s : State) (k : Nat) : Nat := tmplNs s k 4 31 16
/-- ack_octets. (PRESUMED, log 38.) -/
def ackOctets (s : State) (k : Nat) : Nat := paramF s 0x0501 (sfF s k 1 14 12) 5 7 0
/-- follower. -/
def follower (s : State) : Bool := paramF s 0x0504 0 1 0 0 == 1
/-- auto_rescan. -/
def autoRescan (s : State) : Bool := paramF s 0x0504 0 1 1 1 == 1
/-- The time parent's handle. -/
def parentOf (s : State) : Nat := paramF s 0x0504 0 2 16 0
/-- csl_guard_us in ns. -/
def cslGuard (s : State) : Nat := 1000 * paramF s 0x0505 0 2 15 0
/-- csl_window_ms in ns. -/
def cslWindow (s : State) : Nat := 1000000 * paramF s 0x0505 0 2 23 16
/-- full_budget_s in µs. -/
def fullBudget (s : State) : Nat := 1000000 * paramF s 0x0505 0 2 31 24
/-- base_us in ns. -/
def baseNs (s : State) : Nat := 1000 * paramF s 0x0505 0 1 31 16

/-- Sync state: 0 SYNCED, 1 WEAK, 2 LOST, 3 RESCAN (R298). -/
def syncState (s : State) : Nat := getF F.linkSlmStatus_sync_state 0 s
/-- Set it. -/
def setSync (n : Nat) (s : State) : State := setF F.linkSlmStatus_sync_state 0 n s
/-- The part's own uncertainty (R292, R298): 0 while SYNCED or where the part is no follower. (DEDUCED, log 51.) -/
def uSelf (s : State) : Nat :=
  if !follower s || syncState s = 0 then 0
  else baseNs s + paramF s 0x0505 0 1 15 8 * (s.time.ns - s.slm.parentSync.getD 0) / 1000000
/-- The uncertainty of a neighbour (R292). -/
def uncertainty (s : State) (b : Berth) : Nat :=
  baseNs s + paramF s 0x0505 0 1 7 0 * (s.time.ns - b.sync) / 1000000 + uSelf s
/-- U_e of a sampled neighbour (R293). -/
def uSampled (s : State) (b : Berth) : Nat := if b.misses < 3 then uncertainty s b else uncertainty s b * 2 ^ (b.misses - 2)
/-- guard_min: the smallest guard among the templates of enabled slotframes (R298). -/
def guardMin (s : State) : Nat := ((sfList s).map (fun k => rxWait s k / 2)).foldl min (2 ^ 63)
/-- The span of the look-ahead in ns (R282). -/
def lookSpan (s : State) : Nat := if slmRunning s then 64 * slotNs s else 640000000

/-! Timing states (R291, R293). -/

/-- The timing state of a scheduled neighbour against a template (R293). -/
def schedTiming (s : State) (b : Berth) (k : Nat) : Nat :=
  let u := uncertainty s b
  if 2 * u ≤ rxWait s k then 0 else if 2 * u ≤ rxWaitMax s k then 1 else 2
/-- P of a sampled neighbour in ns. -/
def cslPeriod (b : Berth) : Nat := 1000000 * b.period
/-- The timing state of a sampled neighbour (R291, R293). -/
def cslTiming (s : State) (b : Berth) : Nat :=
  let u := uSampled s b
  if b.period = 0 || u ≤ cslGuard s then 4 else if 2 * u ≤ cslPeriod b then 5 else 6
/-- U_w (R293); none for a neighbour that always listens (R291). (PRESUMED, log 58.) -/
def halfWake (s : State) (b : Berth) : Nat :=
  if b.period = 0 then 0
  else match cslTiming s b with
    | 4 => cslGuard s
    | 5 => uSampled s b
    | _ => cslPeriod b / 2 + cslGuard s

end Sys2Proof.Machine
end

