-- ==== Sys2Proof/Machine/Traffic.lean ====
section
/-! DEFINITION. Downlink frames as they are built, the traffic scheduler, policing, the sampler and the flow cores
(R254, R338 to R360). -/

namespace Sys2Proof.Machine
open Sys2Proof

/-! The length and airtime of a downlink frame (R254, R390). -/

/-- Octets of the auxiliary security header by key identifier mode, and of the MIC by level. (PRESUMED, log 38.) -/
def auxOctets (kim : Nat) : Nat := 5 + (match kim with | 0 => 0 | 1 => 1 | 2 => 5 | _ => 9)
/-- Octets of the MIC of a security level (R246). (PRESUMED, log 38.) -/
def micOctets (level : Nat) : Nat := match level % 4 with
  | 1 => 4 | 2 => 8 | 3 => 16 | _ => 0
/-- Octets of security of a frame to a neighbour: header and MIC of the key it uses (R390). -/
def secOctets (s : State) (b : Berth) : Nat := match txRef s b with
  | some e => (match keyOf s e with
    | some k => auxOctets k.idMode + micOctets k.txLevel
    | none => 0)
  | none => 0
/-- Octets of the MHR of a frame to a neighbour without its IEs: frame control, sequence number, PAN, destination and source
(R254). (PRESUMED, log 38.) -/
def mhrOctets (b : Berth) : Nat := 5 + (if b.short != 0xFFFE then 2 else 8) + (if b.shortSrc then 2 else 8)
/-- A TONE_MAP and the end of the header IEs (R220). (PRESUMED, log 38.) -/
def mapIeOctets : Nat := 49
/-- Octets of the FCS: 2 for O-QPSK of 2.4 GHz, else 4. (PRESUMED, log 38.) -/
def fcsOctets (mode : Nat) : Nat := if mode == 0x60 then 2 else 4
/-- The next frame to the neighbour carries a TONE_MAP of direction 1, which a frame that requests an acknowledgement may, or
of direction 0 (R221). -/
def carriesMap (s : State) (n : Nbr) : Bool :=
  gtEn s && n.b.gtAllowed && (n.mapDue.1 || n.mapDue.2)
/-- PSDU octets of a downlink frame as it would be built now. -/
def psduOctets (s : State) (n : Nbr) (x : QFrame) : Nat :=
  mhrOctets n.b + (if carriesMap s n then mapIeOctets else 0) + secOctets s n.b + x.octets + fcsOctets (dataMode s n.b).1
/-- Airtime of a downlink frame in ns (R255). -/
def frameAir (s : State) (n : Nbr) (x : QFrame) : Nat :=
  let m := dataMode s n.b
  airtimeNs s m.1 (psduOctets s n x) m.2
/-- The same in whole µs, rounded up. (DESIGN CHOICE, log 44.) -/
def usUp (ns : Nat) : Nat := (ns + 999) / 1000

/-! Classes, profiles and virtual time (R343, R346, R347). -/

/-- Urgency threshold of a class in ns. -/
def urgencyNs (s : State) (c : Nat) : Nat := 1000000 * paramF s 0x0C01 c 1 17 2
/-- Refill rate of a profile. -/
def profRate (s : State) (p : Nat) : Nat := paramF s 0x0C02 p 1 27 8
/-- Ceiling of a profile. -/
def profCeil (s : State) (p : Nat) : Int := (paramF s 0x0C02 p 2 30 0 : Nat)
/-- urgent_cap_pct. -/
def urgentCap (s : State) : Nat := paramF s 0x0C05 0 1 6 0
/-- sampler_en. -/
def samplerEn (s : State) : Bool := paramF s 0x0C05 0 1 8 8 == 1

/-- Virtual times wrap at 48 bits (R343). -/
def vtMod : Nat := 2 ^ 48
/-- a precedes b (R343). -/
def vtBefore (a b : Nat) : Bool := decide ((b + vtMod - a % vtMod) % vtMod < 2 ^ 47) && a % vtMod != b % vtMod
/-- The later of two virtual times. -/
def vtMax (a b : Nat) : Nat := if vtBefore a b then b else a
/-- The cost of an attempt (R343). (DEDUCED, log 95.) -/
def attemptCost (us weight : Nat) : Nat := if weight = 0 then 0 else (us * 256 + weight - 1) / weight
/-- Cost of the head of a flow: in a contact the wake-up sequence is part of it. (DEDUCED, log 95.) -/
def headCost (s : State) (n : Nbr) (f : Flow) : Nat := match f.frames with
  | x :: _ => attemptCost (usUp (frameAir s n x + (if n.b.sampled then 2 * halfWake s n.b else 0))) f.weight
  | [] => 0

/-- A flow wakes: it never starts in the past (R343). -/
def flowWake (h c : Nat) (s : State) : State :=
  match nbr s h with
  | none => s
  | some n =>
    let f := flowOf n.b c
    let v := (if f.weight = 0 then s.trf.v else vtMax s.trf.v f.vft) + headCost s n f
    modFlow h c (fun f => { f with vft := v % vtMod }) s

/-- A flow's profile has rate 0: it is paused (R346). -/
def flowPaused (s : State) (f : Flow) : Bool := profRate s f.profile == 0
/-- A flow is eligible in a round (R342). -/
def eligible (s : State) (h c : Nat) : Bool :=
  match nbr s h with
  | none => false
  | some n =>
    let f := flowOf n.b c
    !f.frames.isEmpty && !f.parked && !phaseLost n.b && !flowPaused s f && n.resident && !n.quarantined && 0 ≤ f.credit && !f.busy
/-- Enqueue instant of the head. -/
def headEnq (f : Flow) : Nat := match f.frames with
  | x :: _ => x.enq
  | [] => 0

/-! The urgent tier (R347, R348). -/

/-- Urgent airtime charged to a listener in the present second of keep time, in µs. -/
def urgentUsed (s : State) (n : Nat) : Nat :=
  match tabFind s.trf.urgentUse n with
  | some (sec, us) => if sec = s.time.ns / 1000000000 then us else 0
  | none => 0
/-- An urgent attempt stays within the cap of a listener (R348). -/
def withinCap (s : State) (n us : Nat) : Bool := urgentUsed s n + us ≤ 10000 * urgentCap s
/-- Charge urgent airtime to a listener. -/
def chargeUrgent (n us : Nat) (s : State) : State :=
  { s with trf := { s.trf with urgentUse := tabPut s.trf.urgentUse n (s.time.ns / 1000000000, urgentUsed s n + us) } }

/-- The flow of a round enters the urgent tier (R347). -/
def entersUrgent (s : State) (h c : Nat) : Bool :=
  match nbr s h with
  | none => false
  | some n =>
    let f := flowOf n.b c
    !f.urgent && !f.frames.isEmpty && !f.parked && !phaseLost n.b && !flowPaused s f && !n.quarantined && n.resident
      && urgentCap s != 0 && decide (headEnq f + urgencyNs s c ≤ s.time.ns)
/-- The flows of every neighbour: handle and class. -/
def allFlows (s : State) : List (Nat × Nat) := s.nbrs.flatMap (fun e => (List.range 4).map (fun c => (e.1, c)))
/-- A round begins: what was skipped is considered again (R325). -/
def clearSkipped (s : State) : State :=
  let f (x : Flow) : Flow := { x with skipped := false }
  let one (n : Nbr) : Nbr :=
    let (w, x, y, z) := n.b.flows
    { n with b := { n.b with flows := (f w, f x, f y, f z) } }
  { s with nbrs := s.nbrs.map (fun e => (e.1, one e.2)) }
/-- A flow whose berth is not resident is skipped for the round, and the berth is asked for (R325). -/
def skipFlows (h : Nat) (s : State) : State :=
  needBerth h 1 ((List.range 4).foldl (fun s c => match (flow s h c).frames with
    | [] => s
    | _ :: _ => count F.linkStoreCntSkip_sched_skip 0
        (modNbr h (fun x => { x with b := withFlow x.b c { flowOf x.b c with skipped := true } }) s)) s)
/-- Entries into the urgent tier at a round (R347). -/
def urgentRound (s : State) : State :=
  (allFlows s).foldl (fun t x => if entersUrgent s x.1 x.2
    then count F.netSchedCntUrgent_urgent_entries 0 (modFlow x.1 x.2 (fun f => { f with urgent := true }) t) else t) (clearSkipped s)
/-- URGENT_ENTRY (R347): a round begins. -/
def execUrgentEntry (s : State) : Host.Outcome State Fault Refusal :=
  if domOn s 18 then done s (urgentRound s) else done s s

/-! Choosing a head (R344). -/

/-- What an offer asks of a head: it fits the window, and the listener that its attempt would be charged to (R284, R348). -/
structure Offer where
  fits : Nat → Nat → Nbr → QFrame → Bool
  charged : Nat → Nat

/-- The head of a candidate fits the offer. -/
def candFits (s : State) (o : Offer) (x : Nat × Nat) : Bool :=
  match nbr s x.1 with
  | some n => (match (flowOf n.b x.2).frames with
    | q :: _ => o.fits x.1 x.2 n q
    | [] => false)
  | none => false
/-- Airtime in µs of the head of a candidate. -/
def candUs (s : State) (x : Nat × Nat) : Nat :=
  match nbr s x.1 with
  | some n => (match (flowOf n.b x.2).frames with
    | q :: _ => usUp (frameAir s n q)
    | [] => 0)
  | none => 0
/-- The first of a list under an order. -/
def bestOf {α : Type} (before : α → α → Bool) : List α → Option α
  | [] => none
  | x :: t => match bestOf before t with
    | some y => if before y x then some y else some x
    | none => some x

/-- What a choice comes to: the flow, whether it is served from the urgent tier, and urgent flows that the cap has deferred. -/
structure Pick where
  flow : Option (Nat × Nat)
  urgent : Bool
  capped : Nat
  deriving DecidableEq, Repr

/-- The scheduler's choice among candidate flows (R344, R348). -/
def choose (s : State) (o : Offer) (cands : List (Nat × Nat)) : Pick :=
  let el := cands.filter (fun x => eligible s x.1 x.2)
  let f (x : Nat × Nat) : Flow := flow s x.1 x.2
  let older (x y : Nat × Nat) : Bool := decide (headEnq (f x) < headEnq (f y))
  let tie (x y : Nat × Nat) : Bool := decide (x.2 < y.2) || (x.2 == y.2 && decide (x.1 < y.1))
  let urg := if urgentCap s = 0 then [] else el.filter (fun x => (f x).urgent && candFits s o x)
  let ok := urg.filter (fun x => withinCap s (o.charged x.1) (candUs s x))
  let capped := urg.length - ok.length
  match bestOf older ok with
  | some x => ⟨some x, true, capped⟩
  | none =>
    let w := el.filter (fun x => (f x).weight != 0)
    let vft (x y : Nat × Nat) : Bool := vtBefore (f x).vft (f y).vft || ((f x).vft == (f y).vft && tie x y)
    match bestOf vft (w.filter (candFits s o)) with
    | some x => ⟨some x, false, capped⟩
    | none =>
      if w.isEmpty then ⟨bestOf older (el.filter (candFits s o)), false, capped⟩ else ⟨none, false, capped⟩

/-- Account for a choice: an offer answered, and urgent attempts deferred by the cap. -/
def countPick (p : Pick) (s : State) : State :=
  let s := if p.capped = 0 then s else countBy F.netSchedCntUrgent_urgent_capped 0 p.capped s
  if p.flow.isSome then count F.netSchedCntOffer_offers_taken 0 s else s

/-- Charges of an attempt, at its preparation point (R343, R345, R346): V, the credit, and where it is served from the urgent
tier the listener's airtime and the flag. -/
def attemptStart (h c us : Nat) (urgent : Bool) (listener : Nat) (s : State) : State :=
  let f := flow s h c
  let s := if urgent then chargeUrgent listener us s
    else { s with trf := { s.trf with v := (if f.weight = 0 then s.trf.v else vtMax s.trf.v f.vft) } }
  let cr := if profRate s f.profile = 1000000 then profCeil s f.profile else max (-2147483648) (f.credit - us)
  modFlow h c (fun f => { f with credit := cr, busy := true, urgent := f.urgent && !urgent }) s

/-- The outcome of an attempt: a flow still active takes its next virtual finish time (R343). -/
def attemptOutcome (h c : Nat) (s : State) : State :=
  match nbr s h with
  | none => s
  | some n =>
    let f := flowOf n.b c
    modFlow h c (fun f => { f with busy := false, vft := (if f.frames.isEmpty then f.vft else (s.trf.v + headCost s n f) % vtMod) }) s

/-! Admission into a flow (R339, R341). -/

/-- Refused for depth: counted, and otherwise as a quota refusal (R339). -/
def depthRefused (g k : Nat) (s : State) : State :=
  s |> count F.netSchedCntRefuse_refused_depth 0
    |> raiseOnce Ev.netQuotaRefused 0 (fun n => [(g, 3), (k, 32), (quotaUsed s g, 16), (min n 65535, 16)])

/-- Frames of one datagram enter a flow, all or none (R339, R340, R376): octets of the payload of each. -/
def enqueue (h c : Nat) (lens : List Nat) (dgram : Option Nat) (s : State) : State × Bool :=
  let g := 1 + c
  let k := (lens.map pagesOf).sum
  if 4095 < (flow s h c).frames.length + lens.length then (depthRefused g k s, false)
  else if !canGrant s g k then (quotaRefused g k s, false)
  else
    let was := (flow s h c).frames.isEmpty
    let fs := lens.foldl (fun (a : List QFrame × Nat) l =>
      (a.1 ++ [{ id := a.2, enq := s.time.ns, octets := l, pages := pagesOf l, dgram := dgram, group := g }], a.2 + 1)) ([], s.trf.nextFrame)
    let s := grantPages g k { s with trf := { s.trf with nextFrame := fs.2 } }
    let s := modFlow h c (fun f => { f with frames := f.frames ++ fs.1 }) s
    (if was then flowWake h c s else s, true)

/-- Profile of a police bucket. -/
def polProfile (s : State) (b : Nat) : Nat := paramF s 0x0C04 b 1 11 8
/-- Credit of a police bucket; an unlimited one is held at its ceiling. (DESIGN CHOICE, log 44.) -/
def polCredit (s : State) (b : Nat) : Int :=
  if profRate s (polProfile s b) = 1000000 then profCeil s (polProfile s b) else tabGet s.trf.police b 0
/-- Policing of a frame from an Ethernet port (R341). (DESIGN CHOICE, log 44.) -/
def police (b port octets : Nat) (s : State) : State × Bool :=
  if b = 0 || paramF s 0x0C04 b 1 31 16 = 0 then (s, true)
  else if 0 ≤ polCredit s b then
    let cost : Nat := (octets * paramF s 0x0C04 b 1 31 16 + 15) / 16
    ({ s with trf := { s.trf with police := tabPut s.trf.police b (max (-2147483648) (polCredit s b - cost)) } }, true)
  else
    (s |> count F.netSchedCntPoliced_policed 0 |> count F.netSchedPolCnt_policed b
      |> raiseOnce Ev.netPoliced 0 (fun n => [(b, 6), (port, 32), (min n 65535, 16)]), false)

/-! Refill (R346). -/

/-- A credit after the refills from millisecond `a` to millisecond `b`. -/
def refilled (s : State) (p a b : Nat) (c : Int) : Int :=
  let r := profRate s p
  if r = 1000000 then profCeil s p
  else min (profCeil s p) (c + ((r * b / 1000 : Nat) - (r * a / 1000 : Nat) : Int))

/-- CREDIT_REFILL (R346): the end of a millisecond. Refills that time has passed are made up (DEDUCED, log 21). -/
def execCreditRefill (s : State) : Host.Outcome State Fault Refusal :=
  let s1 := waitTill (s.trf.refillAt + 1000000) s
  let a := s.trf.refillAt / 1000000
  let b := s1.now / 1000000
  let fl (f : Flow) : Flow := { f with credit := refilled s f.profile a b f.credit }
  let one (n : Nbr) : Nbr := if n.resident then
    let (w, x, y, z) := n.b.flows
    { n with b := { n.b with flows := (fl w, fl x, fl y, fl z) } } else n
  done s { s1 with
    nbrs := if domOn s1 18 then s1.nbrs.map (fun e => (e.1, one e.2)) else s1.nbrs
    trf := { s1.trf with refillAt := b * 1000000, police := s1.trf.police.map (fun e => (e.1, refilled s (polProfile s e.1) a b e.2)) } }

/-! The sampler (R351). -/

/-- Count into a sampler bin: kind 0 depth, 1 head age, 2 ring fill. (DEDUCED, log 100.) -/
def sample (kind index bin : Nat) (s : State) : State :=
  let k := 512 * kind + 16 * index + bin
  { s with trf := { s.trf with hist := tabSetN s.trf.hist k (satAdd 32 (tabGet s.trf.hist k 0) 1) } }
/-- Bin of a head age in ns. -/
def ageBin (ns : Nat) : Nat := if ns < 1000000 then 0 else min 15 (Nat.log2 (ns / 1000000) + 1)

/-- SAMPLER_VISIT (R351): the next active flow whose berth is resident, in handle and class order. -/
def execSamplerVisit (s : State) : Host.Outcome State Fault Refusal :=
  if !samplerEn s || !domOn s 18 then done s s
  else
    let act := (allFlows s).filter (fun x => !(flow s x.1 x.2).frames.isEmpty)
    let key (x : Nat × Nat) : Nat := 4 * x.1 + x.2
    let later := act.filter (fun x => match s.trf.cursor with
      | some k => decide (k < key x)
      | none => true)
    let order := later ++ act.filter (fun x => !later.contains x)
    let skipped := (order.takeWhile (fun x => !resident s x.1)).length
    match order[skipped]? with
    | none =>
      if act.isEmpty then done s s
      else done s (countBy F.netSchedCntSample_sample_skipped 0 skipped s)
    | some x =>
      let f := flow s x.1 x.2
      let s1 := if skipped = 0 then s else countBy F.netSchedCntSample_sample_skipped 0 skipped s
      let s1 := if later.length ≤ skipped then count F.netSchedCntSample_passes 0 s1 else s1
      done s (s1 |> sample 0 x.2 (min 11 (Nat.log2 f.frames.length)) |> sample 1 x.2 (ageBin (s.time.ns - headEnq f))
        |> (fun s => { s with trf := { s.trf with cursor := some (key x) } }))

/-- Size of a ring in descriptors. -/
def ringSize (s : State) (r : Nat) : Nat := 2 ^ getF F.netRingCfg_size_log2 r s
/-- Descriptors of a ring that the part owns. -/
def ringUsed (s : State) (r : Nat) : Nat := (getF F.netRingTail_tail r s + 2 ^ 17 - getF F.netRingHead_head r s) % 2 ^ 17

/-- RING_FILL_SAMPLE (R351). A full ring counts in bin 15 (DEDUCED, log 22). -/
def execRingFillSample (s : State) : Host.Outcome State Fault Refusal :=
  if !samplerEn s || !domOn s 18 then done s s
  else
    done s (((List.range 32).filter (fun r => getB F.netRingCfg_enable r s)).foldl
      (fun t r => sample 2 r (min 15 (16 * ringUsed s r / ringSize s r)) t) s)

/-! Flow cores (R352 to R355). -/

/-- steer_ring. -/
def steerRing (s : State) : Nat := paramF s 0x0147 0 1 3 0
/-- A flow core is in service: neither retired nor tested, nor waiting for its test. -/
def coreOk (s : State) (i : Nat) : Bool :=
  i < 8 && !bitOf (getF F.netCoreStatus_retired_mask 0 s) i && !(testQueue (testBlock 6 i) s).any (fun t => t.kind == 6 && t.index == i)
    && !domDead s 20
/-- Some flow core is. -/
def coresServe (s : State) : Bool := (List.range 8).any (coreOk s)
/-- Give an item to the flow cores: its pages come from group CORES; false where they are refused, and with no core in
service it completes as failed (R353, R355). -/
def coreItem (it : CoreItem) (s : State) : State × Bool :=
  if !coresServe s then (count F.netCoreCntFail_core_failed 0 s, true)
  else if !canGrant s 7 it.pages then (quotaRefused 7 it.pages s, false)
  else
    let s := if domOn s 20 then s else wake 0x05 20 s
    let n := s.trf.nextItem
    (grantPages 7 it.pages { s with trf := { s.trf with items := s.trf.items ++ [{ it with id := n }], nextItem := n + 1 } }, true)

/-- An item is runnable (R354). -/
def itemRunnable (x : CoreItem) : Bool := Nat.land x.flags x.mask != 0
/-- An item is ready: no earlier item of its dispatch flow is left, it is not in service, and its condition holds (R353). -/
def itemReady (items : List CoreItem) (x : CoreItem) : Bool :=
  x.core.isNone && itemRunnable x && !items.any (fun y => y.dflow == x.dflow && decide (y.id < x.id))
/-- The item served next: class 0 first, and first come first served within a class (R352). -/
def nextReady (s : State) : Option CoreItem :=
  bestOf (fun x y => decide (x.cls < y.cls)) (s.trf.items.filter (itemReady s.trf.items))
/-- Change an item. -/
def modItem (id : Nat) (f : CoreItem → CoreItem) (s : State) : State :=
  { s with trf := { s.trf with items := s.trf.items.map (fun x => if x.id = id then f x else x) } }
/-- An item leaves the dispatcher. -/
def dropItem (id : Nat) (s : State) : State :=
  { s with trf := { s.trf with items := s.trf.items.filter (fun x => x.id != id) } }
/-- A delivery to a host ring joins those that wait (R462). -/
def deliver (d : Delivery) (s : State) : State := { s with fwd := { s.fwd with deliver := s.fwd.deliver ++ [d] } }
/-- An item ends on a core: it is steered to the host with its pages (R238, R353). -/
def itemEnds (x : CoreItem) (core : Nat) (s : State) : State :=
  s |> dropItem x.id |> count F.netCoreCnt_items core |> count F.netCoreCntHost_steered 0
    |> deliver { ring := steerRing s, kind := x.ingress, len := x.len, handle := x.handle, cls := x.cls, pages := x.pages, group := 7,
                 ts := x.ts, reason := x.what, air := x.air }

/-- The pause of an activation runs: the dispatcher takes no new item (R534). -/
def activationPauses (s : State) : Bool := match s.upd.act with
  | some a => a.began.isSome
  | none => false

/-- DISPATCH_ITEM_START (R352 to R354): a ready item starts on a core. Its task runs to its end, or faults and waits on the flag
that it names. -/
def execDispatchItemStart (core : Fin 8) (wait : Option (Fin 16)) (s : State) : Host.Outcome State Fault Refusal :=
  if !coreOk s core || !domOn s 20 || activationPauses s || s.trf.items.any (fun x => x.core == some core.val && itemRunnable x) then done s s
  else match nextReady s with
    | none => done s s
    | some x =>
      match wait with
      | none => done s (itemEnds x core s)
      | some f => done s (modItem x.id (fun x => { x with core := some core.val, flags := setBit x.flags f false, mask := 2 ^ f.val }) s)

/-- TASK_EVENT_FLAG (R354): a fill or fetch sets the flag of a task; where it is runnable it runs to its end. -/
def execTaskEventFlag (item : Nat) (flag : Fin 16) (s : State) : Host.Outcome State Fault Refusal :=
  match s.trf.items.find? (fun x => x.id == item) with
  | none => done s s
  | some x =>
    let y := { x with flags := setBit x.flags flag true }
    match x.core with
    | some c => if itemRunnable y then done s (itemEnds y c s) else done s (modItem item (fun _ => y) s)
    | none => done s (modItem item (fun _ => y) s)

/-- FLOW_CORE_FAULT (R355): the core raises an error event; an item in service on it restarts on another core if it had delivered
no output, and otherwise completes as failed. -/
def execFlowCoreFault (core : Fin 8) (delivered : Bool) (s : State) : Host.Outcome State Fault Refusal :=
  if !coreOk s core then done s s
  else
    let s1 := errorEvent 6 2 core false s
    done s ((s1.trf.items.filter (fun x => x.core == some core.val)).foldl (fun s x =>
      if delivered then s |> dropItem x.id |> freeGroup 7 x.pages |> count F.netCoreCntFail_core_failed 0
      else modItem x.id (fun x => { x with core := none, flags := 1, mask := 1 }) s) s1)

/-- A flow core is retired (R10, R355): every item that is left completes as failed where it was the last. -/
def retireCore (i : Nat) (s : State) : State :=
  let m := setBit (getF F.netCoreStatus_retired_mask 0 s) i true
  let s := retireNote 6 i s |> setF F.netCoreStatus_retired_mask 0 m
    |> raise Ev.netCoreRetired [(i, 32), (8 - (bitsSet m 8).length, 32)]
  if coresServe s then s
  else s.trf.items.foldl (fun s x => s |> dropItem x.id |> freeGroup 7 x.pages |> count F.netCoreCntFail_core_failed 0) s

/-! Registers (R356). -/

/-- Active flows. -/
def activeFlows (s : State) : Nat := ((allFlows s).filter (fun x => !(flow s x.1 x.2).frames.isEmpty)).length
/-- Flows in the urgent tier. -/
def urgentFlows (s : State) : Nat := ((allFlows s).filter (fun x => (flow s x.1 x.2).urgent)).length
/-- NET_SCHED_STATUS. -/
def schedStatusW (s : State) : Word := wordOf [(activeFlows s, 0), (min 4095 (urgentFlows s), 20)]
/-- NET_PBUF_USED of a group. -/
def pbufUsedW (s : State) (g : Nat) : Word := wordOf [(quotaUsed s g, 0), (getF F.netPbufUsed_peak g s, 16)]

/-- A flow entry's words (R311). The page that holds the head is not stated: a free value (DESIGN CHOICE, log 23). -/
def flowWords (s : State) (f : Flow) : List Word :=
  let sp := match f.frames with
    | x :: _ => x.spilled != 0
    | [] => false
  [wordOf [(freeNow (if sp then 18 else 15) s, 0), (b2n sp, 18), (f.frames.length, 20)],
    wordAt f.vft 0,
    wordOf [(f.vft / 2 ^ 32 % 2 ^ 16, 0), (f.weight, 16), (b2n (!f.frames.isEmpty), 24), (b2n f.urgent, 25), (b2n f.parked, 26),
      (b2n f.skipped, 27), (f.profile, 28)],
    i32 f.credit]

/-! Commands (R358 to R360). -/

/-- The check of TRF_CLASS_CONFIG's word. -/
def infoTrfClass (ws : List Word) : RecInfo :=
  let u := fieldOf (wAt ws 0) 17 2
  { ok := ws.length == 1 && onlyFields ws [[(29, 0)]] && 1 ≤ u && u ≤ 60000, res := fieldOf (wAt ws 0) 1 0 }
/-- The check of TRF_PROFILE_SET's words. -/
def infoTrfProfile (ws : List Word) : RecInfo :=
  { ok := ws.length == 2 && onlyFields ws [[(3, 0), (27, 8)], [(30, 0)]] && fieldOf (wAt ws 0) 27 8 ≤ 1000000 && wAt ws 1 != 0
    res := fieldOf (wAt ws 0) 3 0 }
/-- The check of TRF_QUOTA_SET's word. -/
def infoTrfQuota (ws : List Word) : RecInfo :=
  let l := fieldOf (wAt ws 0) 31 19
  { ok := ws.length == 1 && l ≤ 4096 && fieldOf (wAt ws 0) 18 3 ≤ 8 * l, res := fieldOf (wAt ws 0) 2 0 }
/-- The check of TRF_POLICE_SET's word. -/
def infoTrfPolice (ws : List Word) : RecInfo :=
  { ok := ws.length == 1 && onlyFields ws [[(5, 0), (11, 8), (31, 16)]] && fieldOf (wAt ws 0) 5 0 != 0, res := fieldOf (wAt ws 0) 5 0 }
/-- The check of TRF_SCHED_CONFIG's word. -/
def infoTrfSched (ws : List Word) : RecInfo :=
  { ok := ws.length == 1 && onlyFields ws [[(6, 0), (8, 8)]] && fieldOf (wAt ws 0) 6 0 ≤ 100 }

/-- TRF_CLASS_CONFIG. -/
def bodyTrfClassConfig (g : Goruz) (s : State) : Res := stageBody 0x0C01 (infoTrfClass g.words) g s
/-- TRF_PROFILE_SET. -/
def bodyTrfProfileSet (g : Goruz) (s : State) : Res := stageBody 0x0C02 (infoTrfProfile g.words) g s
/-- TRF_QUOTA_SET. -/
def bodyTrfQuotaSet (g : Goruz) (s : State) : Res := stageBody 0x0C03 (infoTrfQuota g.words) g s
/-- TRF_POLICE_SET. -/
def bodyTrfPoliceSet (g : Goruz) (s : State) : Res := stageBody 0x0C04 (infoTrfPolice g.words) g s
/-- TRF_SCHED_CONFIG. -/
def bodyTrfSchedConfig (g : Goruz) (s : State) : Res := stageBody 0x0C05 (infoTrfSched g.words) g s

/-- TRF_FLOW_SET (R350, R360). -/
def bodyTrfFlowSet (g : Goruz) (s : State) : Res :=
  let h := gf g 1 16 0
  let c := gf g 1 18 17
  let sw := gf g 1 19 19 = 1
  let sp := gf g 1 20 20 = 1
  match handleRefused g s h [[(20, 0), (31, 24)]] with
  | some st => fails st s
  | none =>
    if !sw && !sp then fails .badParam s
    else if !resident s h then waitBerth g h s
    else
      let f := flow s h c
      let w := if gf g 1 31 28 = 15 then 255 else 16 * gf g 1 31 28
      let p := gf g 1 27 24
      if (!sw || f.weight == w) && (!sp || f.profile == p) then fails .okAlready s
      else
        .now .ok [] (modFlow h c (fun f => { f with
          weight := if sw then w else f.weight
          profile := if sp then p else f.profile
          credit := if sp then min f.credit (profCeil s p) else f.credit }) s)

/-- TRF_FLOW_GET. -/
def bodyTrfFlowGet (g : Goruz) (s : State) : Res :=
  let h := gf g 1 16 0
  match handleRefused g s h [[(18, 0)]] with
  | some st => fails st s
  | none => if !resident s h then waitBerth g h s else .now .ok (flowWords s (flow s h (gf g 1 18 17))) (freeNext s)

/-- TRF_HIST_GET. (DEDUCED, log 100.) -/
def bodyTrfHistGet (g : Goruz) (s : State) : Res :=
  let k := gf g 1 1 0
  let i := gf g 1 6 2
  if !onlyFields g.words [[(6, 0), (8, 8)]] || 2 < k || (k < 2 && 3 < i) then fails .badParam s
  else
    let b := 512 * k + 16 * i
    let ws := (List.range 16).map (fun j => w32 (tabGet s.trf.hist (b + j) 0))
    let s := if gf g 1 8 8 = 1 then { s with trf := { s.trf with hist := s.trf.hist.filter (fun e => e.1 < b || b + 16 ≤ e.1) } } else s
    .now .ok ws s

/-- TRF_STATUS. -/
def bodyTrfStatus (_ : Goruz) (s : State) : Res :=
  .now .ok ([paramW s 0x0C05 0 1, wordAt s.trf.v 0, wordOf [(s.trf.v / 2 ^ 32 % 2 ^ 16, 0)], schedStatusW s,
    w32 (getF F.netSchedCntOffer_offers_taken 0 s),
    wordOf [(getF F.netSchedCntUrgent_urgent_entries 0 s, 0), (getF F.netSchedCntUrgent_urgent_capped 0 s, 16)],
    wordOf [(getF F.netSchedCntRefuse_refused_quota 0 s, 0), (getF F.netSchedCntRefuse_refused_depth 0 s, 16)],
    w32 (getF F.netSchedCntPoliced_policed 0 s),
    wordOf [(getF F.netSchedCntSample_passes 0 s, 0), (getF F.netSchedCntSample_sample_skipped 0 s, 16)]]
    ++ (List.range 4).map (fun i => pbufUsedW s (i + 1))) s

end Sys2Proof.Machine
end

