-- ==== Sys2Proof/Machine/Fwd.lean ====
section
/-! DEFINITION. Forwarding: route records and prefixes, learning and aging, the decision of packets, 6LoWPAN compression,
fragmentation and reassembly, and the forwarding commands (R361 to R384). -/

namespace Sys2Proof.Machine
open Sys2Proof

/-! Configuration (R380, R382). -/

/-- A field of FWD_CFG. -/
def fwdF (s : State) (w hi lo : Nat) : Nat := paramF s 0x0801 0 w hi lo
/-- Class of a DSCP. -/
def dscpClass (s : State) (d : Nat) : Nat := paramF s 0x0802 0 (d / 16 + 1) (2 * (d % 16) + 1) (2 * (d % 16))
/-- reasm_timeout in ns. -/
def reasmTimeout (s : State) : Nat := 1000000000 * fwdF s 2 21 16

/-! Addresses (R383). An address is the number of its four words; octet 0 is lowest. -/

/-- Octet i of an address. -/
def addrOctet (a i : Nat) : Nat := bitsOf a (8 * i) 8
/-- Multicast. -/
def isMulticast (a : Nat) : Bool := addrOctet a 0 == 0xFF
/-- Link-local: fe80::/10. -/
def isLinkLocal (a : Nat) : Bool := addrOctet a 0 == 0xFE && addrOctet a 1 / 64 == 2
/-- A source that is never learned (R369). -/
def notLearned (a : Nat) : Bool := a == 0 || isMulticast a || isLinkLocal a
/-- The first `n` bits of an address in network order, the rest 0. -/
def prefixOf (a n : Nat) : Nat := beAddr a / 2 ^ (128 - n) * 2 ^ (128 - n)

/-! Entry words (R361). -/

/-- Target of an entry word. -/
def ewTarget (w : Nat) : Nat := bitsOf w 0 17
/-- Kind: 0 neighbour, 1 ETH0, 2 ETH1, 3 host ring. -/
def ewKind (w : Nat) : Nat := bitsOf w 17 2
/-- Class of a packet under an entry (R367). -/
def ewClass (s : State) (w : Nat) (p : Pkt) : Nat := if bitOf w 21 then dscpClass s p.dscp else bitsOf w 19 2
/-- Police bucket. -/
def ewBucket (w : Nat) : Nat := bitsOf w 22 6
/-- An entry word of a request is in range (R361, R384). -/
def ewOk (w : Nat) : Bool :=
  bitsOf w 28 4 == 0 && (match ewKind w with
    | 0 => true
    | 3 => ewTarget w ≤ 14
    | _ => ewTarget w == 0)
/-- It names what an L variant does not have (R384). -/
def ewAbsent (s : State) (w : Nat) : Bool := !isF s && (ewKind w == 2 || (ewKind w == 0 && 32767 < ewTarget w))
/-- An entry word as it reads: bit 28 tells a static entry. -/
def ewShown (r : Route) : Nat := setBit r.entry 28 r.static

/-! Lookups (R361, R364, R366). -/

/-- Prefixes in use by length: the filter of mode H (R364). -/
def prefixLengths (s : State) : List Nat := (List.range 129).filter (fun n => s.fwd.prefixes.any (fun e => e.1 / 2 ^ 128 == n))
/-- The entry of the longest prefix that matches, with its length. -/
def lookupPrefix (s : State) (a : Nat) : Option (Nat × Nat) :=
  ((prefixLengths s).reverse.filterMap (fun n => (tabFind s.fwd.prefixes (n * 2 ^ 128 + prefixOf a n)).map (fun w => (n, w)))).head?
/-- The route record of an address. -/
def lookupRoute (s : State) (a : Nat) : Option Route := tabFind s.fwd.routes a
/-- Change the routes. -/
def setRoutes (t : Tab Route) (s : State) : State := { s with fwd := { s.fwd with routes := t } }
/-- A lookup hit sets the entry's age to 0 (R370). -/
def refresh (a : Nat) (s : State) : State := match lookupRoute s a with
  | some r => if r.static then s else setRoutes (tabPut s.fwd.routes a { r with age := 0 }) s
  | none => s

/-! Learning (R369). -/

/-- Learn a source address with the next hop of its arrival. `noPath`: the hash finds no path for an insertion (R362). -/
def learn (a kind target : Nat) (noPath : Bool) (s : State) : State :=
  if notLearned a then s
  else match lookupRoute s a with
    | none =>
      if noPath || 131072 ≤ s.fwd.routes.length then
        s |> count F.netFwdCntLearnErr_learn_full 0
          |> raiseOnce Ev.netRouteFull 0 (fun n => [(s.fwd.routes.length, 32), (min n 65535, 16)])
      else
        let w := target + kind * 2 ^ 17 + 2 ^ 21 + fwdF s 3 21 16 * 2 ^ 22
        count F.netFwdCntLearn_learned 0 (setRoutes (tabPut s.fwd.routes a ⟨w, 0, false⟩) s)
    | some r =>
      let same := ewKind r.entry == kind && ewTarget r.entry == target
      if r.static then (if same then s else count F.netFwdCntLearnErr_static_conflict 0 s)
      else if same then setRoutes (tabPut s.fwd.routes a { r with age := 0 }) s
      else
        let w := r.entry / 2 ^ 19 * 2 ^ 19 + kind * 2 ^ 17 + target
        s |> setRoutes (tabPut s.fwd.routes a { r with entry := w, age := 0 }) |> count F.netFwdCntLearn_moves 0
          |> raiseOnce Ev.netRouteMoved 0 (fun n => [(a % 2 ^ 64, 64), (w % 2 ^ 19, 19), (ewKind r.entry, 2), (min n 2047, 11)])

/-- AGER_VISIT (R370, R371): a learned entry ages; a lookup hit that meets the visit wins. -/
def execAgerVisit (addr : Nat) (hit : Bool) (s : State) : Host.Outcome State Fault Refusal :=
  match lookupRoute s addr with
  | none => done s s
  | some r =>
    if r.static || !domOn s 19 then done s s
    else if hit then done s (count F.netFwdCntAge_hit_at_age 0 (refresh addr s))
    else if fwdF s 1 19 12 ≤ r.age + 1 then done s (count F.netFwdCntAge_aged 0 (setRoutes (tabDel s.fwd.routes addr) s))
    else done s (setRoutes (tabPut s.fwd.routes addr { r with age := r.age + 1 }) s)

/-! 6LoWPAN compression (R375; RFC 6282). -/

/-- Octets of the traffic class and flow label inline. -/
def tfOctets (p : Pkt) : Nat :=
  if p.flow = 0 then (if p.dscp = 0 && p.ecn = 0 then 0 else 1) else if p.dscp = 0 then 3 else 4
/-- The interface identifier that an 802.15.4 address gives. -/
def iidOf (ext short : Nat) (useShort : Bool) : Nat :=
  if useShort then 0xFFFE000000 + short else Nat.xor (ext % 2 ^ 64) 0x0200000000000000
/-- Ways to carry an address, as octets inline and context: `iid` is the identifier that the MHR address gives; contexts as
identifier, length and prefix in network order. -/
def addrWays (a iid : Nat) (ctxs : List (Nat × Nat × Nat)) : List (Nat × Nat) :=
  let b := beAddr a
  let low := b % 2 ^ 64
  let tail (cover : Nat → Nat) : List Nat :=
    [16] ++ (if cover low = b then [8] else [])
      ++ (if low / 2 ^ 16 % 2 ^ 48 = 0xFFFE00 && cover (0xFFFE000000 + b % 2 ^ 16) = b then [2] else [])
      ++ (if cover iid = b then [0] else [])
  let stateless := (tail (fun i => 0xFE80 * 2 ^ 112 + i)).map (fun n => (n, 0))
  let one (c : Nat × Nat × Nat) : List (Nat × Nat) :=
    let l := c.2.1
    (tail (fun i => c.2.2 / 2 ^ (128 - l) * 2 ^ (128 - l) + i % 2 ^ (128 - l))).map (fun n => (n, c.1))
  (if a = 0 then [(0, 0)] else []) ++ stateless ++ ctxs.flatMap one
/-- Octets of the two addresses and the context octet, in the shortest encoding. -/
def addrsOctets (src dst : List (Nat × Nat)) : Nat :=
  (src.flatMap (fun x => dst.map (fun y => x.1 + y.1 + (if x.2 = 0 && y.2 = 0 then 0 else 1)))).foldl min 33
/-- Octets of the UDP ports. -/
def portOctets (sp dp : Nat) : Nat :=
  if sp / 16 = 0xF0B && dp / 16 = 0xF0B then 1 else if sp / 256 = 0xF0 || dp / 256 = 0xF0 then 3 else 4

/-- The contexts in use for compression (R375). -/
def compressCtxs (s : State) : List (Nat × Nat × Nat) :=
  (List.range 16).filterMap (fun c =>
    if paramF s 0x0803 c 1 13 12 = 3 then some (c, paramF s 0x0803 c 1 11 4, beAddr (ofWords ((param s 0x0803 c).drop 1))) else none)

/-- The part's short address is used as a source. -/
def ownShort (s : State) : Nat := paramF s 0x06C0 0 1 31 16
/-- The part's extended address. -/
def ownExt (s : State) : Nat := ofWords [paramW s 0x06C0 0 2, paramW s 0x06C0 0 3]

/-- Octets of the compressed header, and of the header that it replaces, of a packet to a neighbour (R376). -/
def headerOctets (s : State) (b : Berth) (p : Pkt) : Nat × Nat :=
  let src := addrWays p.src (iidOf (ownExt s) (ownShort s) b.shortSrc) (compressCtxs s)
  let dst := (addrWays p.dst (iidOf b.ext b.short (b.short != 0xFFFE)) (compressCtxs s))
  let base := 2 + tfOctets p + (if p.hop = 1 || p.hop = 64 || p.hop = 255 then 0 else 1) + addrsOctets src dst
  match p.udp with
  | some (sp, dp) => (base + 3 + portOctets sp dp, 48)
  | none => (base + 1, 40)

/-- Payload octets of the frames that carry a packet to a neighbour (R376). -/
def fragmentLens (s : State) (b : Berth) (p : Pkt) : List Nat :=
  let ohead := mhrOctets b + secOctets s b + fcsOctets b.txMode + (if b.gtAllowed then 48 else 0)
  let cap := min (fwdF s 2 10 0) (maxPsdu b.txMode) - ohead
  let (hc, hu) := headerOctets s b p
  let pay := p.len - hu
  if hc + pay ≤ cap then [hc + pay]
  else
    let first := min pay ((cap + hu - 4 - hc) / 8 * 8 - hu)
    let next := (cap - 5) / 8 * 8
    let rest := pay - first
    let n := if next = 0 then 1 else (rest + next - 1) / next
    (4 + hc + first) :: (List.range n).map (fun i => 5 + (if next = 0 then rest else min next (rest - i * next)))

/-! The decision of a packet (R366). -/

/-- MTU of an Ethernet port. -/
def ethMtu (s : State) (e : Nat) : Nat := paramF s 0x0140 e 1 29 16
/-- Gateway MAC of a port. -/
def ethGateway (s : State) (e : Nat) : Nat := ofWords ((param s 0x0141 e).drop 1)
/-- Redundancy mode: 0 none, 1 PRP, 2 HSR; F variants alone. -/
def redundMode (s : State) : Nat := if isF s then paramF s 0x0144 0 1 1 0 else 0
/-- Send a packet on one port (R468, R474). -/
def ethSendOne (e len : Nat) (s : State) : State :=
  if !getB F.netEthStatus_link e s then count F.netEthCntDrop_link_drop e s
  else if ethGateway s e = 0 then count F.netEthCntDrop_no_gw e s
  else s |> count F.netEthCntTx_tx_frames e |> put (.eth e 0x86DD len)
/-- MAC address of a port. -/
def ethMac (s : State) (e : Nat) : Nat := ofWords ((param s 0x0140 e).drop 2) % 2 ^ 48
/-- Uplink is tagged for the cluster (R489). (DESIGN CHOICE, log 24.) -/
def dupTags (s : State) : Bool := paramF s 0x0B01 0 1 0 0 == 1 && paramF s 0x0B01 0 1 20 20 == 1
/-- The cluster MAC. -/
def clusterMac (s : State) : Nat := ofWords ((param s 0x0B01 0).drop 5) % 2 ^ 48
/-- The redundancy tag or trailer of a packet on the ports that send it (R470, R489): an uplink packet of a member that tags takes
the cluster MAC and a number computed over its PSDU, whose octets the model does not hold: a free value (DESIGN CHOICE, log 24). -/
def redTags (es : List Nat) (mesh : Bool) (s : State) : State :=
  if mesh && dupTags s then
    freeNext (es.foldl (fun s e => put (.redTag e (clusterMac s) (freeNow 16 s)) s) (count F.netYowCntTag_dup_tagged 0 s))
  else if redundMode s = 0 then s
  else
    let n := (s.net.redSeq + 1) % 65536
    es.foldl (fun s e => put (.redTag e (ethMac s e) n) s) { s with net := { s.net with redSeq := n } }
/-- Send a packet on a port; under PRP or HSR on both (R470). -/
def ethSend (e len : Nat) (mesh : Bool) (s : State) : State :=
  let es := if redundMode s = 0 then [e] else [0, 1]
  let up := es.filter (fun e => getB F.netEthStatus_link e s && ethGateway s e != 0)
  es.foldl (fun s e => ethSendOne e len s) (if up.isEmpty then s else redTags up mesh s)

/-- What the decision comes to for a host ring's descriptor (R459): the code of the table "Descriptor statuses". (DEDUCED, log 45.) -/
abbrev Verdict := Nat

/-- The pages of a packet are freed. (DEDUCED, log 45.) -/
def freeUp (u : UpPkt) (s : State) : State := freeGroup u.group (u.pages - u.spilled) s
/-- A packet goes to the flow cores, which steer it to the host with a reason (R366, R368). (DEDUCED, log 45.) -/
def toCores (u : UpPkt) (cls reason : Nat) (s : State) : State × Verdict :=
  let d := if u.origin = 0 then 4 * u.handle + cls else 2 ^ 21 + s.trf.nextItem
  let r := coreItem { id := 0, dflow := d, cls := cls, what := reason, len := u.pkt.len, pages := pagesOf u.pkt.len,
                      ingress := u.origin, handle := (if u.origin = 0 then u.handle else 2 ^ 17), ts := u.ts, air := u.air } s
  (freeUp u r.1, if r.2 then 0 else 0x81)
/-- A packet goes to a host ring with its pages. -/
def toRing (u : UpPkt) (ring cls reason : Nat) (s : State) : State :=
  deliver { ring := ring, kind := u.origin, len := u.pkt.len, handle := (if u.origin = 0 then u.handle else 2 ^ 17), cls := cls,
            pages := u.pages, group := u.group, ts := u.ts, reason := reason, air := u.air, spilled := u.spilled } s
/-- The packet came from a backhaul port. (DEDUCED, log 45.) -/
def fromEth (u : UpPkt) : Bool := u.origin == 1 || u.origin == 2
/-- The packet came from a neighbour. -/
def fromMesh (u : UpPkt) : Bool := u.origin == 0
/-- Dropped: its pages are freed. -/
def dropUp (f : Field) (u : UpPkt) (s : State) : State × Verdict := (freeUp u (count f 0 s), 0x84)

/-- Step 11 of R366: into the flow of the neighbour. (DEDUCED, log 45.) -/
def forwardDown (u : UpPkt) (w : Nat) (s : State) : State × Verdict :=
  if isStandby s && u.origin == 3 then (freeUp u s, 0x84)
  else match nbr s (ewTarget w) with
  | none => dropUp F.netFwdCntMiss_no_nbr u s
  | some n =>
    let p := { u.pkt with hop := u.pkt.hop - 1 }
    let c := ewClass s w p
    let lens := fragmentLens s n.b p
    let pol := if fromEth u then police (ewBucket w) (u.origin - 1) (lens.sum) s else (s, true)
    if !pol.2 then (freeUp u pol.1, 0x84)
    else
      let many := 1 < lens.length
      let s := pol.1
      let tag := s.fwd.dtag
      let s := if many then { s with fwd := { s.fwd with dtag := (tag + 1) % 65536 } } else s
      let r := enqueue (ewTarget w) c lens (if many then some tag else none) s
      if !r.2 then (freeUp u r.1, 0x81)
      else
        let s := count F.netFwdCntDown_fwd_down 0 (freeUp u r.1)
        (if many then countBy F.netFwdCntFrags_frags_sent 0 lens.length s else s, 0)

/-- Steps 6 to 12 of R366, under an entry. -/
def underEntry (u : UpPkt) (w : Nat) (s : State) : State × Verdict :=
  let k := ewKind w
  let port := k - 1
  if k = 0 && !nbrLive s (ewTarget w) then dropUp F.netFwdCntMiss_no_nbr u s
  else if fromEth u && (k = 1 || k = 2) then dropUp F.netFwdCntDrop_hairpin u s
  else if (k = 1 || k = 2) && !fwdOpen s then dropUp F.netFwdCntDrop_gate_drop u s
  else if k != 3 && u.pkt.hop ≤ 1 then toCores u (ewClass s w u.pkt) 0x10 (count F.netFwdCntExc_hop_limit 0 s)
  else if (k = 0 && 2047 < u.pkt.len) || ((k = 1 || k = 2) && ethMtu s port < u.pkt.len) then
    toCores u (ewClass s w u.pkt) 0x11 (count F.netFwdCntExc_too_big 0 s)
  else if k = 0 then forwardDown u w s
  else if k = 3 then (toRing u (ewTarget w) (ewClass s w u.pkt) 0x01 (count F.netFwdCntUp_fwd_up 0 s), 0)
  else (freeUp u (ethSend port u.pkt.len (fromMesh u) (count F.netFwdCntUp_fwd_up 0 s)), 0)

/-- The forwarding decision of a packet (R366, R498). `noPath` as for `learn`; `retry`: a lookup met a write to its bucket (R363).
(DEDUCED, log 45.) -/
def decidePkt (u : UpPkt) (noPath retry : Bool) (s : State) : State × Verdict :=
  if isStandby s && fromEth u then dropUp F.netYowCntDrop_standby_drop u s else
  let s := if fromMesh u && fwdF s 1 1 1 = 1 then learn u.pkt.src 0 u.handle noPath s
    else if fromEth u && fwdF s 1 2 2 = 1 then learn u.pkt.src u.origin 0 noPath s
    else s
  if isMulticast u.pkt.dst || isLinkLocal u.pkt.dst then
    if fromMesh u then (toRing u (fwdF s 1 11 8) 0 0x02 s, 0)
    else toCores u 0 0x12 (count F.netFwdCntIphc_to_cores 0 s)
  else
    let s := if retry then count F.netFwdCntRetry_lookup_retry 0 s else s
    match lookupRoute s u.pkt.dst, lookupPrefix s u.pkt.dst with
    | some r, _ => underEntry u r.entry (refresh u.pkt.dst s)
    | none, some (_, w) => underEntry u w s
    | none, none =>
      let s := count F.netFwdCntMiss_no_route 0 s
      if fwdF s 1 3 3 = 1 then (freeUp u s, 0x84) else (toRing u (fwdF s 1 7 4) 0 0x03 s, 0)

/-- The decision of an uplink packet is a host ring: DMA fills its pages as it delivers them (R366, R378). -/
def ringBound (s : State) (p : Pkt) : Bool :=
  if isMulticast p.dst || isLinkLocal p.dst then true
  else match lookupRoute s p.dst, lookupPrefix s p.dst with
    | some r, _ => ewKind r.entry == 3
    | none, some (_, w) => ewKind w == 3
    | none, none => fwdF s 1 3 3 != 1
/-- A complete reassembly proceeds: what it needs of its pages is on die (R378). -/
def reasmReady (s : State) (r : Reasm) : Bool := r.complete && (r.spilled == 0 || (r.headDie && ringBound s r.pkt))
/-- Reassemblies that are complete, and on die as far as they must be, proceed (R368, R378). (DEDUCED, log 97.) -/
def reasmProceed (s : State) : State :=
  let ready := s.fwd.reasm.filter (reasmReady s)
  { s with fwd := { s.fwd with
      reasm := s.fwd.reasm.filter (fun r => !reasmReady s r)
      up := s.fwd.up ++ ready.map (fun r =>
        { pkt := r.pkt, origin := 0, handle := r.handle, pages := r.pages, group := 5, ts := r.ts, spilled := r.spilled }) } }

/-- PACKET_DECISION (R366): the packet that has waited longest is decided. A domain that is not on is woken for it; with NET_FWD
FAILED the packet is dropped (R24). -/
def execPacketDecision (noPath retry : Bool) (s : State) : Host.Outcome State Fault Refusal :=
  let s1 := reasmProceed s
  match s1.fwd.up with
  | [] => done s s1
  | u :: rest =>
    let s1 := { s1 with fwd := { s1.fwd with up := rest } }
    if domDead s 19 then done s (freeUp u s1)
    else done s (decidePkt u noPath retry (if domOn s1 19 then s1 else wake 0x05 19 s1)).1

/-! Reassembly (R377 to R379). -/

/-- Two fragments share octets. -/
def fragOverlap (a b : Nat × Nat) : Bool := decide (a.1 < b.1 + b.2) && decide (b.1 < a.1 + a.2)
/-- A reassembly is the fragment's. -/
def isReasm (f : FragIn) (r : Reasm) : Bool := r.handle == f.handle && r.tag == f.tag && r.size == f.size && !r.complete
/-- Place a fragment in its reassembly (R377). -/
def placeFragment (f : FragIn) (s : State) : State :=
  let start (s : State) : State :=
    if 4096 ≤ s.fwd.reasm.length then freeGroup 5 f.pages (count F.netFwdCntFrag_reasm_full 0 s)
    else
      let r : Reasm := { handle := f.handle, tag := f.tag, size := f.size, first := s.now, latest := s.now, parts := [(f.offset, f.len)],
                         pages := f.pages, pkt := f.pkt, ts := f.ts, complete := f.size ≤ f.len, headDie := f.offset == 0 }
      let s := { s with fwd := { s.fwd with reasm := s.fwd.reasm ++ [r] } }
      if r.complete then reasmProceed (count F.netFwdCntReasm_reasm_done 0 s) else s
  if f.size < f.offset + f.len then freeGroup 5 f.pages (count F.netFwdCntIphc_iphc_bad 0 s) else
  match s.fwd.reasm.find? (isReasm f) with
  | none => start s
  | some r =>
    if r.parts.contains (f.offset, f.len) then freeGroup 5 f.pages (count F.netFwdCntFrag2_frag_dup 0 s)
    else if r.parts.any (fragOverlap (f.offset, f.len)) then
      let s := freeGroup 5 (r.pages - r.spilled) { s with fwd := { s.fwd with reasm := s.fwd.reasm.filter (fun q => !isReasm f q) } }
      start (count F.netFwdCntFrag_frag_overlap 0 s)
    else
      let full := f.size ≤ (r.parts.map (·.2)).sum + f.len
      let g (q : Reasm) : Reasm := if isReasm f q then
        { q with parts := q.parts ++ [(f.offset, f.len)], pages := q.pages + f.pages, latest := s.now, complete := full
                 pkt := (if full then f.pkt else q.pkt), ts := f.ts, headDie := q.headDie || f.offset == 0 } else q
      let s := { s with fwd := { s.fwd with reasm := s.fwd.reasm.map g } }
      if !full then s
      else
        let s := reasmProceed (count F.netFwdCntReasm_reasm_done 0 s)
        -- what a complete datagram still lacks is asked for at class C (R378)
        if s.fwd.reasm.any (fun q => q.complete && isReasm f { q with complete := false }) then
          countMiss 2 (if domOn s 25 then s else wake 0x05 25 s)
        else s

/-- FRAGMENT_RECEIVED (R377): the fragment that has waited longest is placed. -/
def execFragmentReceived (s : State) : Host.Outcome State Fault Refusal :=
  match s.fwd.frags with
  | [] => done s s
  | f :: rest =>
    let s1 := { s with fwd := { s.fwd with frags := rest } }
    if nbrLive s f.handle then done s (placeFragment f (if domOn s1 19 then s1 else wake 0x05 19 s1))
    else done s (freeGroup 5 f.pages s1)

/-- REASSEMBLY_TIMEOUT (R377). -/
def execReassemblyTimeout (handle tag size : Nat) (s : State) : Host.Outcome State Fault Refusal :=
  match s.fwd.reasm.find? (fun r => r.handle == handle && r.tag == tag && r.size == size && !r.complete) with
  | none => done s s
  | some r =>
    let s1 := waitTill (r.first + reasmTimeout s) s
    done s (s1 |> count F.netFwdCntReasm_reasm_timeout 0 |> freeGroup 5 (r.pages - r.spilled)
      |> (fun s => { s with fwd := { s.fwd with
            reasm := s.fwd.reasm.filter (fun q => !(q.handle == handle && q.tag == tag && q.size == size && !q.complete)) } }))

/-- REASSEMBLY_SPILL (R378): while pages are scarce, the reassemblies without a fragment for reasm_spill_ms, oldest first; of each the
page with its first octets last. -/
def execReassemblySpill (s : State) : Host.Outcome State Fault Refusal :=
  if !isF s || !ddrUp s then done s s
  else
    let idle := (s.fwd.reasm.filter (fun r => !r.complete && decide (r.spilled < r.pages) && decide (r.latest + 1000000 * fwdF s 3 15 0 ≤ s.now))).mergeSort
      (fun a b => decide (a.first ≤ b.first))
    done s (idle.foldl (fun s r =>
      let k := min (r.pages - r.spilled) (min (spillLow s - freePages s) (262144 - spilledPages s))
      if k = 0 then s
      else
        let g (q : Reasm) : Reasm := if q.handle = r.handle ∧ q.tag = r.tag ∧ q.size = r.size then
          { q with spilled := q.spilled + k, headDie := q.headDie && decide (q.spilled + k < q.pages) } else q
        { s with fwd := { s.fwd with reasm := s.fwd.reasm.map g } }
          |> freeGroup 5 k |> countBy F.linkStoreCntSpill_spills 0 k) s)

/-! Commands (R382 to R384). -/

/-- The address of request words 1 to 4. -/
def gAddr (g : Goruz) : Nat := ofWords (g.words.take 4)
/-- A wake of NET_FWD for a command. -/
def wakeFwd (s : State) : State := if domOn s 19 then s else wake 0x03 19 s

/-- The check of FWD_CONFIG's words. -/
def infoFwd (ws : List Word) : RecInfo :=
  let w := wAt ws 0
  let v := wAt ws 1
  let x := wAt ws 2
  { ok := ws.length == 3 && onlyFields ws [[(31, 0)], [(10, 0), (21, 16)], [(21, 0)]]
      && fieldOf w 7 4 ≤ 14 && fieldOf w 11 8 ≤ 14 && 1 ≤ fieldOf w 19 12 && 1 ≤ fieldOf w 31 20 && fieldOf w 31 20 ≤ 3600
      && 127 ≤ fieldOf v 10 0 && 1 ≤ fieldOf v 21 16 && fieldOf v 21 16 ≤ 60
      && 100 ≤ fieldOf x 15 0 && fieldOf x 15 0 ≤ 60000 }
/-- The check of FWD_DSCP_MAP's words. -/
def infoDscp (ws : List Word) : RecInfo := { ok := ws.length == 4 }
/-- The check of FWD_CONTEXT_SET's words. -/
def infoContext (ws : List Word) : RecInfo :=
  let w := wAt ws 0
  let l := fieldOf w 11 4
  let a := ofWords (ws.drop 1)
  { ok := ws.length == 5 && onlyBits w [(13, 0)]
      && (if fieldOf w 13 13 = 1 then 1 ≤ l && l ≤ 128 && prefixOf a l == beAddr a else fieldOf w 12 4 == 0 && a == 0)
    res := fieldOf w 3 0 }
/-- The check of a route record of the image or of FWD_ROUTE_ADD. -/
def infoRoute (s : State) (ws : List Word) : RecInfo :=
  let a := ofWords (ws.take 4)
  let w := (wAt ws 4).toNat
  { ok := ws.length == 5 && !notLearned a && ewOk w, res := a, absent := ewAbsent s w }
/-- The check of a prefix of the image or of FWD_PREFIX_ADD. -/
def infoPrefix (s : State) (ws : List Word) : RecInfo :=
  let a := ofWords (ws.take 4)
  let l := (wAt ws 4).toNat
  let w := (wAt ws 5).toNat
  { ok := ws.length == 6 && l ≤ 128 && prefixOf a l == beAddr a && ewOk w, res := l * 2 ^ 128 + beAddr a, absent := ewAbsent s w }

/-- FWD_CONFIG. -/
def bodyFwdConfig (g : Goruz) (s : State) : Res := stageBody 0x0801 (infoFwd g.words) g s
/-- FWD_DSCP_MAP. -/
def bodyFwdDscpMap (g : Goruz) (s : State) : Res := stageBody 0x0802 (infoDscp g.words) g s
/-- FWD_CONTEXT_SET. -/
def bodyFwdContextSet (g : Goruz) (s : State) : Res := stageBody 0x0803 (infoContext g.words) g s

/-- FWD_ROUTE_ADD (R362, R384). -/
def bodyFwdRouteAdd (g : Goruz) (s : State) : Res :=
  let i := infoRoute s g.words
  let w := (gw g 5).toNat
  if i.absent then fails .absent s
  else if !i.ok then fails .badParam s
  else
    let s := wakeFwd s
    match lookupRoute s i.res with
    | some r =>
      if r.static && r.entry == w then fails .okAlready s
      else .now .ok [] (setRoutes (tabPut s.fwd.routes i.res ⟨w, 0, true⟩) s)
    | none =>
      if g.env.noPath || 131072 ≤ s.fwd.routes.length then fails .full s
      else .now .ok [] (setRoutes (tabPut s.fwd.routes i.res ⟨w, 0, true⟩) s)

/-- FWD_ROUTE_DELETE. -/
def bodyFwdRouteDelete (g : Goruz) (s : State) : Res :=
  let s := wakeFwd s
  match lookupRoute s (gAddr g) with
  | some _ => .now .ok [] (setRoutes (tabDel s.fwd.routes (gAddr g)) s)
  | none => fails .notFound s

/-- FWD_ROUTE_GET. -/
def bodyFwdRouteGet (g : Goruz) (s : State) : Res :=
  let s := wakeFwd s
  match lookupRoute s (gAddr g) with
  | some r => .now .ok [w32 (ewShown r), w32 r.age] s
  | none => fails .notFound s

/-- FWD_ROUTE_FLUSH. -/
def bodyFwdRouteFlush (g : Goruz) (s : State) : Res :=
  let scope := gf g 1 1 0
  let h := gf g 1 18 2
  if !isF s && scope = 1 && 32767 < h then fails .absent s
  else if !onlyFields g.words [[(18, 0)]] || scope = 3 || (scope != 1 && h != 0) then fails .badParam s
  else
    let s := wakeFwd s
    let gone (r : Route) : Bool :=
      if scope = 0 then !r.static else if scope = 1 then !r.static && ewKind r.entry == 0 && ewTarget r.entry == h else r.static
    let k := (s.fwd.routes.filter (fun e => gone e.2)).length
    .now .ok [w32 k] (setRoutes (s.fwd.routes.filter (fun e => !gone e.2)) s)

/-- Capacity of the prefix structure in use (R364). -/
def prefixCapacity (mode : Nat) : Nat := if mode = 0 then 65536 else 8192
/-- A prefix of words 1 to 5 of a request is in range, and its key. -/
def gPrefix (g : Goruz) : Option Nat :=
  let l := (gw g 5).toNat
  if l ≤ 128 && prefixOf (gAddr g) l == beAddr (gAddr g) then some (l * 2 ^ 128 + beAddr (gAddr g)) else none

/-- A commit in progress copies the prefixes into the other structure (R365). -/
def lpmSwitching (s : State) : Bool :=
  s.cfg.pending.isSome && fieldOf (wAt (stagedParam s 0x0801 0) 0) 0 0 != fwdF s 1 0 0

/-- FWD_PREFIX_ADD (R364, R365, R384). -/
def bodyFwdPrefixAdd (g : Goruz) (s : State) : Res :=
  let i := infoPrefix s g.words
  let w := setBit (gw g 6).toNat 28 true
  if i.absent then fails .absent s
  else if !i.ok then fails .badParam s
  else if lpmSwitching s then fails .busy s
  else
    let s := wakeFwd s
    let go : State := { s with fwd := { s.fwd with prefixes := tabPut s.fwd.prefixes i.res w } }
    match tabFind s.fwd.prefixes i.res with
    | some v => if v == w then fails .okAlready s else .now .ok [] go
    | none => if g.env.noPath || prefixCapacity (fwdF s 1 0 0) ≤ s.fwd.prefixes.length then fails .full s else .now .ok [] go

/-- FWD_PREFIX_DELETE. -/
def bodyFwdPrefixDelete (g : Goruz) (s : State) : Res :=
  match gPrefix g with
  | none => fails .badParam s
  | some k =>
    if lpmSwitching s then fails .busy s else
    let s := wakeFwd s
    match tabFind s.fwd.prefixes k with
    | some _ => .now .ok [] { s with fwd := { s.fwd with prefixes := tabDel s.fwd.prefixes k } }
    | none => fails .notFound s

/-- FWD_PREFIX_GET. -/
def bodyFwdPrefixGet (g : Goruz) (s : State) : Res :=
  match gPrefix g with
  | none => fails .badParam s
  | some k =>
    let s := wakeFwd s
    match tabFind s.fwd.prefixes k with
    | some w => .now .ok [w32 w] s
    | none => fails .notFound s

/-- FWD_LOOKUP (R384). -/
def bodyFwdLookup (g : Goruz) (s : State) : Res :=
  let s := wakeFwd s
  match lookupRoute s (gAddr g), lookupPrefix s (gAddr g) with
  | some r, _ => .now .ok [wordOf [(1, 0), (128, 8)], w32 (ewShown r), w32 r.age] s
  | none, some (l, w) => .now .ok [wordOf [(2, 0), (l, 8)], w32 w, 0] s
  | none, none => .now .ok [0, 0, 0] s

/-- Registers NET_FWD_ROUTES to NET_FWD_REASM by their place from 0x801020. -/
def fwdTableW (s : State) (k : Nat) : Word :=
  match k with
  | 0 => w32 s.fwd.routes.length
  | 1 => w32 (s.fwd.routes.filter (fun e => e.2.static)).length
  | 2 => wordOf [(s.fwd.prefixes.length, 0), (fwdF s 1 0 0, 24), (b2n (lpmSwitching s), 25)]
  | _ => wordOf [(s.fwd.reasm.length, 0), (min 65535 ((s.fwd.reasm.map (·.spilled)).sum), 16)]
/-- NET_FWD_FILTER[i] (R364): the length filter of mode H. -/
def fwdFilterW (s : State) (i : Nat) : Word :=
  if fwdF s 1 0 0 = 0 then w32 (maskOf (((prefixLengths s).filter (fun n => n / 32 == i)).map (· % 32))) else 0

/-- FWD_STATUS. -/
def bodyFwdStatus (_ : Goruz) (s : State) : Res :=
  let two (a b : Field) : Word := wordOf [(getF a 0 s, 0), (getF b 0 s, 16)]
  let one (a : Field) : Word := w32 (getF a 0 s)
  .now .ok ((List.range 4).map (fwdTableW s) ++
    [one F.netFwdCntUp_fwd_up, one F.netFwdCntDown_fwd_down, two F.netFwdCntLearn_learned F.netFwdCntLearn_moves,
      two F.netFwdCntLearnErr_learn_full F.netFwdCntLearnErr_static_conflict, two F.netFwdCntAge_aged F.netFwdCntAge_hit_at_age,
      two F.netFwdCntMiss_no_route F.netFwdCntMiss_no_nbr, two F.netFwdCntExc_hop_limit F.netFwdCntExc_too_big,
      two F.netFwdCntDrop_gate_drop F.netFwdCntDrop_hairpin, one F.netFwdCntRetry_lookup_retry,
      two F.netFwdCntIphc_iphc_bad F.netFwdCntIphc_to_cores, two F.netFwdCntReasm_reasm_done F.netFwdCntReasm_reasm_timeout,
      two F.netFwdCntFrag_reasm_full F.netFwdCntFrag_frag_overlap, two F.netFwdCntFrag2_frag_dup F.netFwdCntFrag2_frag_abandon,
      one F.netFwdCntFrags_frags_sent]) s

end Sys2Proof.Machine
end

