-- ==== Sys2Proof/Machine/Servo.lean ====
section
/-! DEFINITION. Keep time: sources, the servo, guard and glide, steps, time triggers, and the transmit timestamp queue (R421 to
R436). -/

namespace Sys2Proof.Machine
open Sys2Proof

/-! Configuration (R446, R448). -/

/-- Source: 0 HOST, 1 PTP, 2 AIR, 3 CLUSTER. -/
def timeSource (s : State) : Nat := paramF s 0x0901 0 1 1 0
/-- PTP port. -/
def ptpPort (s : State) : Nat := paramF s 0x0901 0 1 2 2
/-- Peer-to-peer delay mechanism. -/
def ptpP2p (s : State) : Bool := paramF s 0x0901 0 1 3 3 == 1
/-- servo_tc_s. -/
def servoTc (s : State) : Nat := paramF s 0x0901 0 1 29 24
/-- jump_ns. -/
def jumpNs (s : State) : Nat := paramF s 0x0901 0 2 15 0
/-- The effective policy as committed: glide or not (R426). -/
def glideNow (s : State) : Bool :=
  let p := paramF s 0x0901 0 1 17 16
  p == 2 || (p == 0 && decide (4 < getF F.netYowSpan_span 0 s))
/-- The effective policy: that of the latest sync; before any sync, that committed (R578). -/
def glideEff (s : State) : Bool := if getF F.keepTimeState_state 0 s = 0 then glideNow s else s.time.lastGlide

/-- State of keep time: 0 UNSET, 1 LOCKED, 2 FREE, 3 SLEWING, 4 HELD (R428). -/
def timeState (s : State) : Nat := getF F.keepTimeState_state 0 s
/-- Set it. -/
def setTimeState (n : Nat) (s : State) : State := setF F.keepTimeState_state 0 n s
/-- rate_adj. -/
def rateAdj (s : State) : Int := getI F.keepTimeRate_rate_adj 0 s
/-- Set rate_adj within its limits (R421). -/
def setRate (r : Int) (s : State) : State := setI F.keepTimeRate_rate_adj 0 (clampI (-549755814) 549755814 r) s

/-! Time triggers (R433 to R435). -/

/-- A GPIO output takes a level by its trigger, while its output enable is set (R434). -/
def trigGpio (j : Nat) (level : Option Bool) (s : State) : State :=
  let o := getF F.keepGpioOut_out 0 s
  if j < 24 && bitOf (getF F.keepGpioOe_oe 0 s) j then
    setF F.keepGpioOut_out 0 (setBit o j (level.getD (!bitOf o j))) s
  else s

/-- A conversion request of the ADC on a mask of inputs (R436). (DEDUCED, log 57.) -/
def aadcRequest (mask : Nat) (s : State) : State :=
  ((bitsSet mask 4).foldl (fun (a : State × Nat) n =>
    let s := a.1
    let t := s.time.ns + 1500 * a.2
    (match tabFind s.time.aadc n with
      | none => { s with time := { s.time with aadc := tabPut s.time.aadc n ⟨t, false⟩ } }
      | some x =>
        if x.queued then count F.keepAadcCnt_aadc_drop 0 s
        else { s with time := { s.time with aadc := tabPut s.time.aadc n { x with queued := true } } }, a.2 + 1)) (s, 0)).1

/-- A timer element starts: its output takes out_init, and the prescale count restarts (R437, R441). -/
def tmrStart (n : Nat) (s : State) : State :=
  let x := tabGet s.time.tmrs n {}
  { s with time := { s.time with tmrs := tabPut s.time.tmrs n { x with edges := 0 } } }
    |> setF F.keepTmrStat_out n (getF F.keepTmrCfg_out_init n s)

/-- Snapshot of the ASN in progress and of the µs since its boundary; 0 and 0 while no schedule runs (R434). -/
def cycleSnapshot (s : State) : State :=
  let n := if slmRunning s then s.slm.asn.getD 0 else 0
  let us := if slmRunning s then (s.time.ns - slotAt s n) / 1000 else 0
  s |> setF F.keepTtCycleLo_asn_lo 0 n |> setF F.keepTtCycleHi_asn_hi 0 (n / 2 ^ 32) |> setF F.keepTtCycleHi_into_slot_us 0 us

/-- Perform the action of a trigger (R434). -/
def trigAction (i : Nat) (s : State) : State :=
  let t := getF F.keepTtCfg_target i s
  match getF F.keepTtCfg_action i s with
  | 1 => aadcRequest t s
  | 2 => cycleSnapshot s
  | 3 => { s with time := { s.time with ppsUntil := some (s.now + 1000 * max 1 (getF F.keepTimePpsCfg_pps_width_us 0 s)) } }
  | 4 => trigGpio t (some true) s
  | 5 => trigGpio t (some false) s
  | 6 => trigGpio t none s
  | 7 => tmrStart t (setF F.keepTmrCount_count t 0 (setF F.keepTmrCfg_run t 1 s))
  | _ => s

/-- Disarm a trigger. -/
def trigOff (i : Nat) (s : State) : State :=
  { s with time := { s.time with trigs := tabDel s.time.trigs i } } |> setF F.keepTtCfg_arm i 0

/-- `n` firings are counted and the next time is set; after the last firing arm clears (R433). -/
def trigNext (i n : Nat) (x : Trig) (s : State) : State :=
  let c := getF F.keepTtCfg_count i s
  let s := setF F.keepTtCfg_count i (c - n) s
  if x.period = 0 || (c != 0 && c ≤ n) then trigOff i s
  else { s with time := { s.time with trigs := tabPut s.time.trigs i ⟨x.time + n * x.period, x.period⟩ } }

/-- A trigger fires (R433, R434). (DEDUCED, log 98.) -/
def trigFire (i : Nat) (late : Bool) (s : State) : State :=
  let st := F.keepTtStat_fired
  let s := setF st 0 (setBit (getF st 0 s) i true) s
  let s := if late then setF F.keepTtStat_late 0 (setBit (getF F.keepTtStat_late 0 s) i true) s else s
  trigAction i s

/-- After a forward step a trigger whose time lies at or before keep time fires once with its late bit; the firings passed over count
without their action, and a periodic trigger takes its first time after keep time (R435). (DEDUCED, log 98.) -/
def trigLate (i : Nat) (s : State) : State :=
  match tabFind s.time.trigs i with
  | none => s
  | some x =>
    if s.time.ns < x.time then s
    else trigNext i (if x.period = 0 then 1 else (s.time.ns - x.time) / x.period + 1) x (trigFire i true s)

/-- TRIGGER_FIRING (R433): keep time reaches the trigger's time. -/
def execTriggerFiring (i : Fin 16) (s : State) : Host.Outcome State Fault Refusal :=
  match tabFind s.time.trigs i with
  | none => done s s
  | some x => done s (trigNext i 1 x (trigFire i false (waitKeep x.time s)))

/-- A write of KEEP_TT_CFG (R433). A time at or before keep time fires at once, late; a periodic trigger's next time is its scheduled
time plus the period, as after any firing. (DEDUCED, log 98.) -/
def trigWrite (i : Nat) (w : Word) (s : State) : State :=
  let p := getF F.keepTtPeriod_period i s
  let arm := fieldOf w 0 0 == 1
  if arm && 1 ≤ p && p ≤ 999 then setF F.keepTtCfg_reject i 1 s
  else
    let s := s |> setF F.keepTtCfg_arm i (fieldOf w 0 0) |> setF F.keepTtCfg_action i (fieldOf w 3 1)
      |> setF F.keepTtCfg_target i (fieldOf w 9 4) |> setF F.keepTtCfg_count i (fieldOf w 31 16) |> setF F.keepTtCfg_reject i 0
    if arm then
      let t := getF F.keepTtTimeLo_time_lo i s + 2 ^ 32 * getF F.keepTtTimeHi_time_hi i s
      let s := { s with time := { s.time with trigs := tabPut s.time.trigs i ⟨t, p⟩ } }
      if s.time.ns < t then s else trigNext i 1 ⟨t, p⟩ (trigFire i true s)
    else trigOff i s

/-- TRIGGER_ARM (R433): a write of KEEP_TT_CFG with arm set. (DEDUCED, log 98.) -/
def execTriggerArm (i : Fin 16) (w : Word) (s : State) : Host.Outcome State Fault Refusal :=
  if fieldOf w 0 0 = 1 then done s (keepAccess (trigWrite i w) s) else done s s

/-- TRIGGER_DISARM (R433): a write of KEEP_TT_CFG with arm clear. -/
def execTriggerDisarm (i : Fin 16) (w : Word) (s : State) : Host.Outcome State Fault Refusal :=
  if fieldOf w 0 0 = 0 then done s (keepAccess (trigWrite i w) s) else done s s

/-! Steps of keep time (R429, R435). -/

/-- Keep time is replaced: counted, raised, triggers act on it, and Slalom, where it runs, is to re-base its boundaries
(R299, R429, R435). Cause: 0 FIRST, 1 ACCEPT, 2 HOST. -/
def stepTime (d : Int) (cause : Nat) (s : State) : State :=
  let run := slmRunning s
  let t := ((s.time.ns + d) % (2 ^ 64 : Nat)).toNat
  let s := { s with time := { s.time with ns := t } }
  let s := if run then { s with slm := { s.slm with stepped := some (d + s.slm.stepped.getD 0) } } else s
  let s := s |> count F.keepTimeCntEvt_steps 0 |> raise Ev.keepTimeStepped [(unsignedOf d 64, 64), (cause, 2)]
  if 0 < d then (List.range 16).foldl (fun s i => trigLate i s) s else s

/-! The servo (R425). -/

/-- The integrator counts in units of 1 / servoUnit: 2^40 × 10^18 × K², with K a multiple of every servo_tc_s, so that no step
of R425 rounds. (DEDUCED, log 48.) -/
def servoK : Nat := 591133442051411133755680800
/-- The unit of the integrator. (DEDUCED, log 48.) -/
def servoUnit : Nat := 2 ^ 40 * 10 ^ 18 * servoK ^ 2

/-- The servo at a sync with offset o (R425). (DEDUCED, log 48.) -/
def servo (o : Int) (s : State) : State :=
  let tc := servoTc s
  let t := s.time.ns - s.time.lastSync.getD s.time.ns
  let i := s.time.integ + o * (t : Nat) * (2 ^ 40 * (servoK / tc) ^ 2 : Nat)
  let lim : Int := 100 * (servoUnit / 10 ^ 6 : Nat)
  let r := clampI (-lim) lim (i + 2 * o * (2 ^ 40 * 10 ^ 9 * servoK * (servoK / tc) : Nat))
  setRate (roundDiv r (servoUnit / 2 ^ 40)) { s with time := { s.time with integ := i } }

/-- Keep time becomes LOCKED with the rate given (R425, R428). -/
def timeLock (rate o : Int) (s : State) : State :=
  { s with time := { s.time with integ := rate * (servoUnit / 2 ^ 40 : Nat), offsets := [], lastGlide := glideNow s } }
    |> setRate rate |> setTimeState 1 |> setF F.keepTimeState_agree 0 0
    |> raise Ev.keepTimeLocked [(timeSource s, 2), (unsignedOf o 32, 32)]

/-- Keep time becomes FREE: reason 0 LOSS, 1 CHANGE, 2 OUTLIER. A slew that ends so returns to its held rate (R428). -/
def timeFree (reason : Nat) (s : State) : State :=
  let s := if timeState s = 3 then setRate s.time.heldRate s else s
  { s with time := { s.time with offsets := [], heldRate := rateAdj s } }
    |> setTimeState 2 |> setF F.keepTimeState_agree 0 0 |> raise Ev.keepTimeFree [(timeSource s, 2), (reason, 2)]

/-- A correction is refused: it is held for the host (R428). -/
def timeRefuse (o : Int) (s : State) : State :=
  { s with time := { s.time with heldOffset := o } } |> setTimeState 4 |> count F.keepTimeCntEvt_refused 0
    |> raise Ev.keepTimeRefused [(unsignedOf o 64, 64)]

/-- A sync in FREE under glide is counted towards agreement (R428). -/
def timeCount (o : Int) (s : State) : State :=
  let j : Int := jumpNs s
  let l := o :: s.time.offsets
  let l := if l.all (fun x => decide (x ≤ o + j) && decide (o ≤ x + j)) && l.all (fun x => l.all (fun y => decide (x ≤ y + j))) then l else [o]
  if l.length < 8 then setF F.keepTimeState_agree 0 l.length { s with time := { s.time with offsets := l } }
  else if decide (o ≤ j) && decide (-j ≤ o) then timeLock (rateAdj s) o s
  else
    { s with time := { s.time with offsets := [], slew := (o, s.time.ns), heldRate := rateAdj s } }
      |> setRate (rateAdj s + (if 0 < o then 10995116 else -10995116)) |> setTimeState 3 |> setF F.keepTimeState_agree 0 0

/-- Bin of |o| (R521). -/
def offsetBin (o : Int) : Nat := if o.natAbs < 8 then 0 else min 15 (Nat.log2 o.natAbs - 2)

/-- States of the other policy are converted at the sync that meets a change of policy (R578). (DEDUCED, log 48.) -/
def timeConvert (glide : Bool) (s : State) : State :=
  if glide && timeState s = 4 then
    setTimeState 2 { s with time := { s.time with offsets := [], heldRate := rateAdj s, heldOffset := 0 } }
  else if !glide && timeState s = 3 then
    setTimeState 2 (setRate s.time.heldRate { s with time := { s.time with offsets := [] } })
  else s

/-- A sync of the source with offset o (R423 to R429, R578). (DEDUCED, log 48.) -/
def timeSync (o : Int) (s : State) : State :=
  let g := glideNow s
  let s := timeConvert g s
  let s := s |> count F.keepTimeCntSync_syncs 0 |> histAdd 16 (offsetBin o) 1
    |> setI F.keepTimeOffset_last_offset 0 (clampI (-2147483648) 2147483647 o)
  let j := jumpNs s
  let near := decide (o.natAbs ≤ j)
  let s := match timeState s with
    | 0 => s |> stepTime o 0 |> setF F.keepTimeState_source_ok 0 1 |> timeLock (rateAdj s) o
    | 1 => if near then servo o s
      else if g then timeCount o (count F.keepTimeCntFree_changes 0 (timeFree 1 s))
      else timeRefuse o s
    | 2 => if g then timeCount o s else if near then timeLock (rateAdj s) o s else timeRefuse o s
    | 3 =>
      let dir : Int := if 0 < s.time.slew.1 then 1 else -1
      let pred := 100000 * s.time.slew.1 - dir * (s.time.ns - s.time.slew.2 : Nat)
      if near then timeLock s.time.heldRate o s
      else if 100000 * j < (100000 * o - pred).natAbs then timeFree 2 s
      else s
    | _ => if near then timeLock (rateAdj s) o s else timeRefuse o s
  { s with time := { s.time with lastSync := some s.time.ns, lastGlide := g } }

/-- The source is lost (R427, R428). Source HOST never is. -/
def timeLoss (s : State) : State :=
  if timeSource s = 0 || timeState s = 0 then s
  else
    let s := count F.keepTimeCntFree_losses 0 s
    if timeState s = 2 then setF F.keepTimeState_agree 0 0 { s with time := { s.time with offsets := [] } } else timeFree 0 s

/-- Leaving MEMBER loses the source CLUSTER (R487). (DEDUCED, log 88.) -/
def leaveMember (old s : State) : State :=
  if timeSource s = 3 && yowState old = 2 && yowState s != 2 then timeLoss s else s

/-- The source changes master (R427, R428): under guard the next sync is judged as in LOCKED. -/
def timeChange (s : State) : State :=
  if timeSource s = 0 || timeState s = 0 then s
  else
    let s := count F.keepTimeCntFree_changes 0 s
    if timeState s = 2 then setF F.keepTimeState_agree 0 0 { s with time := { s.time with offsets := [] } }
    else if glideEff s && (timeState s = 1 || timeState s = 3) then timeFree 1 s
    else s

/-- Keep time has no source: UNSET, source_ok clear (R423, R430, R450). -/
def timeUnset (s : State) : State :=
  { s with time := { s.time with offsets := [], lastSync := none } }
    |> setTimeState 0 |> setF F.keepTimeState_source_ok 0 0 |> setF F.keepTimeState_agree 0 0

/-- TIME_SYNC_EVENT (R423, R428): a sync of a source other than HOST, whose message no row of its own has taken. (DEDUCED, log 49.) -/
def execTimeSyncEvent (offset : Int) (s : State) : Host.Outcome State Fault Refusal :=
  if timeSource s = 0 then done s s else done s (timeSync offset s)

/-- SOURCE_LOSS (R427). -/
def execSourceLoss (s : State) : Host.Outcome State Fault Refusal := done s (timeLoss s)

/-- MASTER_CHANGE (R427). -/
def execMasterChange (gm : Nat) (s : State) : Host.Outcome State Fault Refusal :=
  if timeSource s = 0 then done s s else done s (timeChange { s with time := { s.time with master := gm } })

/-- PTP_MESSAGE (R424): messages of the configured domain on ptp_port. (PRESUMED, log 50.) -/
def execPtpMessage (m : Ptp) (s : State) : Host.Outcome State Fault Refusal :=
  let p := ptpPort s
  if timeSource s != 1 || !getB F.netEthStatus_link p s then done s s
  else
    let setT (f : TimeSt → TimeSt) (s : State) : State := { s with time := f s.time }
    match m with
    | .announce gm best =>
      if !best || gm = s.time.master then done s s
      else
        let t := setT (fun t => { t with master := gm, syncPending := none }) s
        done s (if s.time.master = 0 then t else timeChange t)
    | .sync seq two origin corr =>
      if two then done s (setT (fun t => { t with syncPending := some (seq, s.time.ns) }) s)
      else
        let d := (s.time.ns : Int) - origin - corr
        done s (timeSync (s.time.pathDelay - d) (setT (fun t => { t with syncDiff := some d, syncPending := none }) s))
    | .followUp seq origin corr =>
      match s.time.syncPending with
      | none => done s s
      | some (q, rx) =>
        if q != seq then done s s
        else
          let d := (rx : Int) - origin - corr
          done s (timeSync (s.time.pathDelay - d) (setT (fun t => { t with syncDiff := some d, syncPending := none }) s))
    | .delayResp t3 t4 corr =>
      match s.time.syncDiff with
      | some d => if ptpP2p s then done s s else done s (setT (fun t => { t with pathDelay := roundDiv (d + (t4 - t3 - corr)) 2 }) s)
      | none => done s s
    | .pdelayReq =>
      if ptpP2p s then
        let et := if paramF s 0x0901 0 1 4 4 = 1 then 0x86DD else 0x88F7
        done s (s |> put (.eth p et 54) |> put (.eth p et 54))
      else done s s
    | .pdelayResp t1 t2 t3 t4 corr =>
      if ptpP2p s then done s (setT (fun t => { t with pathDelay := roundDiv (t4 - t1 - (t3 - t2) - corr) 2 }) s) else done s s

/-- PPS_IN_EDGE (R435). -/
def execPpsInEdge (s : State) : Host.Outcome State Fault Refusal :=
  done s (s |> setF F.keepTimePpsinLo_ppsin_lo 0 s.time.ns |> setF F.keepTimePpsinHi_ppsin_hi 0 (s.time.ns / 2 ^ 32)
    |> setF F.keepTimePpsCfg_ppsin_seq 0 (getF F.keepTimePpsCfg_ppsin_seq 0 s + 1))

/-! The timestamp queue (R431, R432). -/

/-- Queue the timestamp of an attempt: outcome 0 no acknowledgement requested, 1 acknowledged, 2 not acknowledged, 3 NACKed. -/
def tsqPush (id attempt emitter port outcome ts mode : Nat) (s : State) : State :=
  if s.time.tsq.length < 16 then
    let w := id % 65536 + 65536 * (attempt % 8) + 2 ^ 19 * emitter + 2 ^ 22 * port + 2 ^ 24 * outcome
    { s with time := { s.time with tsq := s.time.tsq ++ [⟨w, ts, mode⟩] } }
  else s |> count F.linkTsqOvf_ovf 0 |> raiseOnce Ev.linkTsqOverflow 0 (fun n => [(n, 32)])

/-- The words of an entry (R431). -/
def tsqWords (x : TsqEntry) : List Word := [w32 (x.word + 2 ^ 31), wordAt x.ts 0, wordAt x.ts 1, w32 x.mode]

/-- TSQ_POP (R432): the head entry leaves; its words are latched. -/
def tsqPop (s : State) : State × Word :=
  let ws := match s.time.tsq with
    | x :: _ => tsqWords x
    | [] => [0, 0, 0, 0]
  ({ s with time := { s.time with tsq := s.time.tsq.drop 1 } } |> setF F.linkTsqW_word 0 (wAt ws 1).toNat
    |> setF F.linkTsqW_word 1 (wAt ws 2).toNat |> setF F.linkTsqW_word 2 (wAt ws 3).toNat, wAt ws 0)

/-- TSQ_POP (R432, R550). -/
def execTsqPop (s : State) : Host.Outcome State Fault Refusal :=
  let s1 := if domOn s 15 then s else wake 0x04 15 s
  if !domOn s1 15 then done s (put (.readData 0x404000 0) s1)
  else done s (put (.readData 0x404000 (tsqPop s1).2.toNat) (tsqPop s1).1)

end Sys2Proof.Machine
end

