-- ==== Sys2Proof/Machine/Timers.lean ====
section
/-! DEFINITION. Timer elements, capture queues, wide counters, the auxiliary ADC, and the time commands (R436 to R450). -/

namespace Sys2Proof.Machine
open Sys2Proof

/-! Elements (R437 to R441). -/

/-- A timer element beside its registers. -/
def tmr (s : State) (n : Nat) : Tmr := tabGet s.time.tmrs n {}
/-- Replace it. -/
def setTmr (n : Nat) (x : Tmr) (s : State) : State := { s with time := { s.time with tmrs := tabPut s.time.tmrs n x } }
/-- Set a bit of KEEP_TMR_STAT. -/
def tmrFlag (f : Field) (n : Nat) (s : State) : State := setF f n 1 s

/-- Some bit of KEEP_TMR_PEND is set. -/
def tmrPending (s : State) : Bool := getF F.keepTmrPend_pend 0 s != 0 || getF F.keepTmrPend_pend 1 s != 0
/-- A compare match raises the element's pending bit; the timer interrupt is sent as the first one rises (R440, R465). -/
def tmrPend (n : Nat) (s : State) : State :=
  let was := tmrPending s
  let s := setF F.keepTmrPend_pend (n / 32) (setBit (getF F.keepTmrPend_pend (n / 32) s) (n % 32) true) s
  if !was && paramF s 0x0147 0 1 15 15 = 1 && paramF s 0x0147 0 1 14 14 = 0 then msixSend (paramF s 0x0147 0 1 13 8) s else s

/-- The action of a compare on the output: 1 set, 2 clear, 3 toggle (R440). -/
def tmrAct (n act : Nat) (s : State) : State :=
  let o := getF F.keepTmrStat_out n s
  setF F.keepTmrStat_out n (match act with | 1 => 1 | 2 => 0 | 3 => 1 - o | _ => o) s

/-- A compare matches (R439, R440). -/
def tmrMatch (n : Nat) (hit act : Field) (s : State) : State :=
  let s := tmrAct n (getF act n s) (tmrFlag hit n s)
  if getB F.keepTmrCfg_irq_en n s then tmrPend n s else s

/-- The count has changed into a value: compare 0, then compare 1 (R440). -/
def tmrCompares (n c : Nat) (s : State) : State :=
  let s := if getF F.keepTmrCmp0_cmp n s = c then tmrMatch n F.keepTmrStat_cmp0_hit F.keepTmrCfg_cmp0_act s else s
  if getF F.keepTmrCmp1_cmp n s = c then tmrMatch n F.keepTmrStat_cmp1_hit F.keepTmrCfg_cmp1_act s else s

/-- The value of a wide counter. -/
def wideValue (s : State) (k : Nat) : Nat := getF F.keepTmrWideLo_wide_lo k s + 2 ^ 32 * getF F.keepTmrWideHi_wide_hi k s
/-- Add to a running wide counter (R443). -/
def wideTick (k : Nat) (s : State) : State :=
  let v := (wideValue s k + 1) % 2 ^ 64
  s |> setF F.keepTmrWideLo_wide_lo k v |> setF F.keepTmrWideHi_wide_hi k (v / 2 ^ 32)
/-- The wraps of an element that its block's wide counter counts (R443). -/
def wideChain (n : Nat) (s : State) : State :=
  let k := n / 8
  if getB F.keepTmrWideCfg_run k s && getB F.keepTmrWideCfg_chain k s && getF F.keepTmrWideCfg_chain_elem k s = n % 8
  then wideTick k s else s

/-- A buffered reload takes effect (R438). -/
def reloadNow (n : Nat) (s : State) : State :=
  setF F.keepTmrStat_rl_pending n 0 (setTmr n { tmr s n with eff := getF F.keepTmrReload_reload n s } s)

/-- A tick of an element (R437, R438, R440). (DEDUCED, log 56.) -/
def tmrTick (n : Nat) (s : State) : State :=
  let x := tmr s n
  let c := getF F.keepTmrCount_count n s
  if !getB F.keepTmrCfg_run n s then s
  else if x.eff = 0 then setF F.keepTmrCount_count n 0 (if getB F.keepTmrStat_rl_pending n s then reloadNow n s else s)
  else if x.eff ≤ c then
    let s := if getB F.keepTmrStat_rl_pending n s then reloadNow n s else s
    let s := wideChain n (tmrFlag F.keepTmrStat_wrap n (setF F.keepTmrCount_count n 0 s))
    if (tmr s n).eff = 0 then s else tmrCompares n 0 s
  else tmrCompares n (c + 1) (setF F.keepTmrCount_count n (c + 1) s)

/-- TIMER_TICK (R437, R443): a tick of KT_1US (0), REF (1) or WICK (2) reaches every running element and every running wide
counter that takes it. KT_1US ticks at the next µs boundary of keep time. REF stands still while KEEP_CPU is not on (R444).
(DEDUCED, log 56.) -/
def execTimerTick (src : Fin 3) (s : State) : Host.Outcome State Fault Refusal :=
  let t := src.val
  if t = 1 && !domOn s 1 then done s s
  else
    let s1 := if t = 0 then waitKeep ((s.time.ns / 1000 + 1) * 1000) s else s
    let s1 := ((List.range 64).filter (fun n => getB F.keepTmrCfg_run n s1 && getF F.keepTmrCfg_tick n s1 == t)).foldl
      (fun s n => tmrTick n s) s1
    done s (((List.range 8).filter (fun k => getB F.keepTmrWideCfg_run k s1 && !getB F.keepTmrWideCfg_chain k s1
      && getF F.keepTmrWideCfg_tick k s1 == t)).foldl (fun s k => wideTick k s) s1)

/-- A write of KEEP_TMR_CFG (R437, R441): one that names no valid configuration is ignored whole. -/
def tmrCfgWrite (n : Nat) (w : Word) (s : State) : State :=
  let pre := fieldOf w 20 12
  if pre = 0 || 256 < pre || fieldOf w 6 5 = 3 || (fieldOf w 4 4 = 1 && fieldOf w 2 1 = 3) then tmrFlag F.keepTmrStat_cfg_reject n s
  else
    let was := getB F.keepTmrCfg_run n s
    let s := s |> setF F.keepTmrCfg_run n (fieldOf w 0 0) |> setF F.keepTmrCfg_tick n (fieldOf w 2 1)
      |> setF F.keepTmrCfg_rl_unbuf n (fieldOf w 3 3) |> setF F.keepTmrCfg_cap_en n (fieldOf w 4 4)
      |> setF F.keepTmrCfg_cap_edge n (fieldOf w 6 5) |> setF F.keepTmrCfg_filter n (fieldOf w 10 7)
      |> setF F.keepTmrCfg_wake_edge n (fieldOf w 11 11) |> setF F.keepTmrCfg_prescale n pre
      |> setF F.keepTmrCfg_irq_en n (fieldOf w 21 21) |> setF F.keepTmrCfg_cmp0_act n (fieldOf w 23 22)
      |> setF F.keepTmrCfg_cmp1_act n (fieldOf w 25 24) |> setF F.keepTmrCfg_out_init n (fieldOf w 26 26)
    let s := setTmr n { tmr s n with edges := 0 } s
    if !was && fieldOf w 0 0 = 1 then tmrStart n s else s

/-- TMR_CFG_WRITE. -/
def execTmrCfgWrite (n : Fin 64) (w : Word) (s : State) : Host.Outcome State Fault Refusal :=
  done s (keepAccess (tmrCfgWrite n w) s)

/-- A write of KEEP_TMR_COUNT (R438). -/
def tmrCountWrite (n : Nat) (w : Word) (s : State) : State :=
  if getB F.keepTmrCfg_run n s then tmrFlag F.keepTmrStat_cfg_reject n s else setF F.keepTmrCount_count n w.toNat s

/-- TMR_COUNT_WRITE. -/
def execTmrCountWrite (n : Fin 64) (w : Word) (s : State) : Host.Outcome State Fault Refusal :=
  done s (keepAccess (tmrCountWrite n w) s)

/-- A write of RELOAD (R438). -/
def tmrReloadWrite (n : Nat) (w : Word) (s : State) : State :=
  let s := setF F.keepTmrReload_reload n w.toNat s
  if getB F.keepTmrCfg_rl_unbuf n s then
    let s := reloadNow n s
    if w.toNat < getF F.keepTmrCount_count n s then tmrFlag F.keepTmrStat_reload_cut n s else s
  else setF F.keepTmrStat_rl_pending n 1 s

/-- TMR_RELOAD_WRITE. -/
def execTmrReloadWrite (n : Fin 64) (w : Word) (s : State) : Host.Outcome State Fault Refusal :=
  done s (keepAccess (tmrReloadWrite n w) s)

/-- A write of a compare (R439). -/
def tmrCompareWrite (n c : Nat) (w : Word) (s : State) : State :=
  let s := setF (if c = 0 then F.keepTmrCmp0_cmp else F.keepTmrCmp1_cmp) n w.toNat s
  if w.toNat ≤ getF F.keepTmrCount_count n s then tmrFlag F.keepTmrStat_cmp_late n s else s

/-- TMR_COMPARE_WRITE. -/
def execTmrCompareWrite (n : Fin 64) (c : Fin 2) (w : Word) (s : State) : Host.Outcome State Fault Refusal :=
  done s (keepAccess (tmrCompareWrite n c w) s)

/-! Captures (R441, R442, R445). -/

/-- Element and enable of an input route (R445). -/
def capRoute (s : State) (t : Nat) : Nat × Bool :=
  let r := t / 4
  match t % 4 with
  | 0 => (getF F.keepTmrRouteCap_element0 r s, getB F.keepTmrRouteCap_en0 r s)
  | 1 => (getF F.keepTmrRouteCap_element1 r s, getB F.keepTmrRouteCap_en1 r s)
  | 2 => (getF F.keepTmrRouteCap_element2 r s, getB F.keepTmrRouteCap_en2 r s)
  | _ => (getF F.keepTmrRouteCap_element3 r s, getB F.keepTmrRouteCap_en3 r s)
/-- The element that an input feeds; where two routes name one element the lower input wins (R445). -/
def capTarget (s : State) (t : Nat) : Option Nat :=
  let r := capRoute s t
  if r.2 && !(List.range t).any (fun u => (capRoute s u).2 && (capRoute s u).1 == r.1) then some r.1 else none

/-- A capture of an element at a keep time (R441, R442). -/
def tmrCapture (n time : Nat) (lowres : Bool) (s : State) : State :=
  let c := getF F.keepTmrCount_count n s
  let s := tmrFlag F.keepTmrStat_cap_hit n (setF F.keepTmrCap_cap n c s)
  let q := tabGet s.time.caps (n / 8) []
  if q.length < 8 then { s with time := { s.time with caps := tabPut s.time.caps (n / 8) (q ++ [⟨n, c, time, lowres⟩]) } }
  else tmrFlag F.keepTmrStat_cap_ovf n s

/-- TIMER_CAPTURE (R437, R441, R444): an accepted edge of an input. The step stands for its last sample; the first lies `filter`
samples of 38.4 MHz before it. With KEEP_CPU not on, an element with wake_edge wakes it, and its edge is queued with lowres.
(DEDUCED, log 98.) -/
def execTimerCapture (t : Fin 8) (rising : Bool) (s : State) : Host.Outcome State Fault Refusal :=
  match capTarget s t with
  | none => done s s
  | some n =>
    let e := getF F.keepTmrCfg_cap_edge n s
    let asleep := !domOn s 1
    if !(e == 2 || (e == 0 && rising) || (e == 1 && !rising)) || (asleep && !getB F.keepTmrCfg_wake_edge n s) then done s s
    else
      let s1 := if asleep then wake 0x07 1 s else s
      if !domOn s1 1 then done s s1
      else
      let x := tmr s1 n
      let pass := getF F.keepTmrCfg_prescale n s1 ≤ x.edges + 1
      let s1 := setTmr n { x with edges := if pass then 0 else x.edges + 1 } s1
      if !pass then done s s1
      else if getB F.keepTmrCfg_cap_en n s1 then
        done s (tmrCapture n (s1.time.ns - getF F.keepTmrCfg_filter n s1 * 10000 / 384) asleep s1)
      else if getF F.keepTmrCfg_tick n s1 = 3 then done s (tmrTick n s1)
      else done s s1

/-- A read of KEEP_TMR_Q_POP (R442): the head entry leaves, its value and keep time are latched; the word read. -/
def tmrPop (k : Nat) (s : State) : State × Word :=
  let q := tabGet s.time.caps k []
  let v := match q with
    | x :: _ => (wordOf [(x.elem, 0), (b2n x.lowres, 6), (1, 7)], x.value, x.time)
    | [] => (0, 0, 0)
  ({ s with time := { s.time with caps := tabSet s.time.caps k (if q.length ≤ 1 then none else some (q.drop 1)) } }
    |> setF F.keepTmrQVal_value k v.2.1 |> setF F.keepTmrQTlo_time_lo k v.2.2
    |> setF F.keepTmrQThi_time_hi k (v.2.2 / 2 ^ 32), v.1)

/-- TMR_QUEUE_POP (R442, R550). -/
def execTmrQueuePop (k : Fin 8) (s : State) : Host.Outcome State Fault Refusal :=
  done s (keepAccess (fun s => put (.readData (0x4800 + 0x20 * k.val) (tmrPop k s).2.toNat) (tmrPop k s).1) s)

/-! Wide counters (R443). -/

/-- A read of half of a wide counter: the state after it and the word. -/
def wideRead (k : Nat) (hi : Bool) (s : State) : State × Word :=
  if getB F.keepTmrWideCfg_run k s then (setF F.keepTmrBlkStat_rd_running k 1 s, 0xFFFFFFFF)
  else (s, w32 (getF (if hi then F.keepTmrWideHi_wide_hi else F.keepTmrWideLo_wide_lo) k s))
/-- A write of half of a wide counter. -/
def wideWrite (k : Nat) (hi : Bool) (w : Word) (s : State) : State :=
  if getB F.keepTmrWideCfg_run k s then setF F.keepTmrBlkStat_wr_running k 1 s
  else setF (if hi then F.keepTmrWideHi_wide_hi else F.keepTmrWideLo_wide_lo) k w.toNat s

/-- WIDE_COUNTER_ACCESS: a read where no word is given, else a write. -/
def execWideCounterAccess (k : Fin 8) (hi : Bool) (w : Option Word) (s : State) : Host.Outcome State Fault Refusal :=
  match w with
  | none =>
    done s (keepAccess (fun s => put (.readData (0x4818 + 0x20 * k.val + (if hi then 4 else 0)) (wideRead k hi s).2.toNat) (wideRead k hi s).1) s)
  | some w => done s (keepAccess (wideWrite k hi w) s)

/-- A write of KEEP_TMR_WIDE_CFG; one with tick 0b11 is ignored (R443, R446). -/
def wideCfgWrite (k : Nat) (w : Word) (s : State) : State :=
  if fieldOf w 3 2 = 3 then setF F.keepTmrBlkStat_wide_reject k 1 s
  else s |> setF F.keepTmrWideCfg_run k (fieldOf w 0 0) |> setF F.keepTmrWideCfg_chain k (fieldOf w 1 1)
    |> setF F.keepTmrWideCfg_tick k (fieldOf w 3 2) |> setF F.keepTmrWideCfg_chain_elem k (fieldOf w 6 4)

/-- A write of KEEP_TMR_STAT: the hit flags clear, and with them the pending bit (R446). -/
def tmrStatWrite (n : Nat) (w : Word) (s : State) : State :=
  let s := [(0, F.keepTmrStat_cmp0_hit), (1, F.keepTmrStat_cmp1_hit), (2, F.keepTmrStat_wrap), (3, F.keepTmrStat_cap_hit),
    (4, F.keepTmrStat_cap_ovf), (5, F.keepTmrStat_cmp_late), (6, F.keepTmrStat_reload_cut), (7, F.keepTmrStat_cfg_reject)].foldl
    (fun s x => if fieldOf w x.1 x.1 = 1 then setF x.2 n 0 s else s) s
  if getB F.keepTmrStat_cmp0_hit n s || getB F.keepTmrStat_cmp1_hit n s then s
  else setF F.keepTmrPend_pend (n / 32) (setBit (getF F.keepTmrPend_pend (n / 32) s) (n % 32) false) s

/-! The auxiliary ADC (R436). -/

/-- A trim of the ADC: kind 0 gain, 1 offset (R98, R450). -/
def aadcTrim (s : State) (n kind : Nat) : Int := signedOf (paramF s 0x0909 (n + 4 * kind) 2 15 0) 16
/-- Effective gain in 1/65,536. -/
def aadcGain (s : State) (n : Nat) : Int := clampI 62259 68813 (roundDiv ((65536 + factoryOf s 0x10 n) * (65536 + aadcTrim s n 0)) 65536)
/-- Effective offset in LSB. -/
def aadcOffset (s : State) (n : Nat) : Int := clampI (-80) 80 (factoryOf s 0x11 n + aadcTrim s n 1)

/-- AADC_CONVERSION (R436): the conversion that keeps an input busy completes; a request queued behind it is taken up.
(DEDUCED, log 57.) -/
def execAadcConversion (n : Fin 4) (raw : Nat) (s : State) : Host.Outcome State Fault Refusal :=
  let n := n.val
  match tabFind s.time.aadc n with
  | none => done s s
  | some x =>
    let s1 := waitKeep (x.sample + 1500) s
    let v := clampI 0 4095 (roundDiv ((min raw 4095 : Nat) * aadcGain s n) 65536 + aadcOffset s n)
    let next := if x.queued then tabPut s1.time.aadc n ⟨s1.time.ns, false⟩ else tabDel s1.time.aadc n
    done s ({ s1 with time := { s1.time with aadc := next } }
      |> setF F.keepAadcRes_value n v.toNat |> setF F.keepAadcRes_seq n (getF F.keepAadcRes_seq n s + 1)
      |> setF F.keepAadcTlo_time_lo n x.sample |> setF F.keepAadcThi_time_hi n (x.sample / 2 ^ 32)
      |> count F.keepAadcCnt_conversions 0)

/-! Commands (R448 to R450). -/

/-- The check of TIME_CONFIG's words. -/
def infoTime (s : State) (ws : List Word) : RecInfo :=
  let w := wAt ws 0
  { absent := fieldOf w 2 2 == 1 && !ethPresent s 1
    ok := ws.length == 2 && onlyFields ws [[(4, 0), (15, 8), (17, 16), (29, 24)], [(15, 0)]]
      && fieldOf w 17 16 ≤ 2 && fieldOf w 29 24 != 0 && 100 ≤ (wAt ws 1).toNat }
/-- The check of AADC_TRIM_SET's words. -/
def infoAadc (ws : List Word) : RecInfo :=
  let k := fieldOf (wAt ws 0) 8 8
  let t := signedOf (fieldOf (wAt ws 1) 15 0) 16
  { res := fieldOf (wAt ws 0) 1 0 + 4 * k
    ok := ws.length == 2 && onlyFields ws [[(1, 0), (8, 8)], [(15, 0)]]
      && t.natAbs ≤ (if k = 0 then 1311 else 64) }

/-- TIME_CONFIG. -/
def bodyTimeConfig (g : Goruz) (s : State) : Res := stageBody 0x0901 (infoTime s g.words) g s
/-- AADC_TRIM_SET. -/
def bodyAadcTrimSet (g : Goruz) (s : State) : Res := stageBody 0x0909 (infoAadc g.words) g s

/-- AADC_TRIM_GET. -/
def bodyAadcTrimGet (g : Goruz) (s : State) : Res :=
  let n := gf g 1 1 0
  let k := gf g 1 8 8
  if !onlyFields g.words [[(1, 0), (8, 8)]] then fails .badParam s
  else .now .ok [i32 (if k = 0 then 65536 + factoryOf s 0x10 n else factoryOf s 0x11 n), i32 (aadcTrim s n k),
    i32 (if k = 0 then aadcGain s n else aadcOffset s n)] s

/-- KEEP_TIME_STATE. -/
def timeStateW (s : State) : Word :=
  wordOf [(timeState s, 0), (getF F.keepTimeState_source_ok 0 s, 3), (timeSource s, 4), (b2n (glideEff s), 6), (ptpPort s, 7),
    (getF F.keepTimeState_agree 0 s, 8)]
/-- KEEP_TIME_CFG. -/
def timeCfgW (s : State) : Word := wordOf [(jumpNs s, 0), (servoTc s, 16), (paramF s 0x0901 0 1 17 16, 22)]
/-- The counters at 0x4C30 to 0x4C38. -/
def timeCntW (s : State) (k : Nat) : Word := match k with
  | 0 => w32 (getF F.keepTimeCntSync_syncs 0 s)
  | 1 => wordOf [(getF F.keepTimeCntEvt_refused 0 s, 0), (getF F.keepTimeCntEvt_steps 0 s, 16)]
  | _ => wordOf [(getF F.keepTimeCntFree_losses 0 s, 0), (getF F.keepTimeCntFree_changes 0 s, 16)]

/-- The master that TIME_STATUS reports (R449). -/
def timeMaster (s : State) : Nat :=
  match timeSource s with
  | 0 => 0
  | 2 => paramF s 0x0504 0 2 16 0
  | _ => s.time.master

/-- TIME_STATUS. -/
def bodyTimeStatus (_ : Goruz) (s : State) : Res :=
  .now .ok [wordAt s.time.ns 0, wordAt s.time.ns 1, timeStateW s, i32 (rateAdj s), w32 (getF F.keepTimeOffset_last_offset 0 s),
    timeCfgW s, timeCntW s 0, timeCntW s 1, timeCntW s 2, wordAt (timeMaster s) 0, wordAt (timeMaster s) 1] s

/-- TIME_SET (R429, R450): with source HOST it is also a sync, whose offset the step has taken up. (DEDUCED, log 49.) -/
def bodyTimeSet (g : Goruz) (s : State) : Res :=
  if timeSource s != 0 && timeState s != 0 then fails .notPermitted s
  else
    let d : Int := (ofWords (g.words.take 2) : Nat) - (s.time.ns : Int)
    let s := stepTime d 2 s
    if timeSource s != 0 then .now .ok [] s
    else
      let s := s |> count F.keepTimeCntSync_syncs 0 |> histAdd 16 (offsetBin 0) 1 |> setF F.keepTimeOffset_last_offset 0 0
        |> setF F.keepTimeState_source_ok 0 1
      let s := timeLock (rateAdj s) 0 s
      .now .ok [] { s with time := { s.time with lastSync := some s.time.ns, lastGlide := glideNow s } }

/-- TIME_OFFSET (R423, R450). (DEDUCED, log 49.) -/
def bodyTimeOffset (g : Goruz) (s : State) : Res :=
  if timeSource s != 0 then fails .notPermitted s
  else .now .ok [] (timeSync (signedOf (gw g 1).toNat 32) s)

/-- TIME_ACCEPT (R428, R429, R450). -/
def bodyTimeAccept (_ : Goruz) (s : State) : Res :=
  if glideEff s then fails .notPermitted s
  else if timeState s != 4 then .now .okAlready [0, 0] s
  else
    let o := s.time.heldOffset
    let s := timeLock (rateAdj s) o (stepTime o 1 s)
    let u := unsignedOf o 64
    .now .ok [wordAt u 0, wordAt u 1] { s with time := { s.time with lastSync := some s.time.ns, heldOffset := 0 } }

/-- TIME_TSQ_FETCH (R432, R449). -/
def bodyTimeTsqFetch (g : Goruz) (s : State) : Res :=
  let n := gf g 1 4 0
  if !onlyFields g.words [[(4, 0)]] || n = 0 || 16 < n then fails .badParam s
  else
    let xs := s.time.tsq.take n
    let lost := min 65535 (getF F.linkTsqOvf_ovf 0 s)
    .now .ok (wordOf [(xs.length, 0), (lost, 16)] :: xs.flatMap tsqWords)
      (setF F.linkTsqOvf_ovf 0 0 { s with time := { s.time with tsq := s.time.tsq.drop n } })

end Sys2Proof.Machine
end

