-- ==== Sys2Proof/Machine/Slalom.lean ====
section
/-! DEFINITION. Slalom: templates, cells and channels, the uncertainty of neighbours, sync states, the slots in processing and the
contacts with sampled neighbours (R267 to R299). -/

namespace Sys2Proof.Machine
open Sys2Proof

/-! Timing states (R293 to R296). -/

/-- Enter a timing state; DESYNC, LOST_PHASE and NO_CHANNEL are raised on entry (R293, R295, R296). -/
def setTiming (h st : Nat) (s : State) : State :=
  match nbr s h with
  | none => s
  | some n =>
    if n.b.timing = st then s
    else
      let s := modBerth h (fun b => { b with timing := st }) s
      let ev (e : Nat × Nat) (s : State) : State := raiseOnce e 0 (fun k => [(h, 17), (min k 65535, 16)]) s
      if st = 2 then ev Ev.linkNbrDesync s
      else if st = 7 then ev Ev.linkNbrLostPhase s
      else if st = 3 then ev Ev.linkNbrNoChannel s
      else s

/-- The flows of a neighbour are parked with the scheduler, or unparked: a flow that wakes takes its virtual time (R295, R343,
R350). -/
def parkFlows (h : Nat) (park : Bool) (s : State) : State :=
  (List.range 4).foldl (fun s c =>
    let f := flow s h c
    if f.parked = park then s
    else
      let s := modFlow h c (fun f => { f with parked := park }) s
      if park || f.frames.isEmpty then s else flowWake h c s) s

/-- The neighbour's CSL channel names a channel of a committed plan (R296). -/
def cslChannelOk (s : State) (plan ch : Nat) : Bool := decide (ch < planCount s plan)

/-- The timing state follows from what the record holds (R293, R296). -/
def evalTiming (h k : Nat) (s : State) : State :=
  match nbr s h with
  | none => s
  | some n =>
    if n.b.sampled then (if n.b.timing = 7 || n.b.timing = 3 then s else setTiming h (cslTiming s n.b) s)
    else setTiming h (schedTiming s n.b k) s

/-- A synchronising event of a neighbour (R292, R293, R295). -/
def syncEvent (h : Nat) (s : State) : State :=
  match nbr s h with
  | none => s
  | some n =>
    let lost := n.b.sampled && n.b.timing == 7
    let st := if n.b.sampled then (if n.b.timing = 3 then 3 else 4) else 0
    let b := { n.b with sync := s.time.ns, misses := 0, timing := st }
    let s := setNbr h { n with fullFails := 0, refusals := 0, dirty := true, used := true, b := b } s
    if lost then parkFlows h false s else s

/-- LOST_PHASE (R295). -/
def losePhase (h : Nat) (s : State) : State := parkFlows h true (setTiming h 7 s)

/-- A contact's data attempt has received no acknowledgement (R293, R295). (DEDUCED, log 61.) -/
def missContact (h : Nat) (full : Bool) (s : State) : State :=
  match nbr s h with
  | none => s
  | some n =>
    let s := count F.linkSlmCntCslMiss_missed_contacts 0 s
    let fails := if full then n.fullFails + 1 else n.fullFails
    let s := setNbr h { n with fullFails := fails, refusals := 0, dirty := true, b := { n.b with misses := min 15 (n.b.misses + 1) } } s
    if 3 ≤ fails then losePhase h s else evalTiming h 0 s

/-- A full-period contact is refused by the budget (R294, R295). -/
def budgetSkip (h : Nat) (s : State) : State :=
  match nbr s h with
  | none => s
  | some n =>
    let s := count F.linkSlmCntSkip_budget_skip 0 s
    if n.fullFails = 0 && fullBudget s != 0 then s
    else
      let s := setNbr h { n with refusals := n.refusals + 1 } s
      if 3 ≤ n.refusals + 1 then losePhase h s else s

/-- Airtime of full-period wake-ups in the last 3,600 s, in µs (R294). -/
def fullUsed (s : State) (n : Nbr) : Nat :=
  ((n.wakes.filter (fun w => decide (s.time.ns < w.1 + 3600000000000))).map (·.2)).sum

/-! Following time over the air (R297, R298). -/

/-- u_self in whole µs as an event carries it. (DEDUCED, log 51.) -/
def uSelfUs (s : State) : Nat := min (uSelf s / 1000) (2 ^ 32 - 1)

/-- What the sync state ends as it is entered (R298): in LOST and RESCAN no TSCH transmission is made, in RESCAN no contact. -/
def syncStop (s : State) : State :=
  if !follower s || syncState s < 2 then s
  else { s with slm := { s.slm with
    offers := s.slm.offers.filter (fun o => o.prep)
    contacts := s.slm.contacts.filter (fun c => syncState s == 2 || c.stage == 2 || decide (c.tnom - c.uw ≤ s.time.ns)) } }

/-- LOST is entered once u_self has reached half the smallest guard (R298). (DEDUCED, log 51.) -/
def syncCheck (s : State) : State :=
  if follower s && syncState s = 1 && guardMin s ≤ 2 * uSelf s then
    let u := uSelfUs s
    { s with slm := { s.slm with fromLost := true } } |> setSync (if autoRescan s then 3 else 2)
      |> raise Ev.linkSyncLost [(u, 32), (b2n (autoRescan s), 1)] |> syncStop
  else s

/-- SYNCED follows the agreement of keep time after LOST (R298). `o` is the offset applied. (DEDUCED, log 51.) -/
def syncAgree (o : Int) (s : State) : State :=
  if follower s && s.slm.fromLost && syncState s = 1 && timeState s = 1 then
    { s with slm := { s.slm with fromLost := false } } |> setSync 0
      |> raise Ev.linkSyncRegained [(parentOf s, 17), (s.slm.asn.getD 0, 40), (unsignedOf o 32, 32)]
  else s

/-- A sync with the time parent: an enhanced beacon accepted from it, or its Time Correction; `o` is the offset for keep time
(R297, R298, R423). -/
def parentSync (o : Int) (s : State) : State :=
  let st := syncState s
  let s := { s with slm := { s.slm with parentSync := some s.time.ns } } |> setF F.linkSlmStatus_missed_eb 0 0
  let s := if st = 1 && !s.slm.fromLost then setSync 0 s
    else if 2 ≤ st then setSync 1 { s with slm := { s.slm with fromLost := true } }
    else s
  syncAgree o (if timeSource s = 2 then timeSync o s else s)

/-- EB_MISSED (R297, R298, R427): the earliest TIMEKEEPING expectation that a listener holds passes without its beacon.
(DEDUCED, log 51.) -/
def execEbMissed (s : State) : Host.Outcome State Fault Refusal :=
  match s.slm.expects.find? (fun x => x.keeping && x.listener.isSome) with
  | none => done s s
  | some x =>
    if !follower s then done s s
    else
      let s1 := waitKeep (x.mid + x.half) s
      let m := min 255 (getF F.linkSlmStatus_missed_eb 0 s + 1)
      let s1 := { s1 with slm := { s1.slm with expects := s1.slm.expects.filter (fun y => y != x) } }
        |> setF F.linkSlmStatus_missed_eb 0 m |> count F.linkSlmCntEb_eb_missed 0
      if m = 3 && syncState s = 0 then
        let s2 := timeLoss (setSync 1 s1)
        done s (syncCheck (raise Ev.linkSyncWeak [(parentOf s, 17), (m, 8), (uSelfUs s2, 32)] s2))
      else done s (syncCheck (if m = 3 then timeLoss s1 else s1))

/-! Cells and channels (R272 to R275). -/

/-- The channel of a cell in slot n (R272): its plan and number. -/
def cellChan (s : State) (k n choff : Nat) : Nat × Nat :=
  let i := sfHop s k
  (hopPlan s i, hopEntry s i (if hopLen s i = 0 then 0 else (n + choff) % hopLen s i))

def Cell.tx (c : Cell) : Bool := bitOf c.opts 0
def Cell.rx (c : Cell) : Bool := bitOf c.opts 1
def Cell.shared (c : Cell) : Bool := bitOf c.opts 2
def Cell.keeping (c : Cell) : Bool := bitOf c.opts 3
def Cell.beacon (c : Cell) : Bool := bitOf c.opts 4

/-- The cell's neighbour is one that cells serve: it is live and scheduled (R273). -/
def cellServes (s : State) (h : Nat) : Bool := match nbr s h with
  | some n => !n.quarantined && !n.b.sampled
  | none => false

/-- Installed cells that are active in slot n (R271, R273, R283). -/
def installedIn (s : State) (n : Nat) : List Cell :=
  s.slm.cells.filter (fun c => sfEnabled s c.sf && sfLength s c.sf != 0 && n % sfLength s c.sf == c.off && decide (c.since ≤ n)
    && (match c.until' with
      | some u => decide (n < u)
      | none => true)
    && (match c.handle with
      | some h => cellServes s h
      | none => true))

/-- The AutoTxCells of slot n (R274). -/
def autoTxIn (s : State) (n : Nat) : List Cell :=
  match autoFrame s with
  | none => []
  | some k =>
    (s.nbrs.filter (fun e => cellServes s e.1 && sfLength s k != 0 && n % sfLength s k == (autoOffsets s k e.2.b.ext).1)).map
      (fun e => { sf := k, off := (autoOffsets s k e.2.b.ext).1, choff := (autoOffsets s k e.2.b.ext).2, opts := 5, handle := some e.1, since := 0 })
/-- The AutoRxCell of slot n (R274). -/
def autoRxIn (s : State) (n : Nat) : List Cell :=
  match autoFrame s with
  | none => []
  | some k =>
    let o := autoOffsets s k (ownExt s)
    if sfLength s k != 0 && n % sfLength s k == o.1 then
      [{ sf := k, off := o.1, choff := o.2, opts := 6, handle := none, since := 0 }] else []

/-- Cells that break a gap and that contacts may not blank: dedicated RX and TIMEKEEPING (R286, R290). -/
def rxProtected (c : Cell) : Bool := c.rx && (c.keeping || (!c.shared && c.handle.isSome))

/-! The window-fit rule (R284). -/

/-- The mode of an acknowledgement (R250). -/
def ackMode (m : Nat) : Nat := if isGt m then 0x42 + 8 * ofdmOption m else m
/-- What a transmission needs of a slot's window. -/
def needSlot (s : State) (k mode air : Nat) (ack : Bool) : Nat :=
  air + (if ack then txAckDelay s k + ackWaitNs s k / 2 + airtimeNs s (ackMode mode) (ackOctets s k) none else 0) + endGuard s k
/-- A transmission fits a cell of a slotframe. -/
def fitsSlot (s : State) (k mode air : Nat) (ack : Bool) : Bool :=
  decide (needSlot s k mode air ack + txOffset s k ≤ tmplNs s k 1 31 16)
/-- ack_turnaround_us and ack_guard_us in ns (R264). -/
def ackTurn (s : State) : Nat := 1000 * paramF s 0x06C0 0 4 12 0
def ackGuardNs (s : State) : Nat := 10000 * paramF s 0x06C0 0 4 23 16
/-- A transmission fits a contact's window, `used` of which has passed (R284, R289). -/
def fitsContact (s : State) (mode air used : Nat) : Bool :=
  decide (used + air + ackTurn s + ackGuardNs s + airtimeNs s (ackMode mode) 24 none + 100000 ≤ cslWindow s)
/-- The head of a flow fits a slot of a slotframe. -/
def headFitsSlot (s : State) (k : Nat) (n : Nbr) (q : QFrame) : Bool := fitsSlot s k (dataMode s n.b).1 (frameAir s n q) true
/-- The slotframes that hold a TX cell open to a neighbour (R285). -/
def openFrames (s : State) (h : Nat) : List Nat :=
  (sfList s).filter (fun k => sfAuto s k || s.slm.cells.any (fun c => c.sf == k && c.tx && !c.beacon && c.until'.isNone
    && (c.handle == some h || c.handle.isNone)))
/-- The head fits some window that is open to its neighbour; where none is open it waits (R285). -/
def headFitsSome (s : State) (h : Nat) (n : Nbr) (q : QFrame) : Bool :=
  if n.b.sampled then fitsContact s (dataMode s n.b).1 (frameAir s n q) 0
  else (openFrames s h).isEmpty || (openFrames s h).any (fun k => headFitsSlot s k n q)
/-- Heads that fit no window complete with OVERSIZE_FOR_SCHEDULE as they become heads (R285). -/
def dropOversize (h : Nat) (s : State) : State :=
  (List.range 4).foldl (fun s c => match nbr s h with
    | none => s
    | some n => (match (flowOf n.b c).frames with
      | q :: _ => if (flowOf n.b c).busy || headFitsSome s h n q then s else completeHead h c 5 s
      | [] => s)) s

/-! Emitters, listeners and intervals (R276 to R279, R290). -/

/-- A band at a centre is within an emitter's reach on a port (R143). -/
def emReaches (s : State) (p khz mode : Nat) : Bool := bandOk (loKhz s p) p (2 * khz) (modeWidth mode)
/-- Time from the preparation point to the first chip, and from the last chip to the receive state, of a port (R157). -/
def prepNs (s : State) (p : Nat) : Nat := rampNs s p + leadNs s p + 50000
def tailNs (s : State) (p : Nat) : Nat := rampNs s p + settleNs s p
/-- Two intervals share a moment. -/
def meet (a b c d : Nat) : Bool := decide (a < d) && decide (c < b)
/-- The interval of a slot's transmission: from its preparation point to its end. -/
def offerSpan (s : State) (o : SlotTx) : Nat × Nat := (o.start - prepNs s o.port, o.start + o.air + tailNs s o.port)
/-- The interval that a contact takes its emitter for. -/
def contactSpan (s : State) (c : Contact) : Nat × Nat := (c.tnom - c.uw - prepNs s c.port, max c.ackEnd c.start + tailNs s c.port)
/-- What has been admitted: slot transmissions, and immediate ones that have their place (R276, R460). -/
def admitted (s : State) : List SlotTx := s.slm.offers.filter (fun o => o.emitter.isSome) ++ s.net.imms.filterMap (·.tx)
/-- An emitter is free for an interval of keep time (R276, R290): no admitted transmission, no contact, no test tone. -/
def emFree (s : State) (e a b : Nat) : Bool :=
  (em s e).tone.isNone
    && !(admitted s).any (fun o => o.emitter == some e && meet a b (offerSpan s o).1 (offerSpan s o).2)
    && !s.slm.contacts.any (fun c => c.emitter == e && meet a b (contactSpan s c).1 (contactSpan s c).2)
/-- The lowest bound emitter of a port that is free for an interval. -/
def freeEmitter (s : State) (p a b : Nat) : Option Nat := (portEms s p).find? (fun e => emFree s e a b)

/-- The fixed listener that hears a channel of a port (R178, R279). -/
def fixedHears (s : State) (p khz w : Nat) : Option Nat :=
  (List.range 64).find? (fun n => lstKind s n == 1 && lstPort s n == p && !lstRetired s n
    && bandsMeet (2 * khz) w (2 * lstKhz s n) (lstWidth s n))
/-- Listeners that an acknowledgement window of another channel holds in an interval (R279). -/
def ackHolds (s : State) (n khz a b : Nat) : Bool :=
  (admitted s).any (fun o => o.listener == some n && o.khz != khz && meet a b o.ackFrom o.ackTo)
    || s.slm.contacts.any (fun c => c.listener == some n && c.khz != khz && meet a b (contactSpan s c).1 (contactSpan s c).2)
/-- The pool listeners of a port that may hear a channel, of one pool where it is given: reachable, not covered (R177, R178).
(DEDUCED, log 53.) -/
def poolFor (s : State) (p khz : Nat) (pool : Option Nat) : List Nat :=
  (List.range 64).filter (fun n => lstKind s n == 2 && lstPort s n == p && !lstRetired s n && chanClass s p khz (lstWidth s n) == 0
    && (match pool with
      | some k => lstPool s n == k
      | none => true))
/-- The listener that an acknowledgement window of a channel is given (R276, R279): a fixed one that hears it, one that holds it,
or one that the assignment of a slot ahead can still give it, those of `keep` last. (DEDUCED, log 53.) -/
def ackListener (s : State) (p khz w a b : Nat) (pool : Option Nat) (keep : List Nat) : Option Nat :=
  match fixedHears s p khz w with
  | some n => some n
  | none =>
    let l := (poolFor s p khz pool).filter (fun n => !ackHolds s n khz a b)
    match l.find? (fun n => lstKhz s n == khz) with
    | some n => some n
    | none => if slmRunning s && decide (slotAt s (nextAsn s) + 50000 ≤ a) then
        (match l.find? (fun n => !keep.contains n) with
          | some n => some n
          | none => l.head?)
      else none

/-- A transmission on port p at a centre and width blanks a listener (R158, R160, R161). -/
def blanksLst (s : State) (p khz w n : Nat) : Bool :=
  (lstPort s n == p && (!splitAerial s p || bandsMeet (2 * lstKhz s n) (lstWidth s n + 2000) (2 * khz) w))
    || (lstPort s n != p && xportBlanks s p (lstPort s n))

/-- R277: no acknowledgement window already admitted is blanked, and the transmission's own window is not blanked. -/
def blankFits (s : State) (o : SlotTx) (own : Option Nat) : Bool :=
  let adm := admitted s
  let sp := offerSpan s o
  let w := modeWidth o.mode
  !adm.any (fun x => match x.listener with
      | some n => meet sp.1 sp.2 x.ackFrom x.ackTo && blanksLst s o.port o.khz w n
      | none => false)
    && !s.slm.contacts.any (fun c => match c.listener with
      | some n => meet sp.1 sp.2 c.start c.ackEnd && blanksLst s o.port o.khz w n
      | none => false)
    && (match own with
      | none => true
      | some n => !adm.any (fun x => meet o.ackFrom o.ackTo (offerSpan s x).1 (offerSpan s x).2
            && blanksLst s x.port x.khz (modeWidth x.mode) n)
        && !s.slm.contacts.any (fun c => meet o.ackFrom o.ackTo (c.tnom - c.uw - prepNs s c.port) c.start && blanksLst s c.port c.khz 0 n))

/-- A port's gap is claimed over an interval (R286). -/
def gapClaimed (s : State) (p a b : Nat) : Bool := match tabFind s.slm.claims p with
  | some (x, y) => meet a b x y
  | none => false

/-- The receive windows of dedicated RX and TIMEKEEPING cells on a port that meet an interval (R286, R290). -/
def protectedIn (s : State) (p a b : Nat) : Bool :=
  slmRunning s && (List.range (min 128 ((b - a) / slotNs s + 3))).any (fun i =>
    let n := asnFrom s a - 1 + i
    (installedIn s n).any (fun c =>
      let k := c.sf
      let m := slotAt s n + txOffset s k
      rxProtected c && planPort s (cellChan s k n c.choff).1 == p && meet a b (m - rxWaitMax s k / 2) (m + rxWaitMax s k / 2)))

/-! Slots (R268, R281 to R286, R299). -/

/-- Claims on berths whose cell or contact has passed are released; offers and expectations of past slots go (R282). -/
def slotPrune (s : State) : State :=
  let old := s.time.ns - slotNs s
  { s with
    slm := { s.slm with
      offers := s.slm.offers.filter (fun o => decide (old < max o.ackTo (o.start + o.air)))
      expects := s.slm.expects.filter (fun x => decide (old < x.mid + x.half))
      cells := s.slm.cells.filter (fun c => match c.until' with
        | some u => decide (s.slm.asn.getD 0 < u)
        | none => true) }
    nbrs := s.nbrs.map (fun e => (e.1, match e.2.claim with
      | some t => if t < s.time.ns then { e.2 with claim := none } else e.2
      | none => e.2)) }

/-- Boundaries are re-based after a keep time step (R299): after a forward step the slot in progress keeps its length, and the
boundaries that lie in the past then are passed over. -/
def rebase (s : State) : State :=
  match s.slm.stepped with
  | none => s
  | some d =>
    let s := { s with slm := { s.slm with stepped := none } }
    if d ≤ 0 || !slmRunning s then s
    else
      let first := nextAsn s
      let s := waitKeep (slotAt s first + d.toNat) s
      let n := asnFrom s s.time.ns
      if n ≤ first then s
      else
        { s with slm := { s.slm with asn := some (n - 1) } } |> countBy F.linkSlmCntSkip_slots_skipped 0 (n - first)
          |> raise Ev.linkSlotsSkipped [(first, 40), (n - first, 32)]

/-- SCHEDULE_REBASE (R299). -/
def execScheduleRebase (s : State) : Host.Outcome State Fault Refusal := done s (rebase s)

/-- SLOT_BOUNDARY (R268). -/
def execSlotBoundary (s : State) : Host.Outcome State Fault Refusal :=
  if !slmRunning s then done s s
  else
    let s1 := rebase s
    let n := nextAsn s1
    let s1 := waitKeep (slotAt s1 n) s1
    done s (syncCheck (slotPrune { s1 with slm := { s1.slm with asn := some (n % 2 ^ 40) } }))

/-- Wake what a transmission or a reception on a port needs (R66): the port, the blocks of its listeners, and the emitters. -/
def wakeAir (p : Nat) (s : State) : State :=
  let ds := [3 + p, 14] ++ ((List.range 8).filter (fun k => (List.range 8).any (fun i => lstKind s (8 * k + i) != 0
    && lstPort s (8 * k + i) == p))).map (· + 6)
  let need := ds.filter (fun d => domPresent s d && domState s d != 0)
  if need.isEmpty then s else blankRefresh (wakeAll 0x06 need s)

/-- A class-B request of the look-ahead for the berth of a cell or contact that falls due at an instant (R282, R318). -/
def lookRequest (h due : Nat) (s : State) : State :=
  match nbr s h with
  | none => s
  | some n =>
    s |> count F.linkSlmCntLookahead_berth_requests 0
      |> setNbr h { n with claim := some (match n.claim with | some t => min t due | none => due) }
      |> needBerth h 1

/-- The head frames of a neighbour that enters the look-ahead are asked for where a page of them is spilled (R321, R327).
(DEDUCED, log 95.) -/
def needHeads (h : Nat) (s : State) : State :=
  (List.range 4).foldl (fun s c => match (flow s h c).frames with
    | q :: _ => if q.spilled = 0 then s else countMiss 1 (if domOn s 25 then s else wake 0x05 25 s)
    | [] => s) s

/-- LOOKAHEAD_ENTRY (R282, R293): the next slot enters the look-ahead, 64 slots before its boundary. -/
def execLookaheadEntry (s : State) : Host.Outcome State Fault Refusal :=
  if !slmRunning s then done s s
  else
    let base := nextAsn s
    let n := max base ((match s.slm.look with | some l => l + 1 | none => base))
    let s1 := waitKeep (slotAt s n - 64 * slotNs s) s
    let inst := installedIn s1 n
    let named := inst.filter (fun c => c.keeping || (!c.shared && c.handle.isSome)) ++ autoTxIn s1 n
    let s1 := (inst ++ autoTxIn s1 n).foldl (fun s c => match c.handle with
      | some h => evalTiming h c.sf s
      | none => s) s1
    let s1 := named.foldl (fun s c => match c.handle with
      | some h => needHeads h (lookRequest h (slotAt s n) s)
      | none => s) s1
    let ports := (inst ++ autoTxIn s1 n ++ autoRxIn s1 n).map (fun c => planPort s1 (cellChan s1 c.sf n c.choff).1)
    let s1 := ((List.range 3).filter (fun p => ports.contains p)).foldl (fun s p => wakeAir p s) s1
    done s { s1 with slm := { s1.slm with look := some n } }

/-- A TX cell may be used in the present sync state (R298, R300). -/
def txSyncOk (s : State) (c : Cell) : Bool :=
  if !follower s || syncState s = 0 then true
  else syncState s = 1 && !c.shared && !c.beacon && decide (4 * uSelf s < rxWait s c.sf)

/-- The order of R276: slotframe, dedicated before shared with BEACON cells before all shared ones, handle. -/
def cellRank (c : Cell) : Nat := (c.sf * 4 + (if c.beacon then 1 else if c.shared then 2 else 0)) * 2 ^ 18 + c.handle.getD (2 ^ 17)

/-- The lantern's frame: octets of its PSDU (R300). It carries no sequence number. (PRESUMED, log 38.) -/
def beaconOctets (s : State) : Nat :=
  let hops (k : Nat) : Nat := 10 + 2 * hopLen s (sfHop s k)
  let frames := (sfList s).filter (fun k => sfF s k 1 10 10 = 1)
  let links (k : Nat) : Nat := (s.slm.cells.filter (fun c => c.sf == k && c.handle.isNone)).length + b2n (sfAuto s k)
  let sec := if paramF s 0x0506 0 1 8 8 = 1 then
      (match keyOf s (lanternRef s % 8192) with
        | some k => auxOctets k.idMode + micOctets (paramF s 0x0506 0 1 11 9)
        | none => 0) else 0
  12 + 2 + 2 + 8 + 27 + 2 + (match sfList s with | k :: _ => hops k | [] => 0)
    + 3 + (frames.map (fun k => 4 + 5 * links k)).sum + 4 * paramF s 0x0506 0 2 31 24 + sec
    + fcsOctets (paramF s 0x0506 0 1 7 0)
/-- The lantern is configured. -/
def lanternOn (s : State) : Bool := (paramOpt s 0x0506 0).isSome

/-- A shared cell to a neighbour in backoff passes: the count falls (R275). -/
def backoffPass (hs : List Nat) (s : State) : State :=
  hs.foldl (fun s h => modNbr h (fun n => { n with backoff := n.backoff - 1 }) s) s

/-- The transmission of a cell once its flow is chosen. -/
def cellTx (s : State) (n : Nat) (c : Cell) (h : Option Nat) (cls mode air : Nat) (urgent : Bool) : SlotTx :=
  let ch := cellChan s c.sf n c.choff
  let st := slotAt s n + txOffset s c.sf
  let fin := st + air
  { asn := n, sf := c.sf, handle := h, cls := cls, beacon := c.beacon, shared := c.shared, port := planPort s ch.1,
    khz := chanKhz s ch.1 ch.2, plan := ch.1, channel := ch.2, mode := mode, start := st, air := air,
    ackFrom := if c.beacon then fin else fin + txAckDelay s c.sf - ackWaitNs s c.sf / 2,
    ackTo := if c.beacon then fin else fin + txAckDelay s c.sf + ackWaitNs s c.sf / 2, urgent := urgent }

/-- The neighbours whom a lower slotframe's named RX cell takes in slot n (R275). -/
def rxTakes (s : State) (n h k : Nat) : Bool := (installedIn s n).any (fun c => c.rx && c.handle == some h && decide (c.sf < k))

/-- The neighbours that a TX cell other than a beacon's may serve in slot n, and the state in which their heads are weighed (R275, R293,
R325): those in DESYNC and those in backoff pass, a berth that is not resident is asked for, and a head too long for every window
completes. -/
def cellReady (n : Nat) (c : Cell) (s : State) : State × List Nat :=
  let taken (h : Nat) : Bool := s.slm.offers.any (fun o => o.asn == n && o.handle == some h) || rxTakes s n h c.sf
  let hs := match c.handle with
    | some h => if taken h then [] else [h]
    | none => (s.nbrs.filter (fun (e : Nat × Nbr) => cellServes s e.1 && !taken e.1
        && !(installedIn s n).any (fun d => d.handle == some e.1) && !(autoTxIn s n).any (fun d => d.handle == some e.1))).map (fun (e : Nat × Nbr) => e.1)
  let des := hs.filter (fun h => match nbr s h with
    | some x => x.b.timing == 2 && pendBit s h
    | none => false)
  let s := if des.isEmpty then s else countBy F.linkSlmCntEmitter_desync_skip 0 des.length s
  let hs := hs.filter (fun h => !des.contains h)
  let wait := if c.shared then hs.filter (fun h => match nbr s h with
    | some x => x.backoff != 0 && pendBit s h
    | none => false) else []
  let s := backoffPass wait s
  let hs := hs.filter (fun h => !wait.contains h)
  let gone := hs.filter (fun h => pendBit s h && !resident s h)
  let s := gone.foldl (fun s h => skipFlows h s) s
  (hs.foldl (fun s h => if resident s h then dropOversize h s else s) s, hs)

/-- The flows of neighbours. -/
def flowsOf (hs : List Nat) : List (Nat × Nat) := hs.flatMap (fun h => (List.range 4).map (fun k => (h, k)))

/-- The scheduler's choice for a cell of slot n (R284, R344, R348). (DEDUCED, log 95.) -/
def cellPick (s : State) (n : Nat) (c : Cell) (hs : List Nat) : Pick :=
  let ch := cellChan s c.sf n c.choff
  let st := slotAt s n + txOffset s c.sf
  let lis := ackListener s (planPort s ch.1) (chanKhz s ch.1 ch.2) 0 st (st + slotNs s) (some (sfPool s c.sf)) []
  choose s { fits := fun _ _ x q => headFitsSlot s c.sf x q, charged := fun _ => lis.getD 0 } (flowsOf hs)

/-- The transmission of a head in a cell of slot n is offered, unless a claimed gap lies in it (R284, R286). (DEDUCED, log 95.) -/
def offerHead (n : Nat) (c : Cell) (h k : Nat) (urgent : Bool) (s : State) : State :=
  match nbr s h with
  | none => s
  | some x =>
    match (flowOf x.b k).frames with
    | [] => s
    | q :: _ =>
      let o := cellTx s n c (some h) k (dataMode s x.b).1 (frameAir s x q) urgent
      if gapClaimed s o.port (offerSpan s o).1 (max (offerSpan s o).2 o.ackTo) then s
      else { s with slm := { s.slm with offers := s.slm.offers ++ [o] } }

/-- One TX cell of the slot is offered to the scheduler (R276, R284, R285, R344). -/
def offerCell (n : Nat) (s : State) (c : Cell) : State :=
  let p := planPort s (cellChan s c.sf n c.choff).1
  let st := slotAt s n + txOffset s c.sf
  if !txSyncOk s c || gapClaimed s p (st - prepNs s p) (st + 1) then s
  else if c.beacon then
    if lanternOn s && txOpen s && (!follower s || syncState s = 0) then
      let m := paramF s 0x0506 0 1 7 0
      { s with slm := { s.slm with offers := s.slm.offers ++ [cellTx s n c none 0 m (airtimeNs s m (beaconOctets s) none) false] } }
    else s
  else
    let r := cellReady n c s
    let pk := cellPick r.1 n c r.2
    let s := countPick pk r.1
    match pk.flow with
    | none => if (flowsOf r.2).any (fun x => eligible s x.1 x.2) then count F.linkSlmCntFit_fit_skip 0 s else s
    | some (h, k) => offerHead n c h k pk.urgent s

/-- The TX cells of slot n in the order in which they are admitted (R276). -/
def txCells (s : State) (n : Nat) : List Cell :=
  ((installedIn s n).filter (·.tx) ++ autoTxIn s n).mergeSort (fun a b => decide (cellRank a ≤ cellRank b))

/-- CELL_OFFER (R281, R284, R347): 300 µs before the next boundary the TX cells of its slot are offered; a round begins. -/
def execCellOffer (s : State) : Host.Outcome State Fault Refusal :=
  if !slmRunning s || !domOn s 18 then done s s
  else
    let n := nextAsn s
    let s1 := waitKeep (slotAt s n - 300000) s
    let s1 := urgentRound s1
    done s ((txCells s1 n).foldl (offerCell n) { s1 with slm := { s1.slm with offers := s1.slm.offers.filter (fun o => o.asn != n || o.contact) } })

/-! Channel assignment (R278 to R281). -/

/-- The receive window of an RX cell in slot n: expected first chip, half width (R293, R298). -/
def rxHalf (s : State) (c : Cell) : Nat :=
  let k := c.sf
  let widen := follower s && (syncState s = 1 || syncState s = 2)
  let w := match c.handle with
    | none => if widen then min (rxWaitMax s k) (rxWait s k + 2 * uSelf s) else rxWait s k
    | some h => (match nbr s h with
      | some x => (match schedTiming s x.b k with
        | 0 => rxWait s k
        | 1 => 2 * uncertainty s x.b
        | _ => rxWaitMax s k)
      | none => rxWait s k)
  w / 2

/-- The demands of slot n in the order of R279. -/
def demands (s : State) (n : Nat) : List Expect :=
  let one (rank : Nat) (c : Cell) : Expect :=
    let ch := cellChan s c.sf n c.choff
    { asn := n, sf := c.sf, rank := rank, port := planPort s ch.1, khz := chanKhz s ch.1 ch.2, plan := ch.1, channel := ch.2,
      handle := c.handle, keeping := c.keeping, mid := slotAt s n + txOffset s c.sf, half := rxHalf s c, ackDelay := txAckDelay s c.sf }
  let used (c : Cell) : Bool := match c.handle with
    | some h => !s.slm.offers.any (fun o => o.asn == n && o.handle == some h)
    | none => true
  let rx := (installedIn s n).filter (fun c => c.rx && used c)
  let best := rx.filter (fun c => match c.handle with
    | some h => !rx.any (fun d => d.handle == some h && (decide (d.sf < c.sf) || (d.sf == c.sf && c.shared && !d.shared)))
    | none => true)
  let acks := ((admitted s).filter (fun o => o.listener.isSome && decide (o.ackFrom < o.ackTo)
      && (o.asn == n || meet o.ackFrom o.ackTo (slotAt s n) (slotAt s n + slotNs s)))).map (fun o =>
    ({ asn := n, sf := o.sf, rank := 1, port := o.port, khz := o.khz, plan := o.plan, channel := o.channel, handle := o.handle,
       mid := (o.ackFrom + o.ackTo) / 2, half := (o.ackTo - o.ackFrom) / 2, ackDelay := 0, listener := o.listener } : Expect))
  let wide := (s.slm.expects.filter (fun x => x.keeping && x.asn + 1 == n && decide (rxWait s x.sf < 2 * x.half))).map
    (fun x => { x with asn := n, rank := 3, keeping := false })
  let byChan (l : List Expect) : List Expect := l.mergeSort (fun a b => decide (a.sf * 1024 + a.channel ≤ b.sf * 1024 + b.channel))
  if follower s && syncState s = 3 then []
  else byChan acks ++ byChan ((best.filter rxProtected).map (one 2)) ++ byChan wide
    ++ byChan ((best.filter (fun c => !rxProtected c) ++ autoRxIn s n).map (one 4))

/-- The pool listeners that already hold a channel that slot n demands (R279). -/
def keepers (s : State) (n : Nat) : List Nat :=
  let ds := demands s n
  (List.range 64).filter (fun i => lstKind s i == 2 && ds.any (fun x => x.port == lstPort s i && x.khz == lstKhz s i))

/-- Admission of one offer (R276, R277): the offer with its emitter and listener, or its counted refusal. -/
def admitOffer (s : State) (o : SlotTx) : State :=
  let keep (f : SlotTx → Option SlotTx) (s : State) : State :=
    { s with slm := { s.slm with offers := s.slm.offers.filterMap (fun x => if x == o then f x else some x) } }
  let sp := offerSpan s o
  let refuse (fld : Field) : State := count fld 0 (keep (fun _ => none) s)
  if !emReaches s o.port o.khz o.mode then refuse F.linkSlmCntUnheard_tx_unreachable
  else match freeEmitter s o.port sp.1 sp.2 with
    | none => refuse F.linkSlmCntEmitter_emitter_short
    | some e =>
      if o.beacon then
        if blankFits s o none then keep (fun x => some { x with emitter := some e }) s else refuse F.linkSlmCntWithdraw_blank_conflict
      else match ackListener s o.port o.khz (modeWidth o.mode) o.ackFrom o.ackTo (some (sfPool s o.sf)) (keepers s o.asn) with
        | none => refuse F.linkSlmCntUnheard_tx_unreachable
        | some n =>
          if blankFits s o (some n) then keep (fun x => some { x with emitter := some e, listener := some n }) s
          else refuse F.linkSlmCntWithdraw_blank_conflict

/-- TX_ADMISSION (R276, R281): 150 µs before the next boundary, port by port in the order of the offers. -/
def execTxAdmission (s : State) : Host.Outcome State Fault Refusal :=
  if !slmRunning s then done s s
  else
    let n := nextAsn s
    let s1 := waitKeep (slotAt s n - 150000) s
    let os := [0, 1, 2].flatMap (fun p => s1.slm.offers.filter (fun o => o.asn == n && o.port == p && o.emitter.isNone && !o.contact))
    done s (os.foldl admitOffer s1)

/-- A pool listener is assigned a channel for the next boundary; a change is a retune that is issued (R181, R281). (DEDUCED, log 54.) -/
def assignLst (n khz ch latest : Nat) (s : State) : State :=
  if (lst s n).khz = khz && (lst s n).next.isNone && khz != 0 then s
  else setLst n { lst s n with next := some (khz, ch, latest) } (count F.linkSlmCntRetune_retunes 0 s)

/-- The listener that a demand finds, among those still free of the pool of its slotframe; the rest (R279). A listener that holds
another demanded channel, one of `keep`, keeps it. (DEDUCED, log 54.) -/
def takeLst (s : State) (keep free : List Nat) (x : Expect) : Option Nat × List Nat :=
  match fixedHears s x.port x.khz 1 with
  | some n => (some n, free)
  | none =>
    let l := free.filter (fun n => (poolFor s x.port x.khz (some (sfPool s x.sf))).contains n)
    match l.find? (fun n => lstKhz s n == x.khz) with
    | some n => (some n, free.filter (· != n))
    | none => match l.find? (fun n => !keep.contains n) with
      | some n => (some n, free.filter (· != n))
      | none => (none, free)

/-- The rotation of a pool (R280): listeners left take the next channels of its list. (DEDUCED, log 54.) -/
def rotatePool (k latest : Nat) (held : List Nat) (free : List Nat) (s : State) : State :=
  match (sfList s).find? (fun f => sfPool s f == k), (poolLst s k).head? with
  | some f, some l0 =>
    let pl := hopPlan s (sfHop s f)
    let list := (List.range (planCount s pl)).filter (fun c => chanClass s (planPort s pl) (chanKhz s pl c) (lstWidth s l0) == 0)
    let r := free.foldl (fun (a : State × Nat × List Nat) n =>
      let (s, ptr, taken) := a
      let order := (List.range list.length).map (fun i => (ptr + i) % list.length)
      match order.find? (fun i => !taken.contains (chanKhz s pl (list.getD i 0))) with
      | some i =>
        let c := list.getD i 0
        (assignLst n (chanKhz s pl c) c latest s, (i + 1) % list.length, chanKhz s pl c :: taken)
      | none => a) (s, tabGet s.slm.rotation k 0, held)
    { r.1 with slm := { r.1.slm with rotation := tabSetN r.1.slm.rotation k r.2.1 } }
  | _, _ => s

/-- A blanking interval known before the slot covers an expectation (R278): an admitted transmission or a contact blanks its
listener, or a calibration or search has claimed its port. -/
def expectBlanked (s : State) (x : Expect) (n : Nat) : Bool :=
  let a := x.mid - x.half
  let b := x.mid + x.half
  (admitted s).any (fun o => meet a b (offerSpan s o).1 (offerSpan s o).2 && blanksLst s o.port o.khz (modeWidth o.mode) n)
    || s.slm.contacts.any (fun c => meet a b (c.tnom - c.uw - prepNs s c.port) (c.start + tailNs s c.port) && blanksLst s c.port c.khz 0 n)
    || gapClaimed s x.port a b

/-- The acknowledgement windows of contacts that a slot holds in part: demands of rank 1 on the listener given to each (R279). -/
def contactDemands (s : State) (n : Nat) : List Expect :=
  (s.slm.contacts.filter (fun c => c.listener.isSome
    && meet (contactSpan s c).1 (contactSpan s c).2 (slotAt s n) (slotAt s n + slotNs s))).map (fun c =>
    let b := match nbr s c.handle with
      | some x => (x.b.plan, x.b.channel)
      | none => (0, 0)
    { asn := n, sf := 8, rank := 1, port := c.port, khz := c.khz, plan := b.1, channel := b.2, handle := some c.handle,
      mid := c.start, half := 0, ackDelay := 0, listener := c.listener })

/-- CHANNEL_ASSIGNMENT (R278 to R281, R298): 100 µs before the next boundary. In RESCAN with no schedule running every pool listener
takes the next channel of its pool's rotation at once. -/
def execChannelAssignment (s : State) : Host.Outcome State Fault Refusal :=
  if !slmRunning s then
    (if follower s && syncState s = 3 then
      done s ((List.range 16).foldl (fun s k => rotatePool k s.time.ns [] (poolLst s k) s) s)
    else done s s)
  else
    let n := nextAsn s
    let s1 := waitKeep (slotAt s n - 100000) s
    let pools := (List.range 64).filter (fun i => lstKind s1 i == 2 && !lstRetired s1 i)
    let ds := contactDemands s1 n ++ demands s1 n
    let keep := keepers s1 n
    -- listeners given to acknowledgement windows keep their channel's claim; then ranks 2 to 4
    let step (a : List Expect × List Nat) (x : Expect) : List Expect × List Nat :=
      match x.listener, a.1.find? (fun y => y.khz == x.khz && y.port == x.port && y.listener.isSome) with
      | some l, _ => (a.1 ++ [x], a.2.filter (· != l))
      | none, some y => (a.1 ++ [{ x with listener := y.listener }], a.2)
      | none, none =>
        let r := takeLst s1 keep a.2 x
        (a.1 ++ [{ x with listener := r.1 }], r.2)
    let r := ds.foldl step ([], pools)
    let unheard := (r.1.filter (fun x => x.listener.isNone && (x.rank == 2 || x.rank == 4))).length
    let heard := r.1.filter (fun x => x.listener.isSome && x.rank != 3 && x.sf != 8)
    let gone := heard.filter (fun x => x.rank != 1 && (match x.listener with
      | some l => expectBlanked s1 x l
      | none => false))
    let s2 := if unheard = 0 then s1 else countBy F.linkSlmCntUnheard_rx_unheard 0 unheard s1
    let s2 := if gone.isEmpty then s2 else countBy F.linkSlmCntWithdraw_rx_withdrawn 0 gone.length s2
    let s2 := { s2 with slm := { s2.slm with expects := s2.slm.expects ++ heard.filter (fun x => !gone.contains x) } }
    let latest (i : Nat) : Nat :=
      let ws := (heard.filter (fun x => x.listener == some i && x.rank != 1)).map (fun x => x.mid - x.half)
      let k := (sfList s2).headD 0
      (match ws with
        | w :: t => t.foldl min w
        | [] => slotAt s n + txOffset s2 k - rxWaitMax s2 k / 2) - 50000
    let s2 := (r.1.filter (fun x => x.listener.isSome)).foldl (fun s x => match x.listener with
      | some l => if lstKind s l = 2 then assignLst l x.khz x.channel (latest l) s else s
      | none => s) s2
    let taken := (r.1.filter (fun x => x.listener.isSome)).map (·.khz)
    done s ((List.range 16).foldl (fun s k => rotatePool k (latest 64) taken (r.2.filter (fun i => lstPool s i == k)) s) s2)

/-! Contacts (R288 to R294). -/

/-- The first nominal sample instant at or after a keep time (R288). (DEDUCED, log 55.) -/
def nominalFrom (b : Berth) (t : Nat) : Nat :=
  let ms := (t + 999999) / 1000000
  1000000 * (ms + (b.phase + b.period - ms % b.period) % b.period)

/-- A contact at a nominal instant for a head of a given airtime, if R290 is met. (DEDUCED, log 53.) -/
def contactAt (s : State) (h cls : Nat) (b : Berth) (air tnom : Nat) (urgent : Bool) : Option Contact :=
  let khz := chanKhz s b.plan b.channel
  let p := planPort s b.plan
  let m := (dataMode s b).1
  let uw := halfWake s b
  let rdv := tnom + uw
  let fin := rdv + air + ackTurn s + ackGuardNs s
  let a := tnom - uw - prepNs s p
  let z := fin + tailNs s p
  if !cslChannelOk s b.plan b.channel || !emReaches s p khz m || tnom < uw + prepNs s p || gapClaimed s p a z then none
  else match freeEmitter s p a z, ackListener s p khz (modeWidth m) (rdv + air) fin none [] with
    | some e, some l =>
      let acks := (admitted s).any (fun o => (match o.listener with
          | some n => meet a (rdv + air) o.ackFrom o.ackTo && blanksLst s p khz (modeWidth m) n
          | none => false))
        || s.slm.contacts.any (fun c => match c.listener with
          | some n => meet a (rdv + air) c.start c.ackEnd && blanksLst s p khz (modeWidth m) n
          | none => false)
      if acks || (!splitAerial s p && protectedIn s p a (rdv + air)) then none
      else some { handle := h, tnom := tnom, uw := uw, full := cslTiming s b == 6, emitter := e, port := p, khz := khz, cls := cls,
                  stage := if b.period = 0 then 1 else 0, urgent := urgent, rdv := rdv, start := rdv, ackEnd := fin, listener := some l }
    | _, _ => none

/-- Search for a contact over nominal instants; the number passed over (R290, R291). (DEDUCED, log 55.) -/
def contactSearch (s : State) (h cls : Nat) (b : Berth) (air : Nat) (urgent : Bool) (t fin : Nat) : Nat → Nat × Option Contact
  | 0 => (0, none)
  | f + 1 =>
    if fin < t then (0, none)
    else match contactAt s h cls b air t urgent with
      | some c => (0, some c)
      | none =>
        let r := contactSearch s h cls b air urgent (t + (if b.period = 0 then 1000000 else cslPeriod b)) fin f
        (r.1 + 1, r.2)

/-- Place a contact with the flow chosen (R290 to R294). -/
def placeContact (h cls : Nat) (urgent : Bool) (s : State) : State :=
  match nbr s h with
  | none => s
  | some n =>
    match (flowOf n.b cls).frames with
    | [] => s
    | q :: _ =>
      let b := n.b
      let s := evalTiming h 0 s
      let uw := halfWake s b
      let full := cslTiming s b == 6
      let p := planPort s b.plan
      if full && fullBudget s < fullUsed s n + 2 * uw / 1000 then budgetSkip h s
      else
        let t0 := s.time.ns + uw + prepNs s p
        let t := if b.period = 0 then t0 else nominalFrom b t0
        let r := contactSearch s h cls b (frameAir s n q) urgent t (s.time.ns + lookSpan s) 65
        let s := if b.period = 0 || r.1 = 0 then s else countBy F.linkSlmCntCslMiss_csl_defer 0 r.1 s
        match r.2 with
        | none => s
        | some c => wakeAir c.port (needHeads h (lookRequest h c.tnom { s with slm := { s.slm with contacts := s.slm.contacts ++ [c] } }))

/-- The sampled neighbours that may have a contact placed, heads too long for every window completed and berths asked for; a round of
the scheduler begins where no schedule runs (R285, R290, R295, R325, R347). -/
def contactReady (s : State) : State × List Nat :=
  let s := if slmRunning s then s else urgentRound s
  let hs := (s.nbrs.filter (fun e => e.2.b.sampled && !e.2.quarantined && !phaseLost e.2.b
    && !s.slm.contacts.any (fun c => c.handle == e.1))).map (·.1)
  (hs.foldl (fun s h => if resident s h then dropOversize h s else if pendBit s h then skipFlows h s else s) s, hs)
/-- The scheduler's choice among their flows (R344, R348). -/
def contactPick (s : State) (hs : List Nat) : Pick :=
  choose s {
    fits := fun _ _ n q => fitsContact s (dataMode s n.b).1 (frameAir s n q) 0
    charged := fun h => match nbr s h with
      | some n => (ackListener s (planPort s n.b.plan) (chanKhz s n.b.plan n.b.channel) 0 (2 ^ 63) (2 ^ 63) none []).getD 0
      | none => 0 } (flowsOf hs)

/-- CONTACT_PLACEMENT (R290, R344): the sampled neighbour whose head the scheduler gives next, of those without a contact. -/
def execContactPlacement (s : State) : Host.Outcome State Fault Refusal :=
  if !getB F.keepTimeState_source_ok 0 s || !domOn s 15 || !domOn s 18 || (follower s && syncState s = 3) then done s s
  else
    let r := contactReady s
    let pk := contactPick r.1 r.2
    let s1 := countPick pk r.1
    match pk.flow with
    | some (h, k) => done s (placeContact h k pk.urgent s1)
    | none => done s (if (flowsOf r.2).any (fun x => eligible s1 x.1 x.2) then count F.linkSlmCntFit_fit_skip 0 s1 else s1)

end Sys2Proof.Machine
end

