-- ==== Sys2Proof/Machine/Sched.lean ====
section
/-! DEFINITION. Slalom's gaps, registers, parameters and commands (R149, R165, R286, R301 to R305). -/

namespace Sys2Proof.Machine
open Sys2Proof

/-! Gaps (R286). -/

/-- What breaks a gap on a port: transmissions with their acknowledgement windows, contacts, and the receive windows of
dedicated RX and TIMEKEEPING cells of the look-ahead. -/
def busySpans (s : State) (p : Nat) : List (Nat × Nat) :=
  let tx := ((s.slm.offers ++ s.net.imms.filterMap (·.tx)).filter (fun o => o.port == p)).map (fun o => ((offerSpan s o).1, max (offerSpan s o).2 o.ackTo))
  let ct := (s.slm.contacts.filter (fun c => c.port == p)).map (contactSpan s)
  let ex := (s.slm.expects.filter (fun x => x.port == p && x.rank == 2)).map (fun x => (x.mid - x.half, x.mid + x.half))
  let rx := if !slmRunning s then [] else (List.range 64).flatMap (fun i =>
    let n := nextAsn s + i
    ((installedIn s n).filter (fun c => rxProtected c && planPort s (cellChan s c.sf n c.choff).1 == p)).map (fun c =>
      let m := slotAt s n + txOffset s c.sf
      (m - rxHalf s c, m + rxHalf s c)))
  tx ++ ct ++ ex ++ rx

/-- The earliest gap on a port: its beginning and its length, in keep time, none where the look-ahead holds none (R286).
(DEDUCED, log 59.) -/
def gapOf (s : State) (p : Nat) : Option (Nat × Nat) :=
  let fin := s.time.ns + lookSpan s
  let busy := busySpans s p
  let starts := (s.time.ns :: (busy.map (·.2)).filter (fun t => decide (s.time.ns < t))).mergeSort (fun a b => decide (a ≤ b))
  let len (t : Nat) : Nat := ((busy.filter (fun b => decide (t ≤ b.1))).map (·.1)).foldl min fin - t
  match starts.find? (fun t => !busy.any (fun b => decide (b.1 ≤ t) && decide (t < b.2)) && decide (2000000 ≤ len t)) with
  | some t => some (t, len t)
  | none => none

/-- A calibration or a search that begins in a gap claims its 2 ms: receive expectations that fall into them are withdrawn, and
cells that do are not used (R286). (DEDUCED, log 59.) -/
def claimGap (p t : Nat) (s : State) : State :=
  withdraw p t (t + 2000000) { s with slm := { s.slm with claims := tabPut s.slm.claims p (t, t + 2000000) } }

/-- The instant at which a step that waits for the first gap is taken (R149): its beginning. (DEDUCED, log 59.) -/
def gapWait (p : Nat) (s : State) : Option State := match gapOf s p with
  | some g => some (claimGap p g.1 (waitKeep g.1 s))
  | none => none

/-- CALIBRATION_START (R149, R287): the step is the beginning of the first gap for a pending calibration, and the announced
boundary for a forced one; a forced request starts at the next slot boundary. -/
def execCalibrationStart (p : Fin 3) (s : State) : Host.Outcome State Fault Refusal :=
  let p := p.val
  let x := rf s p
  let forced := getB F.airRfStatus_cal_forced p s
  let at' := if forced then some (waitKeep x.announced s)
    else if x.forceCal then some (waitKeep (boundaryFrom s s.time.ns) s) else gapWait p s
  if !portRuns s p || getF F.airRfStatus_synth p s != 0 || x.searching || portOnAir s p
    || !(forced || x.forceCal || getB F.airRfStatus_cal_pending p s) then done s s
  else match at' with
    | some s' => done s (blankRefresh (calBegin p (forced || x.forceCal) s'))
    | none => done s s

/-- TUNER_SEARCH_RUN (R165): `reads` are the VSWR readings in the order of the measurements. A pending search takes the first
gap, after any pending calibration. -/
def execTunerSearchRun (p : Fin 3) (reads : List Nat) (s : State) : Host.Outcome State Fault Refusal :=
  let p := p.val
  let x := rf s p
  let at' := if x.forceSearch then some (waitKeep (boundaryFrom s s.time.ns) s) else gapWait p (waitTill x.searchFrom s)
  if !portRuns s p || getF F.airRfStatus_synth p s != 0 || !txOpen s || deferring s || portOnAir s p
    || !(x.forceSearch || (getB F.airRfStatus_search_pending p s && !getB F.airRfStatus_cal_pending p s)) then done s s
  else match at' with
    | some s' => done s (tunerSearch p reads s')
    | none => done s s

/-! Registers (R301). -/

/-- The running schedule's boundaries start again after an interval without one: at the first boundary ahead (R268). -/
def slmResume (s : State) : State :=
  if slmRunning s && decide (slotAt s (nextAsn s) < s.time.ns) then
    { s with slm := { s.slm with asn := some (asnFrom s s.time.ns - 1) } }
  else s

/-- Neighbours in a timing state of one of the modes. -/
def timingCount (s : State) (sampled : Bool) (st : Nat) : Nat :=
  (s.nbrs.filter (fun e => e.2.b.sampled == sampled && e.2.b.timing == st)).length

/-- The registers from 0x0040_1000, by offset / 4, read without clearing (R301). -/
def slmWord (s : State) (k : Nat) : Word :=
  let two (a b : Field) : Word := wordOf [(getF a 0 s, 0), (getF b 0 s, 16)]
  let asn := if slmRunning s then s.slm.asn.getD 0 else 0
  match k with
  | 0 => wordOf [(b2n (slmRunning s), 0), (getF F.keepTimeState_source_ok 0 s, 1), (b2n (follower s), 2), (b2n (autoRescan s), 3),
      (syncState s, 4), (getF F.linkSlmStatus_missed_eb 0 s, 8), (min (uSelf s / 10000) 65535, 16)]
  | 1 => w32 asn
  | 2 => w32 (asn / 2 ^ 32 % 256)
  | 3 => wordOf [(if slmRunning s then slotNs s / 10000 else 0, 0), (maskOf (sfList s), 24)]
  | 16 => w32 s.slm.cells.length
  | 24 => w32 (timingCount s false 2)
  | 25 => w32 (timingCount s true 7)
  | 32 => two F.linkSlmCntFit_fit_skip F.linkSlmCntFit_oversize
  | 33 => two F.linkSlmCntUnheard_rx_unheard F.linkSlmCntUnheard_tx_unreachable
  | 34 => two F.linkSlmCntWithdraw_rx_withdrawn F.linkSlmCntWithdraw_blank_conflict
  | 35 => two F.linkSlmCntEmitter_emitter_short F.linkSlmCntEmitter_desync_skip
  | 36 => w32 (getF F.linkSlmCntLookahead_berth_requests 0 s)
  | 37 => w32 (getF F.linkSlmCntRetune_retunes 0 s)
  | 38 => two F.linkSlmCntCsl_wakeups F.linkSlmCntCsl_full_wakeups
  | 39 => two F.linkSlmCntCslMiss_missed_contacts F.linkSlmCntCslMiss_csl_defer
  | 40 => two F.linkSlmCntEb_eb_sent F.linkSlmCntEb_eb_missed
  | 41 => two F.linkSlmCntSkip_slots_skipped F.linkSlmCntSkip_budget_skip
  | _ =>
    if 8 ≤ k && k < 16 then
      let i := k - 8
      wordOf [(sfLength s i, 0), (sfF s i 1 14 12, 16), (sfHop s i, 19), (sfPool s i, 22), (b2n (sfEnabled s i), 26),
        (sfF s i 1 9 9, 27), (sfF s i 1 10 10, 28)]
    else if 20 ≤ k && k < 23 then
      match gapOf s (k - 20) with
      | some g => wordOf [(min ((g.1 - s.time.ns) / 1000000) 65534, 0), (min (g.2 / 100000) 65535, 16)]
      | none => 0xFFFF
    else 0

/-! Parameters (R269 to R273, R303, R304). -/

/-- SCH_TEMPLATE. -/
def infoTemplate (ws : List Word) : RecInfo :=
  let f (k hi lo : Nat) : Nat := fieldOf (wAt ws (k - 1)) hi lo
  let len := f 1 31 16
  { res := f 1 2 0
    ok := ws.length == 5 && onlyFields ws [[(2, 0), (31, 16)], [(31, 0)], [(31, 0)], [(31, 0)], [(7, 0)]]
      && 200 ≤ len && len ≤ 40000 && 1 ≤ f 2 15 0 && f 2 15 0 < len && 2 ≤ f 2 31 16 && f 2 31 16 ≤ f 3 15 0
      && 1 ≤ f 3 31 16 && 2 ≤ f 4 15 0 && f 4 31 16 ≤ 1000 && 3 ≤ f 5 7 0 && f 5 7 0 ≤ 127 }

/-- SCH_HOP. A length of 0 deletes the sequence. -/
def infoHop (ws : List Word) : RecInfo :=
  let w := wAt ws 0
  let n := fieldOf w 24 16
  { res := fieldOf w 2 0
    ok := onlyBits w [(2, 0), (6, 4), (24, 16)] && n ≤ 256 && ws.length == 1 + (n + 1) / 2
      && (ws.drop 1).all (fun x => onlyBits x [(8, 0), (24, 16)]) && (n % 2 == 0 || fieldOf (wAt ws (ws.length - 1)) 31 16 == 0) }

/-- SCH_SLOTFRAME. -/
def infoSlotframe (ws : List Word) : RecInfo :=
  { res := fieldOf (wAt ws 0) 2 0
    ok := ws.length == 2 && onlyFields ws [[(2, 0), (10, 8), (14, 12), (18, 16), (23, 20)], [(15, 0)]] && fieldOf (wAt ws 1) 15 0 != 0 }

/-- SCH_SYNC_CFG. -/
def infoSync (ws : List Word) : RecInfo := { ok := ws.length == 2 && onlyFields ws [[(1, 0)], [(16, 0)]] }

/-- SCH_TIMING_CFG. -/
def infoTiming (ws : List Word) : RecInfo :=
  let f (k hi lo : Nat) : Nat := fieldOf (wAt ws (k - 1)) hi lo
  let within (x a b : Nat) : Bool := decide (a ≤ x) && decide (x ≤ b)
  { ok := ws.length == 2 && within (f 1 7 0) 1 200 && within (f 1 15 8) 1 50 && within (f 1 31 16) 100 10000
      && within (f 2 15 0) 500 20000 && within (f 2 23 16) 2 100 && f 2 31 24 ≤ 60 }

/-- SCH_LANTERN_CFG. -/
def infoLantern (ws : List Word) : RecInfo :=
  let w := wAt ws 0
  { ok := 2 ≤ ws.length && onlyBits w [(8, 0), (11, 9), (31, 16)] && modeOk (fieldOf w 7 0) && fieldOf w 11 9 != 0
      && fieldOf w 11 9 != 4 && fieldOf (wAt ws 1) 31 24 ≤ 16 && ws.length == 2 + fieldOf (wAt ws 1) 31 24 }

/-- The options of a cell combine as R273 allows. -/
def cellOk (a b : Word) : Bool :=
  let o := fieldOf a 31 27
  let any := fieldOf b 17 17 == 1
  onlyBits b [(17, 0)] && (!any || fieldOf b 16 0 == 0)
    && (!bitOf o 3 || bitOf o 1) && (!bitOf o 4 || (bitOf o 0 && any))
    && (!(bitOf o 0 && any) || bitOf o 2 || bitOf o 4)

/-- The cell that a pair of cell words names, installed from an ASN. -/
def cellOf (a b : Word) (since : Nat) : Cell :=
  { sf := fieldOf a 26 24, off := fieldOf a 15 0, choff := fieldOf a 23 16, opts := fieldOf a 31 27,
    handle := if fieldOf b 17 17 = 1 then none else some (fieldOf b 16 0), since := since }

/-- The pairs of cell words of a list. -/
def cellPairs : List Word → List (Word × Word)
  | a :: b :: t => (a, b) :: cellPairs t
  | _ => []

/-- SCH_CELLS: one record per slotframe. (DEDUCED, log 60.) -/
def infoCells (ws : List Word) : RecInfo :=
  { res := fieldOf (wAt ws 0) 2 0
    ok := ws.length % 2 == 1 && ws.length ≤ 4095 && onlyBits (wAt ws 0) [(2, 0)]
      && (cellPairs (ws.drop 1)).all (fun x => cellOk x.1 x.2 && fieldOf x.1 26 24 == fieldOf (wAt ws 0) 2 0) }

/-- The cells of the image are installed at the start (R303); a cell naming a handle without a record is not (R273).
(DEDUCED, log 60.) -/
def loadCells (s : State) : State :=
  let recs := (s.cfg.committed.filter (fun e => e.1 % 65536 == 0x0507)).map (·.2)
  let cs := recs.flatMap (fun ws => (cellPairs (ws.drop 1)).map (fun x => cellOf x.1 x.2 0))
  { s with slm := { s.slm with cells := (cs.filter (fun c => match c.handle with
      | some h => (nbr s h).isSome
      | none => true)).eraseDups } }

/-- The checks of the schedule over a configuration about to be committed: the parameter and the resource of the first that
fails (R270 to R272, R300). `s` holds it as committed. (DEDUCED, log 96.) -/
def schedCheck (s : State) : Option (Nat × Nat) :=
  let ks := sfList s
  let tm (k : Nat) : Nat := sfF s k 1 14 12
  let len (k : Nat) : Nat := tmplNs s k 1 31 16
  let badT (k : Nat) : Bool := len k == 0 || len k != slotNs s
    || decide (txOffset s k < 100000 + rxWaitMax s k / 2) || decide (txAckDelay s k < 100000 + ackWaitNs s k / 2)
    || decide (len k ≤ txOffset s k + endGuard s k)
  let badH (k : Nat) : Bool :=
    let h := sfHop s k
    let p := planPort s (hopPlan s h)
    hopLen s h == 0 || (List.range (hopLen s h)).any (fun j => decide (planCount s (hopPlan s h) ≤ hopEntry s h j))
      || (poolLst s (sfPool s k)).isEmpty || (poolLst s (sfPool s k)).any (fun n => lstPort s n != p)
  match ks.find? badT with
  | some k => some (0x0501, tm k)
  | none => match ks.find? badH with
    | some k => some (0x0502, sfHop s k)
    | none =>
      if 1 < (ks.filter (sfAuto s)).length then some (0x0503, ((ks.filter (sfAuto s)).drop 1).headD 0)
      else
        let m := paramF s 0x0506 0 1 7 0
        if lanternOn s && s.slm.cells.any (fun c => c.beacon && sfEnabled s c.sf
            && !fitsSlot s c.sf m (airtimeNs s m (beaconOctets s) none) false) then some (0x0506, 0)
        else none

/-- The sampled neighbours at a commit: NO_CHANNEL is entered where the CSL channel has gone and left where it exists again
(R296). -/
def channelsAt (s : State) : State :=
  (s.nbrs.filter (fun e => e.2.b.sampled)).foldl (fun s e =>
    let ok := cslChannelOk s e.2.b.plan e.2.b.channel
    if !ok && e.2.b.timing != 3 then
      let s := parkFlows e.1 true (setTiming e.1 3 s)
      { s with slm := { s.slm with contacts := s.slm.contacts.filter (fun c => c.handle != e.1 || decide (c.tnom - c.uw ≤ s.time.ns)) } }
    else if ok && e.2.b.timing == 3 then
      parkFlows e.1 false (modBerth e.1 (fun b => { b with timing := cslTiming s b }) s)
    else s) s

/-- Slalom at the commit instant (R270, R296, R298): with a new slot length the ASN continues from that boundary; a part that
becomes a follower rescans, one that ceases to be is SYNCED. `old` is the state before. -/
def slmCommit (old s : State) : State :=
  let s := if slmRunning old && slmRunning s && slotNs old != slotNs s then
      let n := nextAsn old
      { s with slm := { s.slm with epoch := some (slotAt old n, n), look := none } }
    else s
  let s := if follower s && !follower old && s.slm.parentSync.isNone then
      syncStop (setSync 3 { s with slm := { s.slm with fromLost := true } })
    else if !follower s then setSync 0 { s with slm := { s.slm with fromLost := false, parentSync := none } }
    else s
  channelsAt (slmResume s)

/-! Commands (R304, R305). -/

/-- SCH_TEMPLATE_SET. -/
def bodySchTemplateSet (g : Goruz) (s : State) : Res := stageBody 0x0501 (infoTemplate g.words) g s
/-- SCH_HOP_SET. -/
def bodySchHopSet (g : Goruz) (s : State) : Res := stageBody 0x0502 (infoHop g.words) g s
/-- SCH_SLOTFRAME_SET. -/
def bodySchSlotframeSet (g : Goruz) (s : State) : Res := stageBody 0x0503 (infoSlotframe g.words) g s
/-- SCH_SYNC_CONFIG. -/
def bodySchSyncConfig (g : Goruz) (s : State) : Res := stageBody 0x0504 (infoSync g.words) g s
/-- SCH_TIMING_CONFIG. -/
def bodySchTimingConfig (g : Goruz) (s : State) : Res := stageBody 0x0505 (infoTiming g.words) g s
/-- SCH_LANTERN_CONFIG. -/
def bodySchLanternConfig (g : Goruz) (s : State) : Res := stageBody 0x0506 (infoLantern g.words) g s

/-- The ASN at which a change of cells applies (R304). (DEDUCED, log 60.) -/
def effectiveAsn (s : State) (a : Nat) : Nat :=
  if slmRunning s && (a = 0 || decide (a < nextAsn s)) then asnFrom s (s.time.ns + 1000000) else a

/-- The same cell, installed and not deleted. -/
def cellMatch (c d : Cell) : Bool :=
  d.until'.isNone && c.sf == d.sf && c.off == d.off && c.choff == d.choff && c.opts == d.opts && c.handle == d.handle

/-- What SCH_CELL_ADD and SCH_CELL_DELETE check of their words; the cells and the effective ASN otherwise. (DEDUCED, log 60.) -/
def cellArgs (g : Goruz) (s : State) : Status ⊕ (List Cell × Nat) :=
  let ps := cellPairs (g.words.drop 2)
  let eff := effectiveAsn s ((gw g 1).toNat + 2 ^ 32 * gf g 2 7 0)
  let cs := ps.map (fun x => cellOf x.1 x.2 eff)
  if !isF s && cs.any (fun c => match c.handle with | some h => decide (32767 < h) | none => false) then .inl .absent
  else if g.words.length % 2 = 1 || !onlyBits (gw g 2) [(7, 0)] || !ps.all (fun x => cellOk x.1 x.2) then .inl .badParam
  else .inr (cs, eff)

/-- The response words of a change of cells. -/
def asnWords (n : Nat) : List Word := [w32 n, w32 (n / 2 ^ 32 % 256)]

/-- The berth of a cell installed inside the look-ahead is requested at once (R283). -/
def lookInstalled (c : Cell) (s : State) : State :=
  match c.handle, s.slm.look with
  | some h, some l =>
    if !slmRunning s || !(c.keeping || !c.shared) || sfLength s c.sf = 0 then s
    else match (List.range (l + 1 - c.since)).find? (fun i => (c.since + i) % sfLength s c.sf == c.off) with
      | some i => lookRequest h (slotAt s (c.since + i)) s
      | none => s
  | _, _ => s

/-- SCH_CELL_ADD: all of its cells or none. (DEDUCED, log 60.) -/
def bodySchCellAdd (g : Goruz) (s : State) : Res :=
  match cellArgs g s with
  | .inl st => fails st s
  | .inr (cs, eff) =>
    if cs.any (fun c => match c.handle with | some h => (nbr s h).isNone | none => false) then fails .notFound s
    else if cs.any (fun c => (paramOpt s 0x0503 c.sf).isNone) then fails .notCommitted s
    else
      let fresh := (cs.filter (fun c => !s.slm.cells.any (cellMatch c))).eraseDups
      let all := s.slm.cells ++ fresh
      if 262144 < all.length || fresh.any (fun c => decide (64 < (all.filter (fun d => d.sf == c.sf && d.off == c.off)).length)) then fails .full s
      else if fresh.isEmpty then .now .okAlready (asnWords eff) s
      else .now .ok (asnWords eff) (fresh.foldl (fun s c => lookInstalled c s) { s with slm := { s.slm with cells := all } })

/-- SCH_CELL_DELETE: all of its cells, or none when any is not installed. (DEDUCED, log 60.) -/
def bodySchCellDelete (g : Goruz) (s : State) : Res :=
  match cellArgs g s with
  | .inl st => fails st s
  | .inr (cs, eff) =>
    if cs.any (fun c => !s.slm.cells.any (cellMatch c)) then fails .notFound s
    else
      let hit (d : Cell) : Bool := cs.any (fun c => cellMatch c d)
      let cells := if slmRunning s then s.slm.cells.map (fun d => if hit d then { d with until' := some eff } else d)
        else s.slm.cells.filter (fun d => !hit d)
      .now .ok (asnWords eff) { s with slm := { s.slm with cells := cells } }

/-- SCH_CELL_QUERY. -/
def bodySchCellQuery (g : Goruz) (s : State) : Res :=
  if !onlyFields g.words [[(2, 0), (31, 16)]] then fails .badParam s
  else
    let cs := s.slm.cells.filter (fun c => c.sf == gf g 1 2 0 && c.off == gf g 1 31 16)
    .now .ok (w32 cs.length :: cs.flatMap (fun c => [wordOf [(c.off, 0), (c.choff, 16), (c.sf, 24), (c.opts, 27)],
      match c.handle with
      | some h => w32 h
      | none => w32 (2 ^ 17)])) s

/-- SCH_NBR_TIMING_SET (R292, R296, R305). -/
def bodySchNbrTimingSet (g : Goruz) (s : State) : Res :=
  let h := gf g 1 16 0
  let sampled := gf g 1 24 24 = 1
  let p := gf g 2 13 0
  let ph := gf g 2 29 16
  match handleRefused g s h [[(16, 0), (24, 24)], [(13, 0), (29, 16)], [(2, 0), (12, 4)]] with
  | some .absent => fails .absent s
  | some .badParam => fails .badParam s
  | r =>
    if (p != 0 && (p < 10 || 10000 < p)) || (if p = 0 then ph != 0 else decide (p ≤ ph))
      || (sampled && !cslChannelOk s (gf g 3 2 0) (gf g 3 12 4)) then fails .badParam s
    else match r, nbr s h with
      | none, some n =>
        let was := phaseLost n.b
        let change := n.b.sampled != sampled
        let s := modBerth h (fun b => { b with sampled := sampled, period := p, phase := ph, plan := gf g 3 2 0, channel := gf g 3 12 4,
                                               timing := if sampled then 4 else 0 }) s
        let s := if change then
            { s with slm := { s.slm with
                contacts := s.slm.contacts.filter (fun c => c.handle != h || decide (c.tnom - c.uw ≤ s.time.ns))
                offers := s.slm.offers.filter (fun o => o.handle != some h || decide (o.asn < nextAsn s)) } }
          else s
        let anchor := n.b.period != p || n.b.phase != ph
        let s := syncEvent h s
        let s := if change then writePersist h s else if anchor then persistChange h s else s
        .now .ok [] (if was then parkFlows h false s else s)
      | _, _ => fails .notFound s

/-- SCH_NBR_TIMING_GET. -/
def bodySchNbrTimingGet (g : Goruz) (s : State) : Res :=
  let h := gf g 1 16 0
  match handleRefused g s h [[(16, 0)]], nbr s h with
  | some st, _ => fails st s
  | none, none => fails .notFound s
  | none, some n =>
    let b := n.b
    let u := (if b.sampled then uSampled s b else uncertainty s b) / 1000
    .now .ok [wordOf [(b2n b.sampled, 0), (b.timing, 1), (min b.misses 15, 4)], w32 (min u (2 ^ 32 - 1)),
      wordOf [(b.period, 0), (b.phase, 16)], wordOf [(b.plan, 0), (b.channel, 4)], wordAt b.sync 0, wordAt b.sync 1] s

/-- SCH_ASN_SET (R267, R268). -/
def bodySchAsnSet (g : Goruz) (s : State) : Res :=
  let t := ofWords [gw g 1, gw g 2]
  if !onlyBits (gw g 4) [(7, 0)] || decide (t < s.time.ns + 1000000) then fails .badParam s
  else if follower s || timeSource s = 3 then fails .notPermitted s
  else if slmRunning s then fails .busy s
  else .now .ok [] { s with slm := { s.slm with epoch := some (t, (gw g 3).toNat + 2 ^ 32 * gf g 4 7 0), asn := none, look := none } }

/-- SCH_RESCAN (R298). -/
def bodySchRescan (_ : Goruz) (s : State) : Res :=
  if !follower s then fails .notPermitted s
  else if syncState s = 3 then fails .okAlready s
  else .now .ok [] (syncStop (setSync 3 { s with slm := { s.slm with fromLost := true } }))

/-- SCH_STATUS. -/
def bodySchStatus (_ : Goruz) (s : State) : Res :=
  .now .ok ((List.range 4).map (slmWord s) ++ (List.range 10).map (fun i => slmWord s (32 + i))) s

end Sys2Proof.Machine
end

