-- ==== Sys2Proof/Machine/Rings.lean ====
section
/-! DEFINITION. The descriptor rings: halting, write-back, completion, the interrupts of completions, and how an immediate host
transmission ends (R453 to R458, R460, R465). -/

namespace Sys2Proof.Machine
open Sys2Proof

/-- The type of a ring: RING0 to RING14 deliver, RING15 carries events, the others are as set (R454). -/
def ringType (s : State) (r : Nat) : Nat := if r < 15 then 4 else if r = 15 then 5 else getF F.netRingCfg_type r s

/-- The part masters transactions on the ring: it is enabled and not halted, NET_DMA and NET_PCIE are on, the link is up and the
function in D0 with Bus Master set (R453, R455, R457). -/
def ringLive (s : State) (r : Nat) : Bool :=
  r < 32 && getB F.netRingCfg_enable r s && !getB F.netRingStat_halted r s && domOn s 21 && domOn s 24
    && getB F.netPcieStatus_link_up 0 s && s.net.busMaster && !s.net.d3hot

/-- The slot that HEAD names (R455). -/
def ringSlot (s : State) (r : Nat) : Nat := getF F.netRingHead_head r s % ringSize s r

/-- A ring halts (R457). -/
def haltRing (r reason : Nat) (s : State) : State :=
  if getB F.netRingStat_halted r s then s
  else s |> setF F.netRingStat_halted r 1 |> setF F.netRingStat_halt_reason r reason
    |> raise Ev.netRingHalted [(r, 32), (reason, 2)]

/-- Send the message of a ring's completions: their count is reset (R465). -/
def ringSend (r : Nat) (s : State) : State :=
  msixSend (getF F.netRingCfg_vector r s) { s with net := { s.net with irq := tabDel s.net.irq r } }

/-- A completion of a ring is signalled, or joins those that wait for the count or the time (R465). -/
def ringSignal (r : Nat) (s : State) : State :=
  if !getB F.netRingCfg_irq_en r s then s
  else
    let (n, t) := tabGet s.net.irq r (0, s.now)
    let s := { s with net := { s.net with irq := tabPut s.net.irq r (n + 1, t) } }
    if max (getF F.netRingCfg_coal_count r s) 1 ≤ n + 1 || getF F.netRingCoal_coal_us r s = 0 then ringSend r s else s

/-- RING_INTERRUPT (R465): coal_us has passed since the first completion not yet signalled. -/
def execRingInterrupt (r : Fin 32) (s : State) : Host.Outcome State Fault Refusal :=
  match tabFind s.net.irq r with
  | some (n, t) =>
    if n = 0 || !domOn s 24 then done s s
    else done s (ringSend r (waitTill (t + 1000 * getF F.netRingCoal_coal_us r s) s))
  | none => done s s

/-- Write a descriptor or record back at HEAD, and advance HEAD (R455, R458). -/
def ringWrite (r : Nat) (ws : List Word) (s : State) : State :=
  s |> put (.ring r (ringSlot s r) ws) |> setF F.netRingHead_head r ((getF F.netRingHead_head r s + 1) % 2 ^ 17)
    |> count F.netRingCnt_completed r |> ringSignal r

/-- A descriptor as written back: own clear, with its status (R455, R456). -/
def backWord0 (w : Word) (status : Nat) : Word := wordOf [(fieldOf w 15 0, 0), (status, 16), (fieldOf w 27 24, 24)]
/-- Complete a descriptor with a status, its other words as they were. -/
def ringDone (r : Nat) (ws : List Word) (status : Nat) (s : State) : State :=
  ringWrite r (backWord0 (wAt ws 0) status :: (ws.drop 1).take 7) s

/-- An immediate host transmission. (DEDUCED, log 47.) -/
def findImm (s : State) (id : Nat) : Option Imm := s.net.imms.find? (fun i => i.id == id)
/-- Change one. -/
def modImm (id : Nat) (f : Imm → Imm) (s : State) : State :=
  { s with net := { s.net with imms := s.net.imms.map (fun i => if i.id = id then f i else i) } }
/-- An immediate host transmission completes: its status is written back where its ring still serves, and its pages are freed
(R453, R460, R461). -/
def immDone (id status : Nat) (s : State) : State :=
  match findImm s id with
  | none => s
  | some i =>
    let s := countCompletion status (freeGroup 6 i.pages { s with net := { s.net with imms := s.net.imms.filter (fun x => x.id != id) } })
    if ringLive s i.ring then ringDone i.ring i.ws status s else s

end Sys2Proof.Machine
end

