-- ==== Sys2Proof/Machine/MacTx.lean ====
section
/-! DEFINITION. The MAC sequencer's transmissions: judgement and security at the preparation point, the steps of a frame on an
emitter, the acknowledgement window, retries and completions (R151 to R157, R254 to R262, R289). -/

namespace Sys2Proof.Machine
open Sys2Proof

/-! Configuration (R263, R264). -/

/-- The sequencer is configured (R263). -/
def macOn (s : State) : Bool := (paramOpt s 0x06C0 0).isSome
/-- max_age in ns. -/
def maxAge (s : State) : Nat := 1000000 * paramF s 0x06C0 0 5 15 0
/-- dup_window in ns. -/
def dupWindow (s : State) : Nat := 1000000 * paramF s 0x06C0 0 5 31 16

/-! Judgement (R151, R253, R258). -/

/-- A domain is held at chip level (R13). -/
def heldDom (s : State) (d : Nat) : Bool := s.pwr.held.contains d || domDead s d
/-- Lock too late for a start at an instant (R151). -/
def synthLate (s : State) (p start : Nat) : Bool := match getF F.airRfStatus_synth p s with
  | 0 => false
  | 3 => true
  | _ => decide (start < (rf s p).lockDue + 20000)
/-- The synthesiser is not locked. -/
def unlocked (s : State) (p : Nat) : Bool := getF F.airRfStatus_synth p s != 0
/-- The emitter gate of a torch unit is open; without torch there is none (R494). -/
def emitterGate (s : State) : Bool :=
  !(torchCapable s && paramF s 0x0B02 0 1 0 0 == 1) || getB F.keepTorchStatus_emitter_gate 0 s
/-- What keeps a transmission on a port from starting (R258): 1 lock too late, 2 supply hold, 3 gate closed, 4 chip-level hold.
(DEDUCED, log 52.) -/
def txCauses (s : State) (p start : Nat) : List Nat :=
  (if synthLate s p start then [1] else []) ++ (if deferring s then [2] else []) ++ (if !txOpen s || !emitterGate s then [3] else [])
    ++ (if heldDom s 14 || heldDom s 15 || domDead s (3 + p) then [4] else [])
/-- The port's own counts of a transmission not made. -/
def countCauses (p : Nat) (cs : List Nat) (s : State) : State :=
  let s := if cs.contains 1 then count F.airRfCntSynthBusy_synth_busy p s else s
  if cs.contains 2 then count F.linkSeqCntTxSkip_hold_skip 0 s else s
/-- A transmission is not made; nothing of it is consumed (R258). (DEDUCED, log 52.) -/
def txLate (p : Nat) (cs : List Nat) (s : State) : State := count F.linkSeqCntTxFail_tx_late 0 (countCauses p cs s)

/-- An emitter of a port that carries nothing: the one named if it is free, otherwise the lowest. -/
def idleEm (s : State) (p e : Nat) : Option Nat :=
  let ok (i : Nat) : Bool := (em s i).tx.isNone && (em s i).tone.isNone
  if (portEms s p).contains e && ok e then some e else (portEms s p).find? ok

/-- Domains that a secured transmission on a port needs are woken (R24, R66). -/
def wakeTx (p : Nat) (s : State) : State :=
  let s := wakeAir p s
  if domOn s 16 then s else wake 0x05 16 s

/-- A judged transmission takes its emitter; its power is set (R154). -/
def takeEm (e : Nat) (t : Tx) (req : Int) (s : State) : State :=
  let p := emPort s e
  let pw := framePower s p req
  let cl := decide (powerCap s p < req)
  setEm e { em s e with tx := some { t with phase := if unlocked s p then 0 else 1, power := pw, clamped := cl, rampAt := t.start - rampNs s p } } s
    |> setB F.airTxEmStatus_clamped e cl |> setF F.airTxEmStatus_backoff_q e ((shareBackoff s p + vswrBackoff s p) / 5).toNat
    |> setI F.airTxEmStatus_power_q e (roundDiv pw 5)

/-! Downlink frames (R254 to R257, R289). -/

/-- The TONE_MAP that a frame to a neighbour carries: direction 1 in a frame that requests an acknowledgement, otherwise
direction 0 (R221). -/
def mapFor (s : State) (n : Nbr) (ackReq : Bool) : Option (Nat × Nat × Nat) :=
  if !gtEn s || !n.b.gtAllowed then none
  else match n.mapDue, n.newTx, n.b.rxMap with
    | (_, true), some m, r => if ackReq then some (1, mapPair m) else (match n.mapDue.1, r with
        | true, some x => some (0, mapPair x)
        | _, _ => none)
    | (true, _), _, some x => some (0, mapPair x)
    | _, _, _ => none

/-- Where and when a data frame goes: emitter, port, centre, first chip in keep time, wake-up airtime charged with it, whether
its cell is shared, a contact, a full-period one; the urgent tier and the listener charged. -/
structure Place where
  e : Nat
  p : Nat
  khz : Nat
  start : Nat
  wakeNs : Nat := 0
  shared : Bool := false
  contact : Bool := false
  full : Bool := false
  urgent : Bool := false
  listener : Nat := 0
  /-- Acknowledgement window relative to the end of the frame. -/
  ackA : Nat
  ackB : Nat

/-- What building the next frame of a flow comes to. -/
inductive Built where
  | frame (t : Tx) (req : Int) (s : State)
  | none (s : State)

/-- Take what a flow sends next (R254 to R257, R260 to R262): a frame that cannot be sent completes; otherwise it takes its
sequence number and its counter, and is charged. `ok`: no cause of R258 holds. The first chip falls `lead` from now.
(DEDUCED, log 46.) -/
def buildData (pl : Place) (h c lead : Nat) (causes : List Nat) (s : State) : Built :=
  match nbr s h with
  | none => .none s
  | some n =>
    if n.quarantined then .none (completeAll h 0x0B s)
    else match (flowOf n.b c).frames with
      | [] => .none s
      | q :: _ =>
        let (mode, map) := dataMode s n.b
        let len := psduOctets s n q
        if !n.resident || q.spilled != 0 then .none (txLate pl.p causes s)
        else match txRef s n.b with
          | none => .none (completeHead h c 0x0A s)
          | some ref =>
            if q.octets = 0 then .none (completeHead h c 0x03 s)
            else if maxPsdu mode < len then .none (completeHead h c 0x04 s)
            else if !causes.isEmpty then .none (txLate pl.p causes s)
            else match takeCounter ref s with
              | .exhausted s => .none (completeHead h c 0x09 s)
              | .wait s => .none (txLate pl.p [] s)
              | .got ctr s =>
                let seq := q.seq.getD n.b.txDsn
                let air := airtimeNs s mode len map
                let carry := mapFor s n true
                let level := match keyOf s ref with
                  | some k => k.txLevel
                  | none => 0
                let t : Tx := {
                  kind := 0, phase := 1, start := s.now + lead, mode := mode, khz := pl.khz, width := modeWidth mode, len := len, air := air
                  handle := h, cls := c, seq := seq, ackReq := true, ts := pl.start + shrNs s mode, frameId := q.id
                  ackFrom := pl.start + air + pl.ackA, ackTo := pl.start + air + pl.ackB, shared := pl.shared, contact := pl.contact
                  full := pl.full, urgent := pl.urgent, carry := (match carry with
                    | some (1, _) => true
                    | _ => false)
                  mhr := { seq := some seq, pending := 1 < (flowOf n.b c).frames.length, sec := some (level, ref, ctr), map := carry } }
                let s := if inFallback s n.b then count F.airTmCntFallback_fallback 0 s else s
                let s := attemptStart h c (usUp (air + pl.wakeNs)) pl.urgent pl.listener s
                let s := modFlow h c (fun f => { f with frames := f.frames.map (fun x => if x.id = q.id then { x with seq := some seq } else x) }) s
                let s := if q.seq.isSome then s else modBerth h (fun b => { b with txDsn := (b.txDsn + 1) % 256 }) s
                .frame t (5 * n.b.power) s

/-- A slot's admitted transmission of an emitter that has not reached its preparation point (R276, R281). -/
def offerOn (s : State) (e : Nat) (beacon : Bool) : Option SlotTx :=
  (s.slm.offers.filter (fun o => o.emitter == some e && o.beacon == beacon && !o.prep)).foldl
    (fun b o => match b with
      | some x => if o.start < x.start then some o else b
      | none => some o) none
/-- Mark it. -/
def markPrep (o : SlotTx) (s : State) : State :=
  { s with slm := { s.slm with offers := s.slm.offers.map (fun x => if x == o then { x with prep := true } else x) } }
/-- A contact of an emitter at a stage. -/
def contactOn (s : State) (e stage : Nat) : Option Contact := s.slm.contacts.find? (fun c => c.emitter == e && c.stage == stage)
/-- Change the contact of a handle; none removes it. -/
def modContact (h : Nat) (f : Contact → Option Contact) (s : State) : State :=
  { s with slm := { s.slm with contacts := s.slm.contacts.filterMap (fun c => if c.handle = h then f c else some c) } }

/-- The place of a contact's data frame. -/
def contactPlace (s : State) (c : Contact) : Place :=
  { e := c.emitter, p := c.port, khz := c.khz, start := c.start, wakeNs := if c.start = c.rdv then 2 * c.uw else 0, contact := true
    full := c.full, urgent := c.urgent, listener := c.listener.getD 0, ackA := ackTurn s - ackGuardNs s, ackB := ackTurn s + ackGuardNs s }

/-- The preparation point of a downlink frame on an emitter: in a TSCH cell, or of a contact without a wake-up of its own
(R254, R258, R289, R291). (DEDUCED, log 46.) -/
def prepData (e : Nat) (s : State) : State :=
  match offerOn s e false, contactOn s e 1 with
  | some o, _ =>
    let s := waitKeep (o.start - prepNs s o.port) s
    let s := wakeTx o.port (markPrep o s)
    match o.handle, idleEm s o.port e with
    | some h, some e' =>
      let pl : Place := { e := e', p := o.port, khz := o.khz, start := o.start, shared := o.shared, urgent := o.urgent,
                          listener := o.listener.getD 0, ackA := o.ackFrom - (o.start + o.air), ackB := o.ackTo - (o.start + o.air) }
      (match buildData pl h o.cls (prepNs s o.port) (txCauses s o.port (s.now + prepNs s o.port)) s with
        | .frame t req s => takeEm e' t req s
        | .none s => s)
    | some _, none => if (em s e).tone.isSome then s else txLate o.port [] s
    | none, _ => s
  | none, some c =>
    let s := wakeTx c.port (waitKeep (c.start - prepNs s c.port) s)
    match idleEm s c.port e with
    | some e' =>
      (match buildData (contactPlace s c) c.handle c.cls (prepNs s c.port) (txCauses s c.port (s.now + prepNs s c.port)) s with
        | .frame t req s => takeEm e' t req (modContact c.handle (fun x => some { x with stage := 2, emitter := e' }) s)
        | .none s => modContact c.handle (fun _ => none) s)
    | none =>
      modContact c.handle (fun _ => none) (if (em s e).tone.isSome then s else txLate c.port [] s)
  | none, none => s

/-- The head of a contact is chosen again before its wake-up sequence starts (R344); none where its neighbour has no head that may go. -/
def rechoose (s : State) (c : Contact) : Option Contact :=
  let pk := choose s {
    fits := fun _ _ n q => fitsContact s (dataMode s n.b).1 (frameAir s n q) 0
    charged := fun _ => c.listener.getD 0 } (flowsOf [c.handle])
  match pk.flow with
  | some (_, k) => some { c with cls := k, urgent := pk.urgent }
  | none => none

/-- The preparation point of a contact's wake-up sequence (R289): it is judged as a transmission, and its emitter sends the
sequence and then the data frame. -/
def prepWake (e : Nat) (s : State) : State :=
  match contactOn s e 0 with
  | none => s
  | some c =>
    let first := c.tnom - c.uw
    let s := wakeTx c.port (waitKeep (first - prepNs s c.port) s)
    let start := s.now + prepNs s c.port
    let cs := txCauses s c.port start
    match nbr s c.handle, idleEm s c.port e with
    | some n, some e' =>
      if n.quarantined then modContact c.handle (fun _ => none) (completeAll c.handle 0x0B s)
      else if !n.resident || !cs.isEmpty then modContact c.handle (fun _ => none) (txLate c.port cs s)
      else
        match rechoose s c with
        | none => modContact c.handle (fun _ => none) s
        | some c =>
        let m := (dataMode s n.b).1
        let t : Tx := { kind := 5, phase := 1, start := start, mode := m, khz := c.khz, width := modeWidth m, air := 2 * c.uw, handle := c.handle,
                        cls := c.cls, ts := first, contact := true, full := c.full }
        takeEm e' t (5 * n.b.power) (modContact c.handle (fun x => some { x with emitter := e', cls := c.cls, urgent := c.urgent }) s)
    | some _, none => modContact c.handle (fun _ => none) (if (em s e).tone.isSome then s else txLate c.port cs s)
    | none, _ => modContact c.handle (fun _ => none) s

/-! Enhanced beacons and test tones (R171, R300). -/

/-- The preparation point of an enhanced beacon (R300). -/
def prepBeacon (e : Nat) (s : State) : State :=
  match offerOn s e true with
  | none => s
  | some o =>
    let s := wakeTx o.port (markPrep o (waitKeep (o.start - prepNs s o.port) s))
    let cs := txCauses s o.port (s.now + prepNs s o.port)
    match idleEm s o.port e with
    | none => if (em s e).tone.isSome then s else txLate o.port [] s
    | some e' =>
      if !cs.isEmpty || !lanternOn s then txLate o.port cs s
      else
        let go (sec : Option (Nat × Nat × Nat)) (s : State) : State :=
          let t : Tx := { kind := 2, phase := 1, start := s.now + prepNs s o.port, mode := o.mode, khz := o.khz, width := modeWidth o.mode,
                          len := beaconOctets s, air := airtimeNs s o.mode (beaconOctets s) none, handle := 2 ^ 17, ts := o.start + shrNs s o.mode,
                          mhr := { sec := sec, asn := some (o.asn, paramF s 0x0506 0 2 23 16) } }
          takeEm e' t (5 * signedOf (paramF s 0x0506 0 2 15 0) 16) s
        if paramF s 0x0506 0 1 8 8 = 0 then go none s
        else if !usable s (lanternRef s) then s
        else match takeCounter (lanternRef s % 8192) s with
          | .got c s => go (some (paramF s 0x0506 0 1 11 9, lanternRef s % 8192, c)) s
          | .wait s => txLate o.port [] s
          | .exhausted s => count F.linkSeqCntTxSkip_exhausted 0 s

/-- The preparation point of a test tone (R151, R171): it is held until no cause keeps it. -/
def prepTone (e : Nat) (s : State) : State :=
  let x := em s e
  let p := emPort s e
  match x.tone with
  | none => s
  | some t =>
    if t.stage != 0 || x.tx.isSome then s
    else
      let s := wakeAir p s
      let start := s.now + prepNs s p
      if !((txCauses s p start).filter (· != 3)).isEmpty then countCauses p (txCauses s p start) s
      else
        let khz := ((loKhz s p : Int) + t.offset).toNat
        takeEm e { kind := 4, phase := 1, start := start, khz := khz, handle := 2 ^ 17 } t.power
          (setEm e { x with tone := some { t with stage := 1 } } s)

/-! Immediate host transmissions (R258, R260, R460). -/

/-- Fields of an IMMEDIATE descriptor. -/
def immF (i : Imm) (k hi lo : Nat) : Nat := fieldOf (wAt i.ws k) hi lo
/-- Its deadline in keep time; 0 for none. -/
def immDeadline (i : Imm) : Nat := ofWords ((i.ws.drop 6).take 2)
/-- The deadline has passed. -/
def immLate (s : State) (i : Imm) : Bool := immDeadline i != 0 && decide (immDeadline i ≤ s.time.ns)
/-- Octets of the PSDU as built: MHR and payload, security and FCS. -/
def immOctets (s : State) (i : Imm) : Nat :=
  let level := immF i 0 27 25
  let ref := immF i 3 31 16
  immF i 0 15 0 + fcsOctets (immF i 4 7 0)
    + (if level = 0 then 0 else micOctets level + (match keyOf s (ref % 8192) with
      | some k => auxOctets k.idMode
      | none => 0))
/-- The transmission as a slot's, to be admitted at a first chip (R276, R277, R460). -/
def immOffer (s : State) (i : Imm) (start : Nat) : SlotTx :=
  let pl := immF i 4 13 11
  let m := immF i 4 7 0
  let air := airtimeNs s m (immOctets s i) none
  let fin := start + air
  { asn := s.slm.asn.getD 0, sf := 0, handle := none, cls := 0, beacon := !i.ackReq, shared := false, port := planPort s pl,
    khz := chanKhz s pl (immF i 4 22 14), plan := pl, channel := immF i 4 22 14, mode := m, start := start, air := air
    ackFrom := if i.ackReq then fin + ackTurn s - ackGuardNs s else fin, ackTo := if i.ackReq then fin + ackTurn s + ackGuardNs s else fin }
/-- Its emitter and listener where it is admitted. -/
def immFits (s : State) (o : SlotTx) : Option (Nat × Option Nat) :=
  let sp := offerSpan s o
  if !emReaches s o.port o.khz o.mode || gapClaimed s o.port sp.1 sp.2 then none
  else match (portEms s o.port).find? (fun e => emFree s e sp.1 sp.2 && (em s e).tone.isNone) with
    | none => none
    | some e =>
      if o.beacon then (if blankFits s o none then some (e, none) else none)
      else match ackListener s o.port o.khz (modeWidth o.mode) o.ackFrom o.ackTo none [] with
        | some n => if blankFits s o (some n) then some (e, some n) else none
        | none => none
/-- The earliest instant at which it is admitted, in steps of 100 µs from now over the look-ahead (R460). (DEDUCED, log 47.) -/
def immSearch (s : State) (i : Imm) : Nat → Nat → Option (SlotTx × Nat × Option Nat)
  | _, 0 => none
  | t, f + 1 =>
    let o := immOffer s i t
    match immFits s o with
    | some (e, l) => some (o, e, l)
    | none => immSearch s i (t + 100000) f
/-- Place an immediate transmission (R460); one that no cell's admission allows waits for its deadline. (DEDUCED, log 47.) -/
def placeImm (id : Nat) (s : State) : State :=
  match findImm s id with
  | none => s
  | some i =>
    let p := planPort s (immF i 4 13 11)
    match immSearch s i (s.time.ns + prepNs s p) 64 with
    | some (o, e, l) => modImm id (fun i => { i with place := some (e, o.start), tx := some { o with emitter := some e, listener := l } }) (wakeAir p s)
    | none => modImm id (fun i => { i with place := none, tx := none, cause := 0x0C }) s

/-- The completion status that a cause gives an immediate transmission at its deadline (R258, R261). (DEDUCED, log 52.) -/
def causeStatus (s : State) (p : Nat) (cs : List Nat) : Nat :=
  if cs.contains 1 then 0x06 else if cs.contains 2 then 0x07 else if cs.contains 3 then 0x08
  else if domState s 14 == 3 || domState s 15 == 3 || domState s 16 == 3 || domState s (3 + p) == 3 then 0x0D else 0x0C

/-- The preparation point of an immediate host transmission on an emitter; one not yet placed is placed first (R258, R460).
(DEDUCED, log 46.) -/
def prepImm (e : Nat) (s : State) : State :=
  let s := (s.net.imms.filter (fun i => i.place.isNone)).foldl (fun s i =>
    if immLate s i then immDone i.id i.cause s else placeImm i.id s) s
  match s.net.imms.find? (fun i => match i.place with
    | some (x, _) => x == e
    | none => false) with
  | none => s
  | some i =>
    let p := planPort s (immF i 4 13 11)
    let at' := (match i.place with
      | some (_, t) => t
      | none => 0)
    let dl := immDeadline i
    if dl != 0 && dl < at' then immDone i.id i.cause (waitKeep dl s)
    else
      let s := wakeTx p (waitKeep (at' - prepNs s p) s)
      let start := s.now + prepNs s p
      let cs := txCauses s p start
      let m := immF i 4 7 0
      let level := immF i 0 27 25
      let ref := immF i 3 31 16
      let len := immOctets s i
      let hold (st : Nat) (s : State) : State :=
        if immLate s i then immDone i.id st s
        else modImm i.id (fun i => { i with place := none, tx := none, cause := st }) (countCauses p cs s)
      if maxPsdu m < len then immDone i.id 0x04 s
      else if level != 0 && !usable s ref then immDone i.id 0x0A s
      else if !cs.isEmpty then hold (causeStatus s p cs) s
      else match idleEm s p e with
        | none => hold 0x0C s
        | some e' =>
          let go (sec : Option (Nat × Nat × Nat)) (s : State) : State :=
            let air := airtimeNs s m len none
            let fin := s.time.ns + prepNs s p + air
            let t : Tx := { kind := 3, phase := 1, start := start, mode := m, khz := chanKhz s (immF i 4 13 11) (immF i 4 22 14), width := modeWidth m,
                            len := len, air := air, handle := 2 ^ 17, seq := i.seq.getD 256, ackReq := i.ackReq, ts := s.time.ns + prepNs s p + shrNs s m,
                            ackFrom := fin + ackTurn s - ackGuardNs s, ackTo := fin + ackTurn s + ackGuardNs s, imm := some i.id,
                            mhr := { seq := i.seq, sec := sec } }
            takeEm e' t (5 * signedOf (immF i 5 15 0) 16) (modImm i.id (fun i => { i with place := some (8, 0) }) s)
          if level = 0 then go none s
          else match takeCounter (ref % 8192) s with
            | .got c s => go (some (level, ref % 8192, c)) s
            | .wait s => hold 0x0C s
            | .exhausted s => immDone i.id 0x09 s

/-! The steps of a transmission (R157). -/

/-- FEM_SWITCH_TO_TX (R157, R322): the port's FEM lines go to TX. An attempt whose cipher job cannot have completed, its key not
cached, is abandoned. -/
def execFemSwitchToTx (e : Fin 8) (s : State) : Host.Outcome State Fault Refusal :=
  let e := e.val
  match (em s e).tx with
  | none => done s s
  | some t =>
    let p := emPort s e
    if t.phase != 1 then done s s
    else
      let s := waitTill (t.rampAt - leadNs s p) s
      let late := match t.mhr.sec with
        | some (_, k, _) => !cached s k || cipherDown s
        | none => false
      if late then
        let s1 := setEm e { em s e with tx := none } s
        (match t.kind with
          | 0 => done s (attemptOutcome t.handle t.cls (txLate p [] (if t.contact then modContact t.handle (fun _ => none) s1 else s1)))
          | 1 => done s s1
          | 3 => done s (match t.imm with
              | some i => modImm i (fun i => { i with place := none, tx := none, cause := 0x0C }) s1
              | none => s1)
          | _ => done s (txLate p [] s1))
      else
        let s1 := setEm e { em s e with tx := some { t with phase := 2 } } (setF F.airTxEmStatus_on_air e 1 s)
        let s1 := match t.mhr.sec with
          | some (_, k, _) => touchKey k s1
          | none => s1
        let s1 := if t.kind = 0 || t.kind = 2 || t.kind = 3 then count F.linkSeqCntTx_tx_attempts 0 s1 else s1
        done s (blankRefresh s1)

/-- RAMP_UP_START (R155, R157). -/
def execRampUpStart (e : Fin 8) (s : State) : Host.Outcome State Fault Refusal :=
  match (em s e.val).tx with
  | none => done s s
  | some t =>
    if t.phase != 2 then done s s
    else done s (blankRefresh (setEm e.val { em s e.val with tx := some { t with phase := 3 } } (waitTill t.rampAt s)))

/-- The first chip of what an emitter sends (R157): the frame is counted; what its kind begins, begins. (DEDUCED, log 46.) -/
def firstChip (e : Nat) (t : Tx) (s : State) : State :=
  let s := waitTill t.start s
  let s := setEm e { em s e with tx := some { t with phase := 4 } } s
  let s := s |> count F.airTxEmCntFrames_frames e |> put (.air e t.mode t.khz t.len t.kind)
  match t.kind with
  | 0 => s |> put (.mhr e t.handle t.mhr) |> modNbr t.handle (fun n => { n with lastPower := roundDiv t.power 5, mapDue := (match t.mhr.map with
      | some (0, _) => (false, n.mapDue.2)
      | some _ => (n.mapDue.1, false)
      | none => n.mapDue) })
  | 1 => s |> put (.mhr e t.handle t.mhr) |> count F.linkSeqCntAck_ack_sent 0
      |> modNbr t.handle (fun n => { n with lastPower := roundDiv t.power 5, mapDue := (match t.mhr.map with
        | some _ => (false, n.mapDue.2)
        | none => n.mapDue) })
  | 2 => s |> put (.mhr e t.handle t.mhr) |> count F.linkSlmCntEb_eb_sent 0
  | 3 => put (.mhr e t.handle t.mhr) s
  | 4 =>
    let s := match (em s e).tone with
      | some x => setEm e { em s e with tone := some { x with stage := 2 } } s
      | none => s
    answerTone e .ok s
  | _ =>
    -- wake-up frames, each secured afresh (R257, R289)
    let s := count F.linkSlmCntCsl_wakeups 0 s
    let s := if t.full then count F.linkSlmCntCsl_full_wakeups 0 s else s
    let s := modNbr t.handle (fun n => if t.full then { n with wakes := n.wakes ++ [(s.time.ns, t.air / 1000)] } else n) s
    match nbr s t.handle with
    | none => s
    | some n =>
      match txRef s n.b with
      | none => s
      | some ref =>
        let one := airtimeNs s t.mode (mhrOctets n.b + 6 + secOctets s n.b + fcsOctets t.mode) none
        (List.range (max 1 (t.air / max one 1))).foldl (fun s _ => match takeCounter ref s with
          | .got _ s => s
          | .wait s => s
          | .exhausted s => s) s

/-- FIRST_CHIP (R157). -/
def execFirstChip (e : Fin 8) (s : State) : Host.Outcome State Fault Refusal :=
  match (em s e.val).tx with
  | none => done s s
  | some t => if t.phase != 3 || t.kind = 5 then done s s else done s (firstChip e.val t s)

/-- WAKEUP_SEQUENCE_START (R289): the wake-up sequence of a contact begins at t_nom − U_w. (PRESUMED, log 58.) -/
def execWakeupSequenceStart (h : Nat) (s : State) : Host.Outcome State Fault Refusal :=
  match s.slm.contacts.find? (fun c => c.handle == h && c.stage == 0) with
  | none => done s s
  | some c =>
    match (em s c.emitter).tx with
    | some t => if t.kind = 5 && t.phase = 3 then done s (firstChip c.emitter t s) else done s s
    | none => done s s

/-- RENDEZVOUS (R289): at t_nom + U_w the emitter that has sent the wake-up sequence sends the data frame. (PRESUMED, log 58.) -/
def execRendezvous (h : Nat) (s : State) : Host.Outcome State Fault Refusal :=
  match s.slm.contacts.find? (fun c => c.handle == h && c.stage == 0) with
  | none => done s s
  | some c =>
    match (em s c.emitter).tx with
    | some w =>
      if w.kind != 5 || w.phase != 4 then done s s
      else
        let s1 := waitTill (w.start + w.air) s
        (match buildData (contactPlace s1 c) h c.cls 0 [] s1 with
          | .frame t _ s2 =>
            let t := { t with phase := 4, power := w.power, rampAt := w.rampAt, clamped := w.clamped }
            done s (s2 |> count F.linkSeqCntTx_tx_attempts 0 |> setEm c.emitter { em s2 c.emitter with tx := some t }
              |> modContact h (fun x => some { x with stage := 2 }) |> count F.airTxEmCntFrames_frames c.emitter
              |> put (.air c.emitter t.mode t.khz t.len 0) |> put (.mhr c.emitter h t.mhr)
              |> modNbr h (fun n => { n with lastPower := roundDiv t.power 5, mapDue := (match t.mhr.map with
                  | some (0, _) => (false, n.mapDue.2)
                  | some _ => (n.mapDue.1, false)
                  | none => n.mapDue) }))
          | .none s2 =>
            done s (modContact h (fun _ => none) (setEm c.emitter { em s2 c.emitter with tx := some { w with phase := 5 } } s2)))
    | none => done s s

/-- Queue the timestamp of an attempt whose descriptor requests one (R431). -/
def immStamp (t : Tx) (e p outcome : Nat) (s : State) : State :=
  match t.imm with
  | none => s
  | some id => match findImm s id with
    | some i => if immF i 0 24 24 = 1 then tsqPush (immF i 5 31 16) (i.attempts + 1) e p outcome t.ts t.mode s else s
    | none => s

/-- LAST_CHIP (R157, R259, R261): the ramp-down starts; an attempt that requests an acknowledgement awaits it, any other completes
OK. -/
def execLastChip (e : Fin 8) (s : State) : Host.Outcome State Fault Refusal :=
  let e := e.val
  match (em s e).tx with
  | none => done s s
  | some t =>
    if t.phase != 4 || t.kind = 4 || t.kind = 5 then done s s
    else
      let s1 := waitTill (t.start + t.air) s
      let s1 := setEm e { em s1 e with tx := some { t with phase := 5 } } s1
      let wait := { s1 with awaiting := s1.awaiting ++ [{ t with phase := 8, frameId := (if t.kind = 3 then e else t.frameId) }] }
      match t.kind with
      | 0 => done s wait
      | 2 => done s (countCompletion 0 s1)
      | 3 => if t.ackReq then done s wait
          else done s (match t.imm with
            | some i => immDone i 0 (immStamp t e (emPort s e) 0 s1)
            | none => s1)
      | _ => done s s1

/-- Bin of a transmit power at the ball, in 0.05 dBm (R521). -/
def powerBin (p : Int) : Nat := if p < -280 then 0 else min 15 ((p + 320) / 40).toNat

/-- Airtime of an emitter is counted in whole ms, by emitter, by port and by power (R520, R521). -/
def countAirtime (e : Nat) (t : Tx) (s : State) : State :=
  let p := emPort s e
  let x := em s e
  let ns := x.airNs + t.air
  let ms := ns / 1000000
  let s := setEm e { x with airNs := ns % 1000000 } s
  if ms = 0 then s
  else s |> countBy F.airTxEmCntAirtime_airtime_ms e ms |> lifeAdd (0x38 + p) ms |> histAdd (5 + p) (powerBin t.power) ms

/-- DRIVER_SILENT (R100, R156, R157): the ramp-down has ended; the FEM lines settle into a receive state and blanking ends. -/
def execDriverSilent (e : Fin 8) (s : State) : Host.Outcome State Fault Refusal :=
  let e := e.val
  match (em s e).tx with
  | none => done s s
  | some t =>
    if t.phase != 5 then done s s
    else
      let p := emPort s e
      let fin := if t.kind = 4 then s.now else t.start + t.air
      let s1 := waitTill (fin + rampNs s p) s
      let t' := if t.kind = 4 then { t with air := s.now - t.start } else t
      let s1 := countAirtime e t' (setF F.airTxEmStatus_on_air e 0 s1)
      let s1 := elapse (settleNs s p) s1
      let s1 := setEm e { em s1 e with tx := none } s1
      done s (blankRefresh (gateSettle s1))

/-! Outcomes (R229, R259, R260, R289, R293). -/

/-- The attempts that await an acknowledgement, without one. -/
def dropAwait (t : Tx) (s : State) : State := { s with awaiting := s.awaiting.erase t }

/-- A GT attempt has had no acknowledgement: after fallback_after of them the link falls back (R229). (DEDUCED, log 61.) -/
def gtMissed (t : Tx) (s : State) : State :=
  if !isGt t.mode then s
  else match nbr s t.handle with
    | none => s
    | some n =>
      if gtAfter s ≤ n.b.gtMiss + 1 then fallbackStart t.handle (modBerth t.handle (fun b => { b with gtMiss := 0 }) s)
      else modBerth t.handle (fun b => { b with gtMiss := b.gtMiss + 1 }) s

/-- The backoff of a failed attempt in a shared cell: macMinBe 1, macMaxBe 5 (R275); the draw is a free value. -/
def shareBack (t : Tx) (s : State) : State :=
  if !t.shared then s
  else freeNext (modNbr t.handle (fun n => { n with backoff := freeNow (min 5 (n.be + 1)) s, be := min 5 (n.be + 1) }) s)

/-- An attempt has ended unacknowledged: it consumes one retry, and the frame completes once they are spent (R260). (DEDUCED, log 61.) -/
def attemptFails (t : Tx) (nacked : Bool) (s : State) : State :=
  let s := dropAwait t s
  let st := if nacked then 2 else 1
  if t.kind = 0 then
    let s := if nacked then s else gtMissed t s
    let s := shareBack t s
    let s := if t.contact then modContact t.handle (fun _ => none) (if nacked then s else missContact t.handle t.full s) else s
    match nbr s t.handle with
    | none => countCompletion st s
    | some n =>
      let q := (flowOf n.b t.cls).frames.find? (fun x => x.id == t.frameId)
      (match q with
        | none => countCompletion st s
        | some q =>
          if n.b.retryLimit < q.attempts + 1 then attemptOutcome t.handle t.cls (completeHead t.handle t.cls st s)
          else
            attemptOutcome t.handle t.cls (modFlow t.handle t.cls (fun f => { f with
              frames := f.frames.map (fun x => if x.id = t.frameId then { x with attempts := x.attempts + 1, nacked := nacked } else x) }) s))
  else if t.kind = 3 then
    match t.imm with
    | none => s
    | some id => match findImm s id with
      | none => s
      | some i =>
        let s := if t.ackReq then immStamp t (t.frameId % 8) (planPort s (immF i 4 13 11)) (if nacked then 3 else 2) s else s
        if immF i 4 10 8 < i.attempts + 1 then immDone id st s
        else placeImm id (modImm id (fun i => { i with attempts := i.attempts + 1, nacked := nacked, place := none, tx := none }) s)
  else s

/-- The next head of a contact follows at the end of the acknowledgement plus ack_turnaround_us, if it fits (R289). -/
def chainContact (t : Tx) (s : State) : State :=
  match s.slm.contacts.find? (fun c => c.handle == t.handle), nbr s t.handle with
  | some c, some n =>
    let start := s.time.ns + ackTurn s
    (match (flowOf n.b t.cls).frames with
      | q :: _ =>
        let air := frameAir s n q
        if t.mhr.pending && fitsContact s (dataMode s n.b).1 air (start - c.rdv) then
          modContact t.handle (fun c => some { c with stage := 1, cls := t.cls, start := start, ackEnd := start + air + ackTurn s + ackGuardNs s }) s
        else modContact t.handle (fun _ => none) s
      | [] => modContact t.handle (fun _ => none) s)
  | some _, none => modContact t.handle (fun _ => none) s
  | none, _ => s

/-- An attempt has been acknowledged (R259, R261). -/
def attemptAcked (t : Tx) (s : State) : State :=
  let s := dropAwait t s
  if t.kind = 0 then
    match nbr s t.handle with
    | none => countCompletion 0 s
    | some n =>
      let map := if t.carry then n.newTx else none
      let s := setNbr t.handle { n with
        be := (if t.shared then 1 else n.be), backoff := (if t.shared then 0 else n.backoff)
        newTx := (if t.carry then none else n.newTx), dirty := true
        b := { n.b with gtMiss := 0, txMap := (match map with
          | some m => some m
          | none => n.b.txMap) } } s
      let s := match (flowOf n.b t.cls).frames with
        | q :: _ => if q.id = t.frameId then completeHead t.handle t.cls 0 s else countCompletion 0 s
        | [] => countCompletion 0 s
      let s := attemptOutcome t.handle t.cls s
      if t.contact then chainContact t s else s
  else match t.imm with
    | some id => match findImm s id with
      | some i => immDone id 0 (immStamp t (t.frameId % 8) (planPort s (immF i 4 13 11)) 1 s)
      | none => s
    | none => s

/-- ACK_WINDOW_EXPIRY (R260): the window of the attempt that has waited longest closes without a match; an attempt that was cut
ends at once. -/
def execAckWindowExpiry (s : State) : Host.Outcome State Fault Refusal :=
  match s.awaiting.find? (fun t => t.phase == 7), s.awaiting with
  | some t, _ => done s (attemptFails t false s)
  | none, t :: _ => done s (attemptFails t false (waitKeep t.ackTo s))
  | none, [] => done s s

end Sys2Proof.Machine
end

