-- ==== Sys2Proof/Machine/MacRx.lean ====
section
/-! DEFINITION. The MAC sequencer's receive side: header checks, residency, security, duplicates and handing on, the
acknowledgements it sends and receives, preparation points, and its commands (R237 to R253, R259, R263 to R266). -/

namespace Sys2Proof.Machine
open Sys2Proof

/-! Header checks (R238 to R240). -/

/-- The configuration for a record: MAC_CFG as it stood where the record's timestamp does not follow the commit that last changed it
(R266). -/
def macFor (s : State) (ts : Nat) : State :=
  if s.cfg.macAt < ts || s.cfg.macAt = 0 then s
  else { s with cfg := { s.cfg with committed := (match s.cfg.macOld with
    | some ws => tabPut s.cfg.committed (cfgKey 0x06C0 0) ws
    | none => tabDel s.cfg.committed (cfgKey 0x06C0 0)) } }
/-- The part's PAN identifier. -/
def ownPan (s : State) : Nat := paramF s 0x06C0 0 1 15 0
/-- Frame type and version are accepted (R238). (DEDUCED, log 64.) -/
def typeOk (f : Frame) : Bool := f.ftype ≤ 3 && f.version ≤ 2 && !(f.secured && f.version == 0)
/-- The destination filter (R239). (DEDUCED, log 64.) -/
def filterPass (s : State) (f : Frame) : Bool :=
  (f.dstPan == ownPan s || f.dstPan == 0xFFFF) && (match f.dst with
    | .absent => f.ftype == 1 || f.ftype == 3
    | .short a => a == 0xFFFF || (a == ownShort s && a != 0xFFFE)
    | .ext a => a == ownExt s)
/-- The handle that the source address resolves to (R240). -/
def srcHandle (s : State) (f : Frame) : Option Nat := match f.src with
  | .absent => none
  | .short a => findShort s a f.srcPan
  | .ext a => findExt s a
/-- The frame requests an acknowledgement that the part sends: its destination is not broadcast (R249). -/
def wantsAck (f : Frame) : Bool := f.ackReq && f.ftype != 2 && f.dst != .short 0xFFFF
/-- The record's frame does. (DEDUCED, log 63.) -/
def recWants (r : Rec) : Bool := match r.frame with
  | some f => wantsAck f
  | none => false
/-- Security level of a frame; 0 where it is unsecured. -/
def secLevel (f : Frame) : Nat := if f.secured then (match f.aux with
  | some a => a.level
  | none => 0) else 0
/-- The security settings are accepted (R245). -/
def secOk (f : Frame) : Bool := match f.aux with
  | some a => !f.secured || (!a.bad && a.level ≤ 7 && a.level != 4 && a.kim ≤ 3)
  | none => true

/-! Records (R242 to R244). -/

/-- The first record of a listener, not yet done, that satisfies a test. -/
def firstRec (s : State) (n : Nat) (p : Rec → Bool) : Option Rec := s.recs.find? (fun r => r.listener == n && !r.done && p r)
/-- A record is done, and no acknowledgement of it is judged any longer. -/
def dropRec (id : Nat) (s : State) : State := releaseRecs (modRec id (fun r => { r with done := true, acked := true, job := 0, parked := false }) s)
/-- A record is done; its acknowledgement, if it wants one, is still to be judged. -/
def doneRec (id : Nat) (s : State) : State :=
  releaseRecs (modRec id (fun r => { r with done := true, verified := true, acked := r.acked || !recWants r, job := 0, parked := false }) s)
/-- An earlier record of the handle is parked or not yet verified, on any listener (R243). -/
def recBlocked (s : State) (r : Rec) : Bool :=
  r.handle.isSome && s.recs.any (fun q => q.handle == r.handle && !q.done && q.id != r.id && (q.ts < r.ts || (q.ts == r.ts && q.id < r.id)))
/-- The record's berth serves it: it is resident, and LINK_STORE is on (R242). -/
def recResident (s : State) (r : Rec) : Bool := match r.handle with
  | some h => resident s h && domOn s 17
  | none => false
/-- Turnaround of the record's acknowledgement (R249). -/
def recTurn (s : State) (r : Rec) : Nat := if r.expect.isSome then r.ackDelay else ackTurn (macFor s r.ts)
/-- Its residency limit (R242). -/
def recLimit (s : State) (r : Rec) : Nat := if recWants r then r.endAt + recTurn s r - 100000 else r.endAt + 100000
/-- Parked records of a listener. -/
def parkedOn (s : State) (n : Nat) : Nat := (s.recs.filter (fun r => r.listener == n && r.parked)).length

/-- An acknowledgement is not sent (R253): the reason is recorded, counted and kept in the logbook. (DEDUCED, log 62.) -/
def ackMiss (id reason : Nat) (s : State) : State :=
  s |> modRec id (fun r => { r with acked := true }) |> setF F.linkSeqStatus_last_ack_miss 0 reason
    |> count F.linkSeqCntAckMiss_ack_not_sent 0 |> histAdd 20 reason 1 |> releaseRecs
/-- Where the record wants an acknowledgement that has not been judged. (DEDUCED, log 62.) -/
def ackMissIf (r : Rec) (reason : Nat) (s : State) : State := if recWants r && !r.acked then ackMiss r.id reason s else s

/-! Cipher jobs (R246, R248, R322, R399). -/

/-- The slots of the record's candidate keys; empty where its key does not resolve (R246, R390). -/
def recCands (s : State) (r : Rec) : List Nat := match r.handle, r.frame with
  | some h, some f => (match nbr s h, f.aux with
    | some n, some a => candidates s n.b a
    | _, _ => [])
  | _, _ => []
/-- The vault entry of a key slot of a neighbour. -/
def slotEntry (b : Berth) (i : Nat) : Nat := (if i = 0 then b.keyRef.1 else b.keyRef.2) % 8192
/-- The vault entries of the candidates. -/
def recEntries (s : State) (r : Rec) : List Nat := match r.handle with
  | some h => (match nbr s h with
    | some n => (recCands s r).map (slotEntry n.b)
    | none => [])
  | none => []
/-- A job parks in a free context slot, or is returned unstarted (R322). -/
def parkJob (id : Nat) (s : State) : State :=
  match [0, 1].find? (fun e => engineOk s e && parkedJobs s e < 4) with
  | some e => count F.linkStoreCntPark_cipher_park 0 (modRec id (fun r => { r with job := 2 + e }) s)
  | none => count F.linkStoreCntPark_slot_full 0 (modRec id (fun r => { r with job := 0 }) s)
/-- Submit the cipher job of a secured record (R246, R322): it runs, or parks for its berth or its key. (DEDUCED, log 65.) -/
def submitJob (r : Rec) (s : State) : State :=
  if 0 < r.job then s
  else if !recResident s r then parkJob r.id s
  else match recEntries s r with
    | [] => modRec r.id (fun r => { r with job := 1 }) s
    | e :: _ => if cached s e then touchKey e (modRec r.id (fun r => { r with job := 1 }) s) else parkJob r.id s

/-! Handing on (R238, R247, R251, R252, R297). -/

/-- Words 5 of an air delivery: level, quality and listener (R462). -/
def recAir (r : Rec) : Nat := unsignedOf r.level 16 + 2 ^ 16 * (r.lqi % 256) + 2 ^ 24 * r.listener
/-- A frame goes to the flow cores with a reason, as an item of class 0; refused for want of a page otherwise. -/
def frameItem (r : Rec) (h reason : Nat) (s : State) : State × Bool :=
  coreItem { id := 0, dflow := (if h < 2 ^ 17 then 4 * h else 2 ^ 20), cls := 0, what := reason, len := r.len, pages := pagesOf r.len,
             handle := h, ts := r.ts, air := recAir r } s
/-- A data frame's payload goes to NET (R23, R252, R375). (DEDUCED, log 63.) -/
def handData (r : Rec) (h : Nat) (f : Frame) (s : State) : State × Bool :=
  if f.ie then frameItem r h 0x23 s
  else match f.pay with
    | .empty => (s, true)
    | .bad => (count F.netFwdCntIphc_iphc_bad 0 s, true)
    | .exception =>
      let x := frameItem r h 0x13 s
      (if x.2 then count F.netFwdCntIphc_to_cores 0 x.1 else x.1, x.2)
    | .packet p =>
      let k := pagesOf p.len
      if !canGrant s 0 k then (quotaRefused 0 k s, false)
      else
        let s := grantPages 0 k s
        ({ s with fwd := { s.fwd with up := s.fwd.up ++ [{ pkt := p, origin := 0, handle := h, pages := k, ts := r.ts, air := recAir r }] } }, true)
    | .frag tag size off len p =>
      let k := pagesOf len
      if !canGrant s 5 k then (quotaRefused 5 k s, false)
      else
        let s := grantPages 5 k s
        ({ s with fwd := { s.fwd with frags := s.fwd.frags ++
            [{ handle := h, tag := tag, size := size, offset := off, len := len, pkt := p, pages := k, ts := r.ts }] } }, true)

/-- An enhanced beacon accepted from the time parent (R238, R297, R298): in a TIMEKEEPING cell its offset is e − m; otherwise, and
in LOST or RESCAN, the ASN and the boundary are taken from it. -/
def parentBeacon (r : Rec) (f : Frame) (s : State) : State :=
  let chip := r.ts - shrNs s r.mode
  let cell := s.slm.expects.find? (fun x => x.keeping && x.listener == some r.listener && decide (x.mid ≤ chip + x.half)
    && decide (chip ≤ x.mid + x.half))
  match cell with
  | some x =>
    let s := { s with slm := { s.slm with expects := s.slm.expects.filter (fun y => y != x) } }
    let o : Int := (x.mid : Int) - (chip : Nat)
    (match f.asn with
      | some a => if 2 ≤ syncState s && x.asn != a then
          let t := slotAt s x.asn
          parentSync o { s with slm := { s.slm with epoch := some (t, a), asn := none, look := none } }
        else parentSync o s
      | none => parentSync o s)
  | none =>
    match f.asn with
    | some a =>
      let t := chip - txOffset s ((sfList s).headD 0)
      parentSync 0 { s with slm := { s.slm with epoch := some (t, a), asn := none, look := none } }
    | none => s

/-- A synchronising event of a neighbour (R288, R292): a sampled one gives its CSL period and phase in the frame. -/
def cslIe (h : Nat) (csl : Option (Nat × Nat)) (s : State) : State :=
  match nbr s h with
  | none => s
  | some n =>
    if !n.b.sampled then syncEvent h s
    else match csl with
      | none => s
      | some (ph, p) =>
        let s := if 10 ≤ p && p ≤ 10000 && ph < p then
            modBerth h (fun b => { b with period := p, phase := ph }) s |> (if n.b.period = p && n.b.phase = ph then id else persistChange h)
          else s
        syncEvent h s

/-- A record has passed its checks and is no duplicate: it is accepted and handed on, or refused for want of a page (R247, R252).
(DEDUCED, log 63.) -/
def acceptRec (r : Rec) (h : Nat) (f : Frame) (s : State) : State :=
  let s := modNbr h (fun n => { n with lastRx := f.seq.map (fun _ => s.now), lastRefused := false, dirty := true, used := true
                                       b := { n.b with lastRxDsn := f.seq.getD n.b.lastRxDsn, lastRxMs := s.time.ns / 1000000 % 2 ^ 32 } }) s
  let s := takeGtIes h f.gt (cslIe h f.csl s)
  let s := if f.ftype = 0 && f.version = 2 && follower s && parentOf s = h then parentBeacon r f s else s
  let x := if f.ftype = 0 then frameItem r h 0x20 s else if f.ftype = 3 then frameItem r h 0x21 s else handData r h f s
  if x.2 then doneRec r.id (count F.linkSeqCntRxAccept_rx_accepted 0 x.1)
  else
    doneRec r.id (modNbr h (fun n => { n with lastRefused := true })
      (modRec r.id (fun r => { r with nack := true }) (count F.linkSeqCntRefuse_uplink_refused 0 x.1)))

/-- The duplicate test of a record that has passed its checks (R247, R252). (DEDUCED, log 63.) -/
def passRec (r : Rec) (h : Nat) (f : Frame) (s : State) : State :=
  match nbr s h with
  | none => dropRec r.id s
  | some n =>
    let dup := match f.seq, n.lastRx with
      | some q, some t =>
        let w := dupWindow (macFor s r.ts)
        w != 0 && q == n.b.lastRxDsn && decide (s.now ≤ t + w)
      | _, _ => false
    if dup then doneRec r.id (modRec r.id (fun r => { r with nack := n.lastRefused }) (count F.linkSeqCntReplay_dup_dsn 0 s))
    else acceptRec r h f s

/-- LINK_SEC_FAIL (R265): reason 0 KEY_UNKNOWN, 1 MIC_FAIL, 2 REPLAY. -/
def secFail (h reason : Nat) (s : State) : State :=
  raiseOnce Ev.linkSecFail 0 (fun n => [(h, 17), (reason, 2), (min n 65535, 16)]) s

/-- What can be decided of a record without its cipher job: a frame at level 0, and a key that does not resolve (R245, R246). -/
def advanceOne (id : Nat) (s : State) : State :=
  match findRec s id with
  | none => s
  | some r =>
    match r.handle, r.frame with
    | some h, some f =>
      if r.done || !r.closed || (r.parked && !r.cipherLate) || !recResident s r || recBlocked s r || f.ftype = 2 then s
      else match nbr s h with
        | none => dropRec id s
        | some n =>
          if n.quarantined then dropRec id (count F.linkStoreCntRebuild_quarantined_rx 0 s)
          else if secLevel f = 0 then
            if n.b.unsecuredOk then passRec r h f s else dropRec id (count F.linkSeqCntSrc_sec_unsupported 0 s)
          else if r.job = 1 && (recCands s r).isEmpty then
            dropRec id (secFail h 0 (count F.linkSeqCntSec_key_unknown 0 s))
          else s
    | _, _ => s
/-- Decide what can be decided, in order; a record behind another of its handle may precede it in the list. -/
def advance (s : State) : State := (s.recs ++ s.recs).foldl (fun s r => advanceOne r.id s) s

/-! The receive rows. -/

/-- MHR_PARSE (R237 to R242, R263). -/
def execMhrParse (n : Fin 64) (f : Frame) (s : State) : Host.Outcome State Fault Refusal :=
  match firstRec s n.val (fun r => r.frame.isNone) with
  | none => done s s
  | some r =>
    if !domOn s 15 then done s s
    else if !macOn (macFor s r.ts) then done s (dropRec r.id s)
    else
      let h := srcHandle s f
      let chip := r.ts - shrNs s r.mode
      let cell := s.slm.expects.find? (fun x => x.rank != 1 && x.listener == some n.val && decide (x.mid ≤ chip + x.half)
        && decide (chip ≤ x.mid + x.half))
      let s1 := modRec r.id (fun r => { r with
        frame := some f, handle := h, expect := cell.map (fun x => x.mid + shrNs s r.mode)
        ackDelay := (match cell with
          | some x => x.ackDelay
          | none => 0) }) s
      match h with
      | some h =>
        if f.ftype != 2 && typeOk f && filterPass (macFor s r.ts) f then done s (needBerth h 0 (if domOn s1 17 then s1 else wake 0x05 17 s1))
        else done s s1
      | none => done s s1

/-- An attempt awaits its acknowledgement on a record's port, in the record's window (R259). -/
def awaitFor (s : State) (r : Rec) : Option Tx :=
  s.awaiting.find? (fun t => t.phase == 8 && lstPort s r.listener == emPort s (match t.imm with
      | some _ => t.frameId % 8
      | none => (portEms s (lstPort s r.listener)).headD 8)
    && lstKhz s r.listener == t.khz && decide (t.ackFrom ≤ r.ts) && decide (r.ts ≤ t.ackTo)
    && (match r.frame with
      | some f => f.seq.isNone || f.seq == some t.seq
      | none => false))

/-- A frame from an unknown source whose record has closed (R240, R265). -/
def unknownSource (r : Rec) (f : Frame) (s : State) : State :=
  let s := count F.linkSeqCntSrc_unknown_src 0 s
  let (a, m) := match f.src with
    | .absent => (0, 0)
    | .short a => (a, 2)
    | .ext a => (a, 3)
  if secLevel f != 0 then
    dropRec r.id (raiseOnce Ev.linkUnknownSource 0 (fun k => [(a, 64), (m, 2), (r.listener, 6), (min k 65535, 16)]) s)
  else if paramF (macFor s r.ts) 0x06C0 0 4 24 24 = 1 then
    let x := frameItem r (2 ^ 17) 0x22 s
    dropRec r.id (if x.2 then count F.linkSeqCntRxAccept_rx_accepted 0 x.1 else count F.linkSeqCntRefuse_uplink_refused 0 x.1)
  else dropRec r.id s

/-- RECORD_TRAILER (R197, R237 to R241): a record that has failed is discarded; one whose octets were withheld is processed again
from its header; otherwise what the header decided takes effect, with the quality and the tone measurements of the frame. -/
def execRecordTrailer (n : Fin 64) (lqi : Nat) (snr : List Int) (dev : List Nat) (s : State) : Host.Outcome State Fault Refusal :=
  match firstRec s n.val (fun r => r.trailer.isSome && !r.closed) with
  | none => done s s
  | some r =>
    if !domOn s 15 then done s s
    else match r.trailer, r.frame with
      | some (1, _, withheld, _), frame =>
        if withheld && !r.reread then done s (modRec r.id (fun r => { r with reread := true, frame := none, handle := none }) s)
        else (match frame with
          | none => if macOn (macFor s r.ts) then done s s else done s (dropRec r.id s)
          | some f =>
            let r := { r with closed := true, lqi := lqi }
            let s1 := modRec r.id (fun _ => r) s
            if !typeOk f then done s (dropRec r.id (count F.linkSeqCntFilter_ftype_unsupported 0 s1))
            else if f.ftype = 2 then
              if (awaitFor s1 r).isSome then done s s1 else done s (dropRec r.id s1)
            else if !filterPass (macFor s1 r.ts) f then done s (dropRec r.id (count F.linkSeqCntFilter_not_for_us 0 s1))
            else match r.handle with
              | none => done s (unknownSource r f s1)
              | some h =>
                if !secOk f then done s (dropRec r.id (count F.linkSeqCntSrc_sec_unsupported 0 s1))
                else
                  let s1 := mapperRun h r.mode (lstPort s1 r.listener) snr dev s1
                  let s1 := match r.gtMap with
                    | some m => usedMap h m s1
                    | none => if isGt r.mode || isMrOfdm r.mode then mapMissed h s1 else s1
                  let s1 := if secLevel f = 0 then s1 else submitJob r (if domOn s1 16 then s1 else wake 0x05 16 s1)
                  done s (advance s1))
      | _, _ => done s (dropRec r.id s)

/-- A record suffers a late fault (R242, R243). (DEDUCED, log 62.) -/
def lateFault (r : Rec) (s : State) : State :=
  if recResident s r then
    ackMissIf r 1 (count F.linkSeqCntLate_late_fault 0 (modRec r.id (fun r => { r with late := true }) s))
  else if 4 ≤ parkedOn s r.listener then
    dropRec r.id (ackMissIf r 1 (count F.linkSeqCntRefuse_parked_full 0 s))
  else
    ackMissIf r 1 (count F.linkSeqCntLate_late_fault 0 (modRec r.id (fun r => { r with late := true, parked := true }) s))

/-- RESIDENCY_LIMIT (R242, R243): at its limit a record's berth is not resident, or an earlier record of its handle is unresolved. -/
def execResidencyLimit (n : Fin 64) (s : State) : Host.Outcome State Fault Refusal :=
  match firstRec s n.val (fun r => r.closed && r.handle.isSome && !r.late && (!recResident s r || recBlocked s r)) with
  | none => done s s
  | some r => done s (advance (lateFault r (waitTill (recLimit s r) s)))

/-- PARKED_RECORD_RESUME (R242, R244): the berth is resident; the record is processed again, without an acknowledgement. -/
def execParkedRecordResume (n : Fin 64) (s : State) : Host.Outcome State Fault Refusal :=
  match firstRec s n.val (fun r => r.parked && !r.cipherLate && recResident s r) with
  | none => done s s
  | some r =>
    let s1 := modRec r.id (fun r => { r with parked := false }) s
    let sec := match r.frame with
      | some f => secLevel f != 0
      | none => false
    done s (advance (if sec then submitJob { r with parked := false, job := (if 2 ≤ r.job then 0 else r.job) }
      (modRec r.id (fun r => { r with job := if 2 ≤ r.job then 0 else r.job }) s1) else s1))

/-- LATE_EXPIRED (R242, R265): a late record not verified by t_end + max_age_ms is discarded. -/
def execLateExpired (n : Fin 64) (s : State) : Host.Outcome State Fault Refusal :=
  match firstRec s n.val (fun r => r.late) with
  | none => done s s
  | some r =>
    done s (advance (dropRec r.id (waitTill (r.endAt + maxAge (macFor s r.ts)) s |> count F.linkSeqCntLate_late_expired 0
      |> raiseOnce Ev.linkLateExpired 0 (fun k => [(r.handle.getD 0, 17), (n.val, 6), (min k 65535, 16)]))))

/-- CIPHER_JOB_RESUME (R322, R391): the berth and the key that a parked job waits for are there; it runs. A job returned unstarted
is submitted again. -/
def execCipherJobResume (n : Fin 64) (s : State) : Host.Outcome State Fault Refusal :=
  let secured (r : Rec) : Bool := match r.frame with
    | some f => secLevel f != 0 && f.ftype != 2
    | none => false
  let ready (r : Rec) : Bool := r.closed && r.job != 1 && secured r && recResident s r && (match recEntries s r with
    | e :: _ => cached s e || r.job == 0
    | [] => true)
  match firstRec s n.val ready with
  | none => done s s
  | some r =>
    if r.job = 0 then done s (advance (submitJob r s))
    else done s (advance (modRec r.id (fun r => { r with job := 1 }) ((recEntries s r).head?.elim s (fun e => touchKey e s))))

/-- The replay check and what follows it, under a key slot whose MIC has verified (R247). -/
def replayCheck (r : Rec) (h slot : Nat) (f : Frame) (s : State) : State :=
  match nbr s h, f.aux with
  | some n, some a =>
    let (valid, last) := if slot = 0 then (n.b.ctrValid.1, n.b.rxCtr.1) else (n.b.ctrValid.2, n.b.rxCtr.2)
    if valid && a.ctr ≤ last then dropRec r.id (secFail h 2 (count F.linkSeqCntReplay_replay 0 s))
    else
      let s := modBerth h (fun b => if slot = 0 then { b with ctrValid := (true, b.ctrValid.2), rxCtr := (a.ctr, b.rxCtr.2) }
        else { b with ctrValid := (b.ctrValid.1, true), rxCtr := (b.rxCtr.1, a.ctr) }) s
      passRec r h f (persistChange h s)
  | _, _ => dropRec r.id s

/-- MIC_VERIFIED (R246, R247, R390): the cipher job of a record ends; `ok0` and `ok1` say whether the MIC verifies under the key of
slot 0 and of slot 1. A second key that is not cached parks the job. -/
def execMicVerified (n : Fin 64) (ok0 ok1 : Bool) (s : State) : Host.Outcome State Fault Refusal :=
  match firstRec s n.val (fun r => r.closed && r.job == 1 && recResident s r && !recBlocked s r && (match r.frame with
    | some f => f.ftype != 2
    | none => false)) with
  | none => done s s
  | some r =>
    match r.handle, r.frame with
    | some h, some f =>
      if !domOn s 16 || cipherDown s then done s s
      else
        let cands := recCands s r
        let entries := recEntries s r
        let ok (i : Nat) : Bool := if i = 0 then ok0 else ok1
        (match cands with
          | [] => done s (advance s)
          | c :: rest =>
            if ok c then done s (advance (replayCheck r h c f s))
            else match rest with
              | d :: _ =>
                if !cached s (entries.getD 1 0) then done s (parkJob r.id (modRec r.id (fun r => { r with job := 0 }) s))
                else if ok d then done s (advance (replayCheck r h d f (touchKey (entries.getD 1 0) s)))
                else done s (advance (dropRec r.id (secFail h 1 (count F.linkSeqCntSec_mic_fail 0 s))))
              | [] => done s (advance (dropRec r.id (secFail h 1 (count F.linkSeqCntSec_mic_fail 0 s)))))
    | _, _ => done s s

/-! Acknowledgements sent (R249 to R253). -/

/-- PHY mode of the acknowledgement (R250). -/
def ackPhy (r : Rec) : Nat := ackMode r.mode
/-- Octets of an acknowledgement (R250, R251): an Imm-Ack of 3 octets, or an Enh-Ack with its IEs and security, and the FCS. -/
def ackLen (s : State) (r : Rec) (f : Frame) (n : Nbr) (map : Bool) : Nat :=
  if f.version < 2 then 3 + fcsOctets r.mode
  else
    let addr := match f.src with
      | .short _ => 2
      | _ => 8
    let sec := match f.aux with
      | some a => if secLevel f = 0 then 0 else auxOctets a.kim + micOctets a.level
      | none => 0
    2 + (if f.seq.isSome then 1 else 0) + 2 + addr + 4 + (if map && n.b.gtAllowed then mapIeOctets else 0) + sec + fcsOctets r.mode
/-- Time correction in µs of a record (R251). -/
def ackCorrection (r : Rec) : Int := match r.expect with
  | some e => clampI (-2047) 2047 (roundDiv ((e : Int) - (r.ts : Nat)) 1000)
  | none => 0
/-- The vault entry that an Enh-Ack is secured with: the key of the acknowledged frame. -/
def ackKey (s : State) (r : Rec) : Option Nat := (recEntries s r).head?

/-- Judge and prepare an acknowledgement at its preparation point (R241, R249 to R253). -/
def judgeAck (r : Rec) (f : Frame) (h : Nat) (s : State) : State :=
  let p := lstPort s r.listener
  let at' := r.endAt + recTurn s r
  let s := waitTill (at' - prepNs s p) s
  if !recResident s r || (recBlocked s r && !r.verified) then lateFault r s
  else if !r.verified then
    if 4 ≤ parkedOn s r.listener && !r.parked then dropRec r.id (ackMiss r.id 2 (count F.linkSeqCntRefuse_parked_full 0 s))
    else ackMiss r.id 2 (modRec r.id (fun r => { r with late := true, parked := true, cipherLate := true }) (count F.linkSeqCntAckMiss_cipher_late 0 s))
  else
    let s := wakeAir p s
    let start := s.now + prepNs s p
    let cs := txCauses s p start
    let level := secLevel f
    match nbr s h with
    | none => ackMiss r.id 1 s
    | some n =>
      if cs.contains 2 then ackMiss r.id 3 s
      else if cs.contains 1 then ackMiss r.id 4 (countCauses p [1] s)
      else if cs.contains 3 then ackMiss r.id 5 s
      else match idleEm s p ((portEms s p).headD 8) with
        | none => ackMiss r.id 6 s
        | some e =>
          let go (sec : Option (Nat × Nat × Nat)) (s : State) : State :=
            let map := if f.version = 2 && n.mapDue.1 && gtEn s && n.b.gtAllowed then n.b.rxMap.map (fun m => (0, mapPair m)) else none
            let m := ackPhy r
            let len := ackLen s r f n map.isSome
            let t : Tx := {
              kind := 1, phase := 1, start := start, mode := m, khz := lstKhz s r.listener, width := modeWidth m, len := len
              air := airtimeNs s m len none, handle := h, seq := f.seq.getD 256, ts := s.time.ns + prepNs s p + shrNs s m
              mhr := { v2 := f.version == 2, seq := f.seq, pending := pendBit s h
                       tc := (if f.version = 2 then some (ackCorrection r, r.nack) else none), sec := sec, map := map } }
            let s := withdraw p (s.time.ns + prepNs s p) (s.time.ns + prepNs s p + t.air) s
            releaseRecs (modRec r.id (fun r => { r with acked := true }) (takeEm e t (5 * n.b.power) s))
          if f.version < 2 || level = 0 then
            if cs.contains 4 || heldDom s 17 || heldDom s 16 then ackMiss r.id 8 s else go none s
          else match ackKey s r with
            | none => ackMiss r.id 7 s
            | some k => match takeCounter k s with
              | .exhausted s => ackMiss r.id 7 (count F.linkSeqCntTxSkip_exhausted 0 s)
              | .wait s => ackMiss r.id 7 s
              | .got c s' =>
                if cs.contains 4 || heldDom s 17 || heldDom s 16 then ackMiss r.id 8 s else go (some (level, k, c)) s'

/-- The first record of a listener whose acknowledgement is to be judged. -/
def ackDue (s : State) (n : Nat) : Option Rec :=
  s.recs.find? (fun r => r.listener == n && r.closed && !r.acked && recWants r && r.handle.isSome)

/-- Judge the acknowledgement of a record. -/
def prepAck (r : Rec) (s : State) : State := match r.handle, r.frame with
  | some h, some f => judgeAck r f h s
  | _, _ => s

/-- ACK_PREPARATION_POINT (R253). -/
def execAckPreparationPoint (n : Fin 64) (s : State) : Host.Outcome State Fault Refusal :=
  match ackDue s n.val with
  | none => done s s
  | some r => if domOn s 15 then done s (prepAck r s) else done s s

/-- TX_PREPARATION_POINT (R151, R253, R258): what an emitter sends next is judged. -/
def execTxPreparationPoint (q : TxReq) (s : State) : Host.Outcome State Fault Refusal :=
  let e := q.emitter.val
  if !emBound s e then done s s
  else if q.kind.val = 4 then done s (prepTone e s)
  else if !macOn s || !domOn s 15 then done s s
  else match q.kind.val with
    | 0 => done s (prepData e s)
    | 1 => (match (List.range 64).findSome? (fun n => if lstPort s n == emPort s e then ackDue s n else none) with
      | some r => done s (prepAck r s)
      | none => done s s)
    | 2 => done s (prepBeacon e s)
    | 3 => done s (prepImm e s)
    | _ => done s (prepWake e s)

/-! Acknowledgements received (R259). -/

/-- The destination of an Enh-Ack is the part. -/
def ackForUs (s : State) (f : Frame) : Bool := f.version != 2 || (match f.dst with
  | .ext a => a == ownExt s
  | .short a => a == ownShort s
  | .absent => false)

/-- An attempt ends with its acknowledgement (R259, R292, R297). -/
def takeAck (t : Tx) (r : Rec) (f : Frame) (s : State) : State :=
  let nack := match f.tc with
    | some (_, b) => b && f.version == 2
    | none => false
  let s := if t.kind = 0 then takeGtIes t.handle f.gt (cslIe t.handle f.csl s) else s
  let s := match f.tc with
    | some (c, _) => if t.kind = 0 && follower s && parentOf s = t.handle && f.version = 2 then parentSync (-1000 * c) s else s
    | none => s
  dropRec r.id (if nack then attemptFails t true s else attemptAcked t s)

/-- ACK_RECEIVED (R259): a record matches the attempt that waits in its window; a secured one verifies as R246 and R247 say. -/
def execAckReceived (n : Fin 64) (ok0 ok1 : Bool) (s : State) : Host.Outcome State Fault Refusal :=
  match firstRec s n.val (fun r => r.closed && (match r.frame with
    | some f => f.ftype == 2
    | none => false)) with
  | none => done s s
  | some r =>
    match r.frame, awaitFor s r with
    | some f, some t =>
      let h := if t.kind = 0 then some t.handle else r.handle
      if !ackForUs s f || !secOk f then done s (dropRec r.id s)
      else if secLevel f = 0 then done s (takeAck t r f s)
      else (match h with
        | none => done s (dropRec r.id s)
        | some h =>
          match nbr s h, f.aux with
          | some nb, some a =>
            let cands := candidates s nb.b a
            let good (i : Nat) : Bool := (if i = 0 then ok0 else ok1) && (let (v, l) := if i = 0 then (nb.b.ctrValid.1, nb.b.rxCtr.1)
              else (nb.b.ctrValid.2, nb.b.rxCtr.2)
              !v || decide (l < a.ctr))
            (match cands.find? good with
              | none => done s (dropRec r.id s)
              | some i =>
                let s1 := modBerth h (fun b => if i = 0 then { b with ctrValid := (true, b.ctrValid.2), rxCtr := (a.ctr, b.rxCtr.2) }
                  else { b with ctrValid := (b.ctrValid.1, true), rxCtr := (b.rxCtr.1, a.ctr) }) s
                done s (takeAck t r f (persistChange h s1)))
          | _, _ => done s (dropRec r.id s))
    | _, _ => done s (dropRec r.id s)

/-! Registers and commands (R263 to R266). -/

/-- LINK_SEQ_STATUS (R264). -/
def seqStatusW (s : State) : Word :=
  wordOf [(b2n (heldDom s 14 || heldDom s 15), 0), (b2n (heldDom s 17 || heldDom s 16 || heldDom s 15 || heldDom s 14), 1),
    ((s.recs.filter (·.parked)).length, 8), (getF F.linkSeqStatus_last_ack_miss 0 s, 20)]
/-- The sequencer's counters from 0x0040_0020, by place. -/
def seqCntW (s : State) (k : Nat) : Word :=
  let two (a b : Field) : Word := wordOf [(getF a 0 s, 0), (getF b 0 s, 16)]
  match k with
  | 0 => w32 (getF F.linkSeqCntRxAccept_rx_accepted 0 s)
  | 1 => two F.linkSeqCntFilter_not_for_us F.linkSeqCntFilter_ftype_unsupported
  | 2 => two F.linkSeqCntSrc_unknown_src F.linkSeqCntSrc_sec_unsupported
  | 3 => two F.linkSeqCntSec_key_unknown F.linkSeqCntSec_mic_fail
  | 4 => two F.linkSeqCntReplay_replay F.linkSeqCntReplay_dup_dsn
  | 5 => two F.linkSeqCntLate_late_fault F.linkSeqCntLate_late_expired
  | 6 => w32 (getF F.linkSeqCntAck_ack_sent 0 s)
  | 7 => two F.linkSeqCntAckMiss_ack_not_sent F.linkSeqCntAckMiss_cipher_late
  | 8 => w32 (getF F.linkSeqCntTx_tx_attempts 0 s)
  | 9 => w32 (getF F.linkSeqCntTxOk_tx_ok 0 s)
  | 10 => two F.linkSeqCntTxFail_no_ack F.linkSeqCntTxFail_tx_late
  | 11 => two F.linkSeqCntTxSkip_hold_skip F.linkSeqCntTxSkip_exhausted
  | _ => two F.linkSeqCntRefuse_uplink_refused F.linkSeqCntRefuse_parked_full
/-- The fields of those counters. -/
def seqCounters : List Field := [F.linkSeqCntRxAccept_rx_accepted, F.linkSeqCntFilter_not_for_us, F.linkSeqCntFilter_ftype_unsupported,
  F.linkSeqCntSrc_unknown_src, F.linkSeqCntSrc_sec_unsupported, F.linkSeqCntSec_key_unknown, F.linkSeqCntSec_mic_fail,
  F.linkSeqCntReplay_replay, F.linkSeqCntReplay_dup_dsn, F.linkSeqCntLate_late_fault, F.linkSeqCntLate_late_expired,
  F.linkSeqCntAck_ack_sent, F.linkSeqCntAckMiss_ack_not_sent, F.linkSeqCntAckMiss_cipher_late, F.linkSeqCntTx_tx_attempts,
  F.linkSeqCntTxOk_tx_ok, F.linkSeqCntTxFail_no_ack, F.linkSeqCntTxFail_tx_late, F.linkSeqCntTxSkip_hold_skip,
  F.linkSeqCntTxSkip_exhausted, F.linkSeqCntRefuse_uplink_refused, F.linkSeqCntRefuse_parked_full]
/-- LINK_FTQ_STAT[n] (R243, R264). -/
def ftqStatW (s : State) (n : Nat) : Word :=
  if !listenerPresent s n then 0 else
  let held := ((s.recs.filter (fun r => r.listener == n)).dropWhile (fun r => !r.parked)).filter (fun r => r.done && !r.freed)
  wordOf [(ftqFree s n, 0), (parkedOn s n, 12), ((held.map (fun r => recWords r.len)).sum, 16)]

/-- The check of MAC_CONFIG's words (R266). -/
def infoMac (ws : List Word) : RecInfo :=
  let w := wAt ws 0
  let ext := ofWords ((ws.drop 1).take 2)
  let c := wAt ws 3
  let a := wAt ws 4
  { ok := ws.length == 5 && onlyFields ws [[(31, 0)], [(31, 0)], [(31, 0)], [(12, 0), (24, 16)], [(31, 0)]]
      && fieldOf w 15 0 != 0xFFFF && fieldOf w 31 16 != 0xFFFF && ext != 0 && ext != 2 ^ 64 - 1
      && 192 ≤ fieldOf c 12 0 && fieldOf c 12 0 ≤ 5000 && 5 ≤ fieldOf c 23 16 && fieldOf c 23 16 ≤ 100
      && 1 ≤ fieldOf a 15 0 && fieldOf a 15 0 ≤ 1000 && fieldOf a 31 16 ≤ 10000 }
/-- MAC_CONFIG. -/
def bodyMacConfig (g : Goruz) (s : State) : Res := stageBody 0x06C0 (infoMac g.words) g s
/-- MAC_STATUS. -/
def bodyMacStatus (g : Goruz) (s : State) : Res :=
  if !onlyFields g.words [[(0, 0)]] then fails .badParam s
  else
    .now .ok (seqStatusW s :: (List.range 13).map (seqCntW s))
      (if gf g 1 0 0 = 1 then seqCounters.foldl (fun s f => setF f 0 0 s) s else s)
/-- MAC_FTQ_STATUS. -/
def bodyMacFtqStatus (g : Goruz) (s : State) : Res :=
  let n := gf g 1 5 0
  if !listenerPresent s n then fails .absent s
  else if !onlyFields g.words [[(5, 0)]] then fails .badParam s
  else .now .ok [ftqStatW s n] s

/-- A berth is freed for a fetch, where none is free, by the eviction of a clean one that nothing claims (R319). -/
def berthForFetch (s : State) : State :=
  if freeBerths s != 0 then s
  else match s.nbrs.find? (fun e => evictable s e.1 e.2 && !e.2.dirty && e.2.claim.isNone) with
    | some e => evict e.1 s
    | none => s

/-- BERTH_FETCH_COMPLETE (R316, R317, R331): the berth is resident and its waiters go on in class order. A record built since the
start is read from DRAM, which is woken for it; any other is built from its persistent entry. It waits while no berth is free. -/
def execBerthFetchComplete (h : Nat) (env : Env) (s : State) : Host.Outcome State Fault Refusal :=
  match nbr s h with
  | none => done s s
  | some n =>
    if n.fetch.isNone || !domOn s 17 then done s s
    else
      let s1 := berthForFetch (if !n.built || domOn s 25 then s else wakeAllBut 0x05 env.dead [25] s)
      if freeBerths s1 = 0 || (n.built && !ddrUp s1) then done s s1 else done s (advance (berthArrives h s1))

end Sys2Proof.Machine
end

