-- ==== Sys2Proof/Machine/Host.lean ====
section
/-! DEFINITION. Host interfaces: the PCIe function and its resets, the rings and their descriptors, event records, MSI-X,
Ethernet, LPDDR4X, and the commands of the chapter (R451 to R479, R557, R574). -/

namespace Sys2Proof.Machine
open Sys2Proof

/-! PCIe (R451 to R453, R557). -/

/-- Registers of a range of addresses return to their reset values. -/
def clearRange (lo hi : Nat) (s : State) : State :=
  { s with regs := s.regs.filter (fun e => decide (e.1 < 32 * lo) || decide (32 * hi ≤ e.1)) }

/-- The configuration space, the MSI-X table and the PBA at their reset values (R453). (DEDUCED, log 74.) -/
def configReset (s : State) : State :=
  { s with net := { s.net with msix := [], pba := 0, msixEn := false, funcMask := false, busMaster := false, d3hot := false } }
    |> setF F.netPcieStatus_msix_en 0 0 |> setF F.netPcieStatus_bus_master 0 0

/-- Both FTQs of a host lane are emptied; a command that executes goes on, and its response will be discarded (R453).
(DEDUCED, log 69.) -/
def pcieLaneReset (n : Nat) (s : State) : State :=
  let l := lane s n
  let keep : Lane := { badCmd := l.badCmd, badResp := l.badResp, testCmd := l.testCmd, testResp := l.testResp
                       ex := l.ex.map (fun x => { x with dropped := true }) }
  let s := s |> setLane n keep |> setF F.keepGzStat_resync_wait n 0 |> setF F.keepGzStat_empty n 0 |> setF F.keepGzStat_overrun n 0
  match s.cfg.owner with
  | some o => if o.val = n && s.cfg.pending.isNone then unstage s else s
  | none => s

/-- What a reset of NET_PCIE loses beside its registers (R453). (DEDUCED, log 69.) -/
def pcieLose (s : State) : State :=
  { clearRange 0x804000 0x804400 s with
    net := { s.net with irq := [], imms := s.net.imms.map (fun i => { i with ring := 32 }) }
    fwd := { s.fwd with deliver := s.fwd.deliver.map (fun d => { d with moved := 0 }) } }

/-- PCIE_RESET (R453): PERST (0), a hot reset (1), a function-level reset (2) or the link going down (3). -/
def execPcieReset (cause : Fin 4) (s : State) : Host.Outcome State Fault Refusal :=
  if !domOn s 24 || !pcieUsed s then done s s
  else
    done s (s |> pcieLose |> configReset |> pcieLaneReset 0 |> pcieLaneReset 1 |> count F.netPcieCnt_resets 0
      |> raise Ev.netPcieReset [(cause.val, 2)] |> pcieTrain)

/-- A message held pending on a vector is sent, if nothing holds it any longer (R557). -/
def msixFlush (v : Nat) (s : State) : State :=
  if bitOf s.net.pba v && s.net.msixEn && !s.net.funcMask && s.net.busMaster && !s.net.d3hot && getB F.netPcieStatus_link_up 0 s && !bitOf (tabGet s.net.msix (4 * v + 3) 1) 0 then
    msixSend v { s with net := { s.net with pba := setBit s.net.pba v false } }
  else s

/-- PCIE_D3HOT (R453): the rings pause in D3hot, and resume on return to D0. -/
def execPcieD3hot (enter : Bool) (s : State) : Host.Outcome State Fault Refusal :=
  if domOn s 24 && pcieUsed s then
    done s ((List.range 64).foldl (fun s v => msixFlush v s) { s with net := { s.net with d3hot := enter } })
  else done s s

/-- The value that word k of an MSI-X table entry reads as. -/
def msixWord (s : State) (k : Nat) : Nat := tabGet s.net.msix k (if k % 4 = 3 then 1 else 0)
/-- A write of a word of the MSI-X table (R557). -/
def msixWrite (k : Nat) (w : Word) (s : State) : State :=
  let v := if k % 4 = 3 then w.toNat % 2 else if k % 4 = 0 then w.toNat / 4 * 4 else w.toNat
  msixFlush (k / 4) { s with net := { s.net with msix := tabPut s.net.msix k v } }

/-- MSIX_VECTOR_UNMASK (R557): vector v is unmasked, or configuration space is written: MSI-X Enable, Function Mask and Bus
Master. (PRESUMED, log 25.) -/
def execMsixVectorUnmask (v : Fin 64) (cfg : Option (Bool × Bool × Bool)) (s : State) : Host.Outcome State Fault Refusal :=
  if !domOn s 24 || !pcieUsed s then done s s
  else match cfg with
    | none => done s (msixWrite (4 * v.val + 3) 0 s)
    | some (en, mask, master) =>
      done s ((List.range 64).foldl (fun s v => msixFlush v s)
        ({ s with net := { s.net with msixEn := en, funcMask := mask, busMaster := master } }
          |> setB F.netPcieStatus_msix_en 0 en |> setB F.netPcieStatus_bus_master 0 master))

/-! Rings (R454 to R458). -/

/-- A write of NET_RING_TAIL (R455, R457). -/
def ringTailWrite (r : Nat) (w : Word) (s : State) : State :=
  let s := setF F.netRingTail_tail r (w.toNat % 2 ^ 17) s
  if getB F.netRingCfg_enable r s && ringSize s r < ringUsed s r then haltRing r 3 s else s

/-- RING_TAIL_WRITE. -/
def execRingTailWrite (r : Fin 32) (w : Word) (s : State) : Host.Outcome State Fault Refusal :=
  let s1 := wake 0x04 21 s
  if domOn s1 21 then done s (ringTailWrite r w s1) else done s s1

/-- The fields of NET_RING_CFG as a word holds them. -/
def ringCfgTake (r : Nat) (w : Word) (s : State) : State :=
  s |> setF F.netRingCfg_enable r (fieldOf w 0 0) |> setF F.netRingCfg_size_log2 r (fieldOf w 6 2)
    |> (fun s => if r < 16 then s else setF F.netRingCfg_type r (fieldOf w 10 8) s)
    |> setF F.netRingCfg_vector r (fieldOf w 21 16) |> setF F.netRingCfg_irq_en r (fieldOf w 22 22)
    |> setF F.netRingCfg_coal_count r (fieldOf w 31 24)

/-- A word gives the fields of NET_RING_CFG beside enable as they stand. -/
def ringCfgSame (s : State) (r : Nat) (w : Word) : Bool :=
  getF F.netRingCfg_size_log2 r s == fieldOf w 6 2 && (r < 16 || getF F.netRingCfg_type r s == fieldOf w 10 8)
    && getF F.netRingCfg_vector r s == fieldOf w 21 16 && getF F.netRingCfg_irq_en r s == fieldOf w 22 22
    && getF F.netRingCfg_coal_count r s == fieldOf w 31 24

/-- A write of NET_RING_CFG (R454, R457): while the ring is enabled a write of its other fields is ignored and sets cfg_reject;
disabling and enabling it clears a halt. -/
def ringCfgWrite (r : Nat) (w : Word) (s : State) : State :=
  if getB F.netRingCfg_enable r s then
    let s := if ringCfgSame s r w then s else setF F.netRingStat_cfg_reject r 1 s
    if fieldOf w 0 0 = 0 then setF F.netRingCfg_enable r 0 s else s
  else
    let s := ringCfgTake r w s
    if fieldOf w 0 0 = 1 then s |> setF F.netRingStat_halted r 0 |> setF F.netRingStat_halt_reason r 0 else s

/-- RING_ENABLE. -/
def execRingEnable (r : Fin 32) (w : Word) (s : State) : Host.Outcome State Fault Refusal :=
  let s1 := wake 0x04 21 s
  if domOn s1 21 then done s (ringCfgWrite r w s1) else done s s1

/-- The part takes the descriptor at HEAD, whose words are given: one whose own bit is clear halts the ring (R455, R457). -/
def takeDesc (r ty : Nat) (ws : List Word) (s : State) (k : State → State) : State :=
  if !ringLive s r || ringType s r != ty || ringUsed s r = 0 then s
  else if fieldOf (wAt ws 0) 31 31 = 0 then haltRing r 1 s
  else k s

/-- Length of a descriptor. -/
def descLen (ws : List Word) : Nat := fieldOf (wAt ws 0) 15 0
/-- The buffer address of a descriptor. -/
def descAddr (ws : List Word) : Nat := (wAt ws 1).toNat + 2 ^ 32 * (wAt ws 2).toNat

/-- PACKET_DESCRIPTOR (R459): the packet is decided, and the descriptor completes with what the decision came to. (DEDUCED, log 66.) -/
def packetDesc (r : Nat) (ws : List Word) (p : Pkt) (noPath retry : Bool) (s : State) : State :=
  if descLen ws = 0 then ringDone r ws 0x80 s
  else if !onlyFields ws [[(31, 31), (15, 0)], [(31, 0)], [(31, 0)]] then ringDone r ws 0x82 s
  else if domDead s 19 then ringDone r ws 0x0D s
  else
    let s := if domOn s 19 then s else wake 0x05 19 s
    let u : UpPkt := { pkt := { p with len := descLen ws }, origin := 3, handle := r, pages := 0, ts := s.time.ns }
    let d := decidePkt u noPath retry s
    ringDone r ws d.2 d.1

/-- PACKET_DESCRIPTOR. (DEDUCED, log 66.) -/
def execPacketDescriptor (r : Fin 32) (ws : List Word) (p : Pkt) (noPath retry : Bool) (s : State) :
    Host.Outcome State Fault Refusal :=
  done s (takeDesc r 1 ws s (packetDesc r ws p noPath retry))

/-- The fields of an IMMEDIATE descriptor are in range (R460). -/
def immDescOk (s : State) (ws : List Word) (m : ImmHdr) : Bool :=
  let f (k hi lo : Nat) : Nat := fieldOf (wAt ws k) hi lo
  let level := f 0 27 25
  let port := planPort s (f 4 13 11)
  onlyFields ws [[(31, 31), (27, 24), (15, 0)], [(31, 0)], [(31, 0)], [(31, 16)], [(22, 0)], [(31, 0)], [(31, 0)], [(31, 0)]]
    && level != 4 && (m.secured == (level != 0)) && modeOk (f 4 7 0) && decide (f 4 22 14 < planCount s (f 4 13 11))
    && !(portEms s port).isEmpty

/-- An IMMEDIATE descriptor is taken: it is checked, its pages are granted, and it is placed (R460). -/
def immDesc (r : Nat) (ws : List Word) (m : ImmHdr) (s : State) : State :=
  if descLen ws = 0 then ringDone r ws 0x03 (countCompletion 0x03 s)
  else if !immDescOk s ws m then ringDone r ws 0x82 s
  else
    let k := pagesOf (descLen ws)
    if !canGrant s 6 k then ringDone r ws 0x81 (quotaRefused 6 k s)
    else
      let id := s.net.nextImm
      let i : Imm := { id := id, ring := r, slot := ringSlot s r, ws := ws, ackReq := m.ackReq, seq := m.seq, pages := k }
      placeImm id (grantPages 6 k { s with net := { s.net with imms := s.net.imms ++ [i], nextImm := id + 1 } })

/-- IMMEDIATE_DESCRIPTOR (R460): a ring whose earlier descriptor has not completed takes none. -/
def execImmediateDescriptor (r : Fin 32) (ws : List Word) (m : ImmHdr) (s : State) : Host.Outcome State Fault Refusal :=
  if s.net.imms.any (fun i => i.ring == r.val) then done s s
  else done s (takeDesc r 2 ws s (immDesc r ws m))

/-- The fields of a CIPHER descriptor are in range (R405, R461). -/
def cipherDescOk (ws : List Word) : Bool :=
  let op := fieldOf (wAt ws 0) 25 24
  let aad := fieldOf (wAt ws 4) 15 0
  let iv := wAt ws 5 == 0 && wAt ws 6 == 0 && wAt ws 7 == 0
  onlyFields ws [[(31, 31), (25, 24), (15, 0)], [(31, 0)], [(31, 0)], [(28, 16)], [(15, 0)], [(31, 0)], [(31, 0)], [(31, 0)]]
    && (match op with
      | 0 => iv && decide (aad ≤ descLen ws)
      | 1 => decide (aad + 16 ≤ descLen ws)
      | 2 => iv && aad == 0
      | _ => false)

/-- The IV that the host engine forms (R405): octet 0 lowest. -/
def gcmIv (s : State) (c : Nat) : Nat :=
  fieldOf (paramW s 0x0701 0 1) 15 8 + 0x20 * 256
    + ((List.range 8).map (fun i => bitsOf c (8 * (7 - i)) 8 * 2 ^ (32 + 8 * i))).sum

/-- Words 1 to 4 of a write-back that carry a tag or a MAC (R461). -/
def tagWords (t : Nat) : List Word := (List.range 4).map (fun k => wordAt t k)

/-- A CIPHER job (R399, R403, R405, R461): `data` is what its buffer holds. A GCM job waits for its key to be cached (R391) and for
its counter's lease (R406). (DEDUCED, log 65.) -/
def cipherDesc (r : Nat) (ws data : List Word) (tagOk : Bool) (s : State) : State :=
  let op := fieldOf (wAt ws 0) 25 24
  let e := fieldOf (wAt ws 3) 28 16
  let aad := fieldOf (wAt ws 4) 15 0
  let len := descLen ws
  let words := (len + 3) / 4
  if len = 0 then ringDone r ws 0x80 s
  else if !cipherDescOk ws then ringDone r ws 0x82 s
  else match keyOf s e with
    | none => ringDone r ws 0x0A s
    | some k =>
      if k.usage != (if op = 2 then 4 else 2) then ringDone r ws 0x0A s
      else if !engineOk s (if op = 2 then 3 else 2) || domDead s 21 then ringDone r ws 0x86 s
      else if !s.keys.rootOk || tamperHold s then s
      else if op = 2 then
        ringWrite r (backWord0 (wAt ws 0) 0 :: tagWords (Config.cmacOctets k.key len data) ++ (ws.drop 5).take 3) s
      else if !cached s e then s
      else if op = 1 then
        let s := count F.netHciphCntJobs_jobs 0 (touchKey e s)
        if tagOk then
          ringDone r ws 0 (put (.buffer r (descAddr ws) (Config.gcmBuffer k.key (ofWords (ws.drop 5)) aad len data false)) s)
        else ringDone r ws 0x85 (put (.buffer r (descAddr ws) (List.replicate words 0)) s)
      else match takeCounter e s with
        | .wait s => s
        | .exhausted s => ringDone r ws 0x09 s
        | .got c s =>
          let iv := gcmIv s c
          let s := count F.netHciphCntJobs_jobs 0 (touchKey e s)
          s |> put (.buffer r (descAddr ws) (Config.gcmBuffer k.key iv aad len data true))
            |> ringWrite r (backWord0 (wAt ws 0) 0 :: tagWords (Config.gcmTag k.key iv aad len data)
                ++ (List.range 3).map (fun i => wordAt iv i))

/-- CIPHER_DESCRIPTOR. -/
def execCipherDescriptor (r : Fin 32) (ws data : List Word) (tagOk : Bool) (s : State) : Host.Outcome State Fault Refusal :=
  done s (takeDesc r 3 ws s (cipherDesc r ws data tagOk))

/-! Deliveries and event records (R462 to R464, R574). -/

/-- The write-back of a delivery (R462): `n` octets written, the delivery going on or not. -/
def deliverWords (ws : List Word) (d : Delivery) (n : Nat) (more : Bool) : List Word :=
  let valid := decide (d.handle < 2 ^ 17)
  [wordOf [(n, 0), (b2n more, 24)], wAt ws 1, wAt ws 2, wAt ws 3,
    wordOf [((if valid then d.handle else 0), 0), (b2n valid, 17), (d.cls, 18), (d.reason, 20), (d.kind, 28)],
    w32 (if d.kind = 0 then d.air else 0), wordAt d.ts 0, wordAt d.ts 1]

/-- Change the first delivery of a ring; none removes it. -/
def modDeliver (r : Nat) (f : Delivery → Option Delivery) : List Delivery → List Delivery
  | [] => []
  | d :: t => if d.ring = r then (match f d with
      | some x => x :: t
      | none => t)
    else d :: modDeliver r f t

/-- The descriptor at HEAD of a DELIVER ring takes what fits of the ring's first delivery (R462); one of length 0 carries none
(R458). -/
def deliverDesc (r : Nat) (ws : List Word) (d : Delivery) (s : State) : State :=
  let cap := descLen ws
  if cap = 0 then ringDone r ws 0x80 s
  else
    let left := d.len - d.moved
    if cap < left then
      ringWrite r (deliverWords ws d cap true)
        { s with fwd := { s.fwd with deliver := modDeliver r (fun d => some { d with moved := d.moved + cap, waits := false }) s.fwd.deliver } }
    else
      ringWrite r (deliverWords ws d left false)
        (freeGroup d.group d.pages { s with fwd := { s.fwd with deliver := modDeliver r (fun _ => none) s.fwd.deliver } })

/-- DELIVERY_WRITE (R24, R462, R463): a delivery that finds no descriptor waits, and each wait is counted once. NET_DMA is woken for it; with
NET_DMA FAILED or blocked the delivery ends, and its pages are freed. (DEDUCED, log 40.) -/
def execDeliveryWrite (r : Fin 32) (ws : List Word) (s : State) : Host.Outcome State Fault Refusal :=
  match s.fwd.deliver.find? (fun d => d.ring == r.val) with
  | none => done s s
  | some d =>
    if domDead s 21 then
      done s (freeGroup d.group (d.pages - d.spilled) { s with fwd := { s.fwd with deliver := modDeliver r (fun _ => none) s.fwd.deliver } })
    else if d.spilled != 0 || d.parked then done s s
    else
    let s0 := s
    let s := if domOn s 21 then s else wake 0x05 21 s
    if domOn s 21 && (!getB F.netRingCfg_enable r s || ringUsed s r = 0) then
      if d.waits then done s0 s
      else done s0 (count F.netRingStat_no_desc r { s with fwd := { s.fwd with
        deliver := modDeliver r (fun d => some { d with waits := true }) s.fwd.deliver } })
    else done s0 (takeDesc r 4 ws s (deliverDesc r ws d))

/-- The words of an event record (R464). -/
def recordWords (lost seq : Nat) (e : EvRec) : List Word :=
  [wordOf [(min lost 65535, 0), (seq % 32768, 16)], 0, wordOf [(e.num, 0), (e.region, 24)], wordAt e.time 0, wordAt e.time 1,
    wordAt e.contents 0, wordAt e.contents 1, wordAt e.contents 2]

/-- The oldest event leaves the queue as a record (R464). -/
def takeEvent (s : State) : Option (List Word × State) := match s.evq.q with
  | [] => none
  | e :: t => some (recordWords s.evq.lost s.evq.seq e, { s with evq := { s.evq with q := t, lost := 0, seq := (s.evq.seq + 1) % 32768 } })

/-- EVENT_RECORD_WRITE (R24, R464): the oldest event is written to the slot at HEAD of RING15. (DEDUCED, log 40.) -/
def execEventRecordWrite (s : State) : Host.Outcome State Fault Refusal :=
  if eventsQueued s || !getB F.netRingCfg_enable 15 s || ringUsed s 15 = 0 || s.evq.q.isEmpty then done s s
  else
    let s1 := if domOn s 21 || domDead s 21 then s else wake 0x05 21 s
    if !ringLive s1 15 then done s s1
    else match takeEvent s1 with
      | none => done s s1
      | some (ws, s2) => done s (ringWrite 15 ws s2)

/-- RATE_LIMIT_SECOND_END (R574): occurrences that came within the second are reported at its end. -/
def execRateLimitSecondEnd (event scope : Nat) (s : State) : Host.Outcome State Fault Refusal :=
  let k := event * 65536 + scope
  match tabFind s.evq.rate k with
  | none => done s s
  | some r =>
    if r.pend = 0 then done s s
    else
      let s1 := waitTill (r.start + 1000000000) s
      done s (raise r.ev r.items { s1 with evq := { s1.evq with rate := tabPut s1.evq.rate k ⟨r.ev, s1.now, 0, []⟩ } })

/-- DMA_READ_FAILURE (R452): of a descriptor's data, which completes it, or of a descriptor, which halts its ring. -/
def execDmaReadFailure (r : Fin 32) (ws : Option (List Word)) (s : State) : Host.Outcome State Fault Refusal :=
  if !ringLive s r || ringUsed s r = 0 then done s s
  else
    let s1 := count F.netPcieCnt_dma_errors 0 s
    match ws with
    | none => done s (haltRing r 2 s1)
    | some ws => if r.val = 15 then done s s else done s (ringDone r ws 0x83 s1)

/-! Ethernet (R467 to R471, R474). -/

/-- VLAN identifier of a port. -/
def ethVid (s : State) (e : Nat) : Nat := paramF s 0x0140 e 2 11 0
/-- The port is enabled by the committed configuration. -/
def ethEnabled (s : State) (e : Nat) : Bool := ethPresent s e && paramF s 0x0140 e 1 1 1 == 1
/-- The domain of a port. -/
def ethDom (e : Nat) : Nat := 22 + e
/-- A frame is addressed to the part: its MAC address, broadcast or IPv6 multicast; Yowiob and PTP frames by their own rules (R424,
R468, R480, DEDUCED, log 26). -/
def ethForPart (s : State) (e : Nat) (f : EthFrame) : Bool :=
  f.dst == ethMac s e || f.dst == 2 ^ 48 - 1 || f.dst % 65536 == 0x3333
    || (match f.pay with
      | .ptp => true
      | .yowiob => f.dst == clusterMac s
      | _ => false)
/-- A unicast address. -/
def macUnicast (a : Nat) : Bool := a % 2 == 0
/-- EtherType of what a frame carries. -/
def ethTypeOf (s : State) : EthPay → Nat
  | .ipv6 _ => 0x86DD
  | .ptp => 0x88F7
  | .yowiob => paramF s 0x0B01 0 3 15 0
  | .other => 0

/-- dup_ms in ns. -/
def dupNs (s : State) : Nat := 1000000 * paramF s 0x0144 0 1 29 16
/-- A frame with a sequence number has been received before within dup_ms: the first is entered in the table of 4,096 (R470). -/
def dupCheck (src seq : Nat) (s : State) : State × Bool :=
  let live := s.net.dups.filter (fun d => decide (s.now < d.2.2 + dupNs s))
  if live.any (fun d => d.1 == src && d.2.1 == seq) then ({ s with net := { s.net with dups := live } }, true)
  else
    let kept := if live.length < 4096 then live else live.drop 1
    ({ s with net := { s.net with dups := kept ++ [(src, seq, s.now)] } }, false)

/-- What a frame that the part takes becomes (R468): a packet waits for its decision. (DEDUCED, log 26.) -/
def ethTake (e : Nat) (f : EthFrame) (s : State) : State :=
  let s := count F.netEthCntRx_rx_frames e s
  match f.pay with
  | .ipv6 p => { s with fwd := { s.fwd with up := s.fwd.up ++ [{ pkt := p, origin := 1 + e, handle := 0, pages := 0, ts := s.time.ns }] } }
  | _ => s

/-- A ring frame is passed to the other port under HSR (R470). (DEDUCED, log 67.) -/
def hsrPass (e : Nat) (f : EthFrame) (s : State) : State :=
  let o := 1 - e
  if !getB F.netEthStatus_link o s then count F.netEthCntDrop_link_drop o s
  else
    let s := s |> put (.eth o (ethTypeOf s f.pay) f.len) |> count F.netEthCntTx_tx_frames o
    match f.red with
    | some q => put (.redTag o f.src q) s
    | none => s

/-- A frame that is whole and of a size that the port takes (R468, R470). -/
def ethFrame (e : Nat) (f : EthFrame) (s : State) : State :=
  let own := redundMode s != 0 && (f.src == ethMac s 0 || f.src == ethMac s 1)
  if own then s
  else
    let s := if redundMode s = 2 && f.dst != ethMac s e then hsrPass e f s else s
    if !ethForPart s e f then s
    else if (if ethVid s e = 0 then f.vid.isSome else f.vid != some (ethVid s e)) then count F.netEthCntType_vid_drop e s
    else match f.pay with
      | .other => count F.netEthCntType_other_type e s
      | _ =>
        match (if redundMode s = 0 then none else f.red) with
        | none => ethTake e f s
        | some q =>
          let d := dupCheck f.src q s
          if d.2 then count F.netEthCntDup_dup_discard e d.1 else ethTake e f d.1

/-- ETH_FRAME_RECEIVE (R468, R470). (DEDUCED, log 67.) -/
def execEthFrameReceive (e : Fin 2) (f : EthFrame) (s : State) : Host.Outcome State Fault Refusal :=
  if !domOn s (ethDom e) || !getB F.netEthStatus_link e s then done s s
  else if !f.fcsOk then done s (count F.netEthCntErr_fcs_err e s)
  else if ethMtu s e + 18 + (if ethVid s e = 0 then 0 else 4) + (if f.red.isSome then 6 else 0) < f.len then
    done s (count F.netEthCntErr_oversize e s)
  else done s (ethFrame e f s)

/-- The speeds that a mode admits, as the code of the status (R467). -/
def ethSpeedOk (mode speed : Nat) : Bool := match mode with
  | 0 => speed ≤ 2
  | 1 => speed == 2
  | 2 => speed == 3
  | _ => false

/-- The link of a port comes up (R474). (DEDUCED, log 99.) -/
def linkUp (e speed : Nat) (s : State) : State :=
  let m := paramF s 0x0140 e 1 3 2
  yowNote s (s |> setF F.netEthStatus_link e 1 |> setF F.netEthStatus_speed e speed
    |> setB F.netEthStatus_an_done e (m == 0 || (m == 1 && paramF s 0x0140 e 1 4 4 == 1))
    |> raise Ev.netEthLink [(e, 1), (1, 1), (speed, 2)])

/-- ETH_LINK_CHANGE (R35, R66, R427, R467, R474): a link change wakes the port's domain; a link comes up only on an enabled port with the FWD line open; PTP on a port whose link
goes down is lost, and so is the source CLUSTER where the part leaves MEMBER (R487). (DEDUCED, log 99.) -/
def execEthLinkChange (e : Fin 2) (up : Bool) (speed : Fin 4) (s : State) : Host.Outcome State Fault Refusal :=
  let is := getB F.netEthStatus_link e s
  if domDead s (ethDom e) || is == up then done s s
  else if up && (!ethEnabled s e || !fwdOpen s || !ethSpeedOk (paramF s 0x0140 e 1 3 2) speed) then done s s
  else
    let s0 := if domOn s (ethDom e) then s else wake 0x0C (ethDom e) s
    if !domOn s0 (ethDom e) then done s s0
    else
    let s1 := if up then linkUp e speed s0 else linkDown e s0
    done s (leaveMember s0 (if !up && timeSource s = 1 && ptpPort s = e.val then timeLoss s1 else s1))

/-- SUPERVISION_FRAME_SEND (R470): every 2 s, on both ports. -/
def execSupervisionFrameSend (s : State) : Host.Outcome State Fault Refusal :=
  if redundMode s = 0 || !fwdOpen s then done s s
  else
    let s1 := waitTill (s.net.supAt + 2000000000) s
    let es := [0, 1].filter (fun e => getB F.netEthStatus_link e s1 && domOn s1 (ethDom e))
    let s1 := es.foldl (fun s e => s |> put (.eth e 0x88FB 60) |> count F.netEthCntTx_tx_frames e) s1
    done s (redTags es false { s1 with net := { s1.net with supAt := s1.now } })

/-! LPDDR4X (R472, R473). -/

/-- Configured data rate. -/
def ddrRate (s : State) : Nat := paramF s 0x0145 0 1 1 0
/-- scrub_en, and scrub_h in ns. -/
def scrubEn (s : State) : Bool := paramF s 0x0145 0 1 8 8 == 1
def scrubNs (s : State) : Nat := 3600000000000 * paramF s 0x0145 0 1 23 16

/-- DDR_TRAINING (R472): `fails` attempts have failed. The first rate is tried twice, and each lower rate once. -/
def execDdrTraining (fails mib : Nat) (s : State) : Host.Outcome State Fault Refusal :=
  let r := ddrRate s
  if !domOn s 25 || getB F.netDdrStatus_trained 0 s then done s s
  else if 5 - r ≤ fails then done s (domFail 25 2 s)
  else
    let rate := if fails ≤ 1 then r else r + (fails - 1)
    done s (s |> setF F.netDdrStatus_trained 0 1 |> setF F.netDdrStatus_rate 0 rate |> setB F.netDdrStatus_fallback 0 (rate != r)
      |> setF F.netDdrStatus_device_mib 0 mib |> setF F.netDdrStatus_usable_mib 0 (mib * 7 / 8)
      |> raise Ev.netDdrTrained [(rate, 2), (b2n (rate != r), 1), (mib * 7 / 8, 12)]
      |> (fun s => { s with net := { s.net with scrubAt := s.now } }))

/-- DDR_SCRUB_PASS (R473): the scrubber ends a pass of the used capacity, scrub_h hours after the last. -/
def execDdrScrubPass (s : State) : Host.Outcome State Fault Refusal :=
  if !isF s || !ddrUp s || !scrubEn s then done s s
  else
    let s1 := waitTill (s.net.scrubAt + scrubNs s) s
    done s (count F.netDdrScrub_passes 0 { s1 with net := { s1.net with scrubAt := s1.now } })

/-! Commands (R477 to R479). -/

/-- The check of ETH_CONFIG's words. -/
def infoEth (s : State) (ws : List Word) : RecInfo :=
  let w := wAt ws 0
  let mtu := fieldOf w 29 16
  { ok := ws.length == 4 && onlyFields ws [[(5, 0), (29, 16)], [(31, 0)], [(31, 0)], [(15, 0)]]
      && fieldOf w 3 2 ≤ 2 && 1280 ≤ mtu && mtu ≤ 9000 && fieldOf (wAt ws 1) 11 0 ≤ 4094 && macUnicast (wAt ws 2).toNat
    res := fieldOf w 0 0, absent := !ethPresent s (fieldOf w 0 0) }
/-- The check of ETH_GW_SET's words. -/
def infoGateway (s : State) (ws : List Word) : RecInfo :=
  { ok := ws.length == 3 && onlyFields ws [[(0, 0)], [(31, 0)], [(15, 0)]] && macUnicast (wAt ws 1).toNat
    res := fieldOf (wAt ws 0) 0 0, absent := !ethPresent s (fieldOf (wAt ws 0) 0 0) }
/-- The check of REDUND_CONFIG's words. -/
def infoRedund (s : State) (ws : List Word) : RecInfo :=
  let w := wAt ws 0
  { ok := ws.length == 1 && onlyFields ws [[(1, 0), (29, 16)]] && fieldOf w 1 0 ≤ 2 && 10 ≤ fieldOf w 29 16 && fieldOf w 29 16 ≤ 10000
    absent := !isF s && fieldOf w 1 0 != 0 }
/-- The check of DDR_CONFIG's words. -/
def infoDdr (s : State) (ws : List Word) : RecInfo :=
  let w := wAt ws 0
  { ok := ws.length == 1 && onlyFields ws [[(1, 0), (8, 8), (23, 16)]] && 1 ≤ fieldOf w 23 16 && fieldOf w 23 16 ≤ 168
    absent := !isF s }
/-- The check of HOST_CONFIG's words. -/
def infoHost (ws : List Word) : RecInfo :=
  { ok := ws.length == 1 && onlyFields ws [[(3, 0), (15, 8)]] && fieldOf (wAt ws 0) 3 0 ≤ 14 }

/-- ETH_CONFIG. -/
def bodyEthConfig (g : Goruz) (s : State) : Res := stageBody 0x0140 (infoEth s g.words) g s
/-- REDUND_CONFIG. -/
def bodyRedundConfig (g : Goruz) (s : State) : Res := stageBody 0x0144 (infoRedund s g.words) g s
/-- DDR_CONFIG. -/
def bodyDdrConfig (g : Goruz) (s : State) : Res := stageBody 0x0145 (infoDdr s g.words) g s
/-- HOST_CONFIG. -/
def bodyHostConfig (g : Goruz) (s : State) : Res := stageBody 0x0147 (infoHost g.words) g s

/-- ETH_GW_SET (R468, R479): the gateway changes at once, in the committed configuration and in the staged copy. (DEDUCED, log 68.) -/
def bodyEthGwSet (g : Goruz) (s : State) : Res :=
  let i := infoGateway s g.words
  if i.absent then fails .absent s
  else if !i.ok then fails .badParam s
  else if ethGateway s i.res = ofWords (g.words.drop 1) then fails .okAlready s
  else
    let k := cfgKey 0x0141 i.res
    .now .ok [] { s with cfg := { s.cfg with
      committed := tabPut s.cfg.committed k g.words
      staged := tabPut s.cfg.staged k g.words } }

/-- A port that a status command or ETH_MDIO names. -/
def ethRefused (s : State) (g : Goruz) (fields : List (List (Nat × Nat))) : Option Status :=
  if !ethPresent s (gf g 1 0 0) then some .absent else if !onlyFields g.words fields then some .badParam else none

/-- Registers of a port by offset / 4 (R475). -/
def ethWord (s : State) (e k : Nat) : Word :=
  let two (a b : Field) : Word := wordOf [(getF a e s, 0), (getF b e s, 16)]
  if !ethPresent s e then 0 else match k with
  | 0 => wordOf [(getF F.netEthStatus_link e s, 0), (getF F.netEthStatus_speed e s, 1), (getF F.netEthStatus_an_done e s, 3),
      (getF F.netEthStatus_remote_fault e s, 4)]
  | 1 => paramW s 0x0140 e 1
  | 4 => w32 (getF F.netEthCntRx_rx_frames e s)
  | 5 => w32 (getF F.netEthCntTx_tx_frames e s)
  | 6 => two F.netEthCntErr_fcs_err F.netEthCntErr_oversize
  | 7 => two F.netEthCntType_other_type F.netEthCntType_vid_drop
  | 8 => two F.netEthCntDrop_link_drop F.netEthCntDrop_no_gw
  | 9 => w32 (getF F.netEthCntDup_dup_discard e s)
  | _ => 0

/-- ETH_STATUS. -/
def bodyEthStatus (g : Goruz) (s : State) : Res :=
  match ethRefused s g [[(0, 0)]] with
  | some st => fails st s
  | none => .now .ok ([0, 4, 5, 6, 7, 8, 9].map (ethWord s (gf g 1 0 0))) s

/-- ETH_MDIO (R471). -/
def bodyEthMdio (g : Goruz) (s : State) : Res :=
  match ethRefused s g [[(11, 0)], [(15, 0)]] with
  | some st => fails st s
  | none =>
    let e := gf g 1 0 0
    let write := gf g 1 1 1 = 1
    if !write && gf g 2 15 0 != 0 then fails .badParam s
    else
      let data := if write then gf g 2 15 0 else (g.env.mdio.getD 0xFFFF) % 65536
      .now .ok [w32 data] (put (.mdio e ((gw g 1).toNat + 65536 * gf g 2 15 0)) s)

/-- LPDDR4X registers by offset / 4 (R475). -/
def ddrWord (s : State) (k : Nat) : Word :=
  if !ddrPresent s then 0 else match k with
  | 0 => wordOf [(getF F.netDdrStatus_trained 0 s, 0), (getF F.netDdrStatus_rate 0 s, 1), (getF F.netDdrStatus_fallback 0 s, 3),
      (getF F.netDdrStatus_device_mib 0 s, 4), (getF F.netDdrStatus_usable_mib 0 s, 16)]
  | 1 => wordOf [(getF F.netDdrEcc_corrected 0 s, 0), (getF F.netDdrEcc_uncorrectable 0 s, 16)]
  | 2 => wordOf [(getF F.netDdrBadpg_retired 0 s, 0), (getF F.netDdrBadpg_spares_left 0 s, 16)]
  | 3 => w32 (getF F.netDdrScrub_passes 0 s)
  | _ => 0

/-- DDR_STATUS. -/
def bodyDdrStatus (_ : Goruz) (s : State) : Res :=
  if !ddrPresent s then fails .absent s else .now .ok ((List.range 4).map (ddrWord s)) s

/-- NET_HOST_CFG. -/
def hostCfgW (s : State) : Word := paramW s 0x0147 0 1

end Sys2Proof.Machine
end

