-- ==== Sys2Proof/Machine/Gpio.lean ====
section
/-! DEFINITION. GPIO, and the configuration of clusters and of the torch (R489 to R494, R500, R507 to R509, R552 to R554). -/

namespace Sys2Proof.Machine
open Sys2Proof

/-! GPIO. -/

/-- The unit holds the torch. -/
def holdsTorch (s : State) : Bool := getF F.keepTorchStatus_role 0 s == 1

/-- The level that a GPIO ball drives; none where it is an input (R553). A torch-gated output of a unit that does not hold the torch
is high-impedance, but for the level that it holds until the takeover instant (R500). -/
def ballDrives (s : State) (j : Nat) : Option Bool :=
  if !gpioOpen s then none
  else if bitOf (getF F.keepTorchGate_gpio_gate 0 s) j && !holdsTorch s then s.torch.gpioHold.map (fun m => bitOf m j)
  else if bitOf (getF F.keepGpioOe_oe 0 s) j then some (bitOf (getF F.keepGpioOut_out 0 s) j)
  else none

/-- KEEP_GPIO_IN (R552): the levels at the balls, 0 while VDD_IO33 is isolated. -/
def gpioIn (s : State) : Nat :=
  if getB F.keepPwrSupply_io33_low 0 s then 0
  else maskOf ((List.range 24).filter (fun j => (ballDrives s j).getD (bitOf (getF F.keepGpioIn_in 0 s) j)))

/-- A write of KEEP_GPIO_SET. -/
def gpioSetWrite (w : Word) (s : State) : State :=
  setF F.keepGpioOut_out 0 (Nat.lor (getF F.keepGpioOut_out 0 s) (fieldOf w 23 0)) s
/-- A write of KEEP_GPIO_CLR. -/
def gpioClrWrite (w : Word) (s : State) : State :=
  let o := getF F.keepGpioOut_out 0 s
  setF F.keepGpioOut_out 0 (o - Nat.land o (fieldOf w 23 0)) s

/-- GPIO_SET_WRITE. -/
def execGpioSetWrite (w : Word) (s : State) : Host.Outcome State Fault Refusal := done s (keepAccess (gpioSetWrite w) s)
/-- GPIO_CLR_WRITE. -/
def execGpioClrWrite (w : Word) (s : State) : Host.Outcome State Fault Refusal := done s (keepAccess (gpioClrWrite w) s)

/-- GPIO_EDGE (R552, R554): the level at a ball that is an input changes. -/
def execGpioEdge (j : Fin 24) (level : Bool) (s : State) : Host.Outcome State Fault Refusal :=
  if bitOf (getF F.keepGpioIn_in 0 s) j == level || (ballDrives s j).isSome then done s s
  else
    let s1 := setF F.keepGpioIn_in 0 (setBit (getF F.keepGpioIn_in 0 s) j level) s
    if getB F.keepPwrSupply_io33_low 0 s then done s s1
    else
      let s1 := setF F.keepGpioEdge_edge 0 (setBit (getF F.keepGpioEdge_edge 0 s1) j true) s1
      done s (if bitOf (getF F.keepGpioWake_wake_en 0 s1) j && domState s1 1 == 1 then wake 0x09 1 s1 else s1)


/-! Configuration of the cluster and of the torch (R507, R508). -/

/-- The check of CLUSTER_CONFIG's words. -/
def infoCluster (s : State) (ws : List Word) : RecInfo :=
  let w := wAt ws 0
  let b := (wAt ws 1).toNat
  let t := fieldOf (wAt ws 2) 15 0
  { ok := ws.length == 7 && onlyFields ws [[(2, 0), (21, 8)], [(31, 0)], [(28, 0)], [(31, 0)], [(31, 0)], [(31, 0)], [(15, 0)]]
      && !(fieldOf w 2 2 == 1 && gradeL s) && fieldOf w 19 16 ≤ 8 && 1000 ≤ b && b ≤ 10000000
      && 0x0600 ≤ t && t != 0x86DD && t != 0x88F7 && t != 0x892F && (wAt ws 3 != 0 || wAt ws 4 != 0) }
/-- The check of TORCH_CONFIG's words. -/
def infoTorch (s : State) (ws : List Word) : RecInfo :=
  let w := wAt ws 0
  let v := wAt ws 1
  { ok := ws.length == 2 && onlyFields ws [[(1, 0), (28, 8)], [(23, 0)]] && fieldOf w 15 8 != 1
      && 1 ≤ fieldOf w 28 24 && fieldOf w 28 24 ≤ 20 && 1 ≤ fieldOf v 7 0 && fieldOf v 7 0 ≤ 100
      && 10 ≤ fieldOf v 23 8 && fieldOf v 23 8 ≤ 10000 && 2 * fieldOf v 7 0 ≤ fieldOf v 23 8
    absent := !torchCapable s }

/-- CLUSTER_CONFIG. -/
def bodyClusterConfig (g : Goruz) (s : State) : Res := stageBody 0x0B01 (infoCluster s g.words) g s
/-- TORCH_CONFIG. -/
def bodyTorchConfig (g : Goruz) (s : State) : Res := stageBody 0x0B02 (infoTorch s g.words) g s

end Sys2Proof.Machine
end

