-- ==== Sys2Proof/Machine/Cfg.lean ====
section
/-! DEFINITION. The configuration: its parameters, the check of a whole configuration, the slots and their images, staging and
commit, and the configuration and gate commands (chapter "Start-up, images and calibration layers"). -/

namespace Sys2Proof.Machine
open Sys2Proof

/-! Parameters (R93, R96). -/

/-- The check of a start parameter of one bit (table "Start parameters"). -/
def infoBit (ws : List Word) : RecInfo := { ok := onlyFields ws [[(0, 0)]] }
/-- UNUSED_INTERFACES. -/
def infoUnused (ws : List Word) : RecInfo := { ok := onlyFields ws [[(8, 0)]] }
/-- WATCHDOG_MS. -/
def infoWatchdog (ws : List Word) : RecInfo :=
  { ok := decide (100 ≤ (wAt ws 0).toNat) && decide ((wAt ws 0).toNat ≤ 10000) }

/-- Words 2 and 3 of SYS_LANE_CONFIG for a lane are in range (R138). -/
def laneWordsOk (n : Nat) (a b : Word) : Bool :=
  onlyBits a [(5, 0), (8, 8), (21, 16)] && decide (2 ≤ fieldOf a 5 0) && decide (fieldOf a 5 0 ≤ 40)
    && (n < 2 || fieldOf a 21 16 == 0)
    && onlyBits b [(13, 0)] && decide (1 ≤ fieldOf b 13 0) && decide (fieldOf b 13 0 ≤ 10000)
/-- GZ_LANE_CFG (R138). -/
def infoLanes (ws : List Word) : RecInfo :=
  { ok := (List.range 4).all (fun n => laneWordsOk n (wAt ws (2 * n)) (wAt ws (2 * n + 1))) }
/-- GPIO_CFG (R552). -/
def infoGpio (ws : List Word) : RecInfo := { ok := onlyFields ws [[(23, 0)], [(23, 0)], [(23, 0)]] }

/-- COUNT of a parameter's records as a test; none where the parameter is not known (R93). -/
def paramCount (id : Nat) : Option (Nat → Bool) :=
  let is (n : Nat) : Option (Nat → Bool) := some (fun k => k == n)
  match id with
  | 0x0110 => is 1 | 0x0111 => is 1 | 0x0112 => is 1 | 0x0113 => is 1 | 0x0114 => is 8 | 0x0150 => is 3
  | 0x0140 => is 4 | 0x0141 => is 3 | 0x0144 => is 1 | 0x0145 => is 1 | 0x0147 => is 1
  | 0x0302 => is 4
  | 0x0401 => is 4 | 0x0402 => is 9 | 0x0403 => is 2 | 0x0404 => is 1 | 0x0405 => is 2
  | 0x0420 => is 4 | 0x0421 => is 1 | 0x0422 => is 3
  | 0x0440 => is 2 | 0x0441 => is 2 | 0x0442 => is 1
  | 0x0501 => is 5 | 0x0502 => some (fun k => decide (1 ≤ k) && decide (k ≤ 129)) | 0x0503 => is 2 | 0x0504 => is 2
  | 0x0505 => is 2 | 0x0506 => some (fun k => decide (2 ≤ k) && decide (k ≤ 18)) | 0x0507 => some (fun k => decide (1 ≤ k))
  | 0x0609 => is 1 | 0x06C0 => is 5 | 0x0701 => is 1
  | 0x0801 => is 3 | 0x0802 => is 4 | 0x0803 => is 5 | 0x0804 => is 5 | 0x0805 => is 6
  | 0x0901 => is 2 | 0x0909 => is 2 | 0x0B01 => is 7 | 0x0B02 => is 2
  | 0x0C01 => is 1 | 0x0C02 => is 2 | 0x0C03 => is 1 | 0x0C04 => is 1 | 0x0C05 => is 1
  | _ => none

/-- The check of a record's value words, for a parameter that is known (R93). (DEDUCED, log 70.) -/
def paramInfo (s : State) (id : Nat) (ws : List Word) : RecInfo :=
  match id with
  | 0x0110 => infoBit ws
  | 0x0111 => infoBit ws
  | 0x0112 => infoUnused ws
  | 0x0113 => infoWatchdog ws
  | 0x0114 => infoLanes ws
  | 0x0150 => infoGpio ws
  | 0x0140 => infoEth s ws
  | 0x0141 => infoGateway s ws
  | 0x0144 => infoRedund s ws
  | 0x0145 => infoDdr s ws
  | 0x0147 => infoHost ws
  | 0x0302 => infoSleepSet s ws
  | 0x0401 => infoPortCfg s ws
  | 0x0402 => infoRamp s ws
  | 0x0403 => infoFem s ws
  | 0x0404 => infoGain s ws
  | 0x0405 => infoTrim s ws
  | 0x0420 => infoListener s ws
  | 0x0421 => infoEmitter s ws
  | 0x0422 => infoChannels s ws
  | 0x0440 => infoGt ws
  | 0x0441 => infoTsTrim s ws
  | 0x0442 => infoFsk ws
  | 0x0501 => infoTemplate ws
  | 0x0502 => infoHop ws
  | 0x0503 => infoSlotframe ws
  | 0x0504 => infoSync ws
  | 0x0505 => infoTiming ws
  | 0x0506 => infoLantern ws
  | 0x0507 => infoCells ws
  | 0x0609 => infoStore ws
  | 0x06C0 => infoMac ws
  | 0x0701 => infoKey ws
  | 0x0801 => infoFwd ws
  | 0x0802 => infoDscp ws
  | 0x0803 => infoContext ws
  | 0x0804 => infoRoute s ws
  | 0x0805 => infoPrefix s ws
  | 0x0901 => infoTime s ws
  | 0x0909 => infoAadc ws
  | 0x0B01 => infoCluster s ws
  | 0x0B02 => infoTorch s ws
  | 0x0C01 => infoTrfClass ws
  | 0x0C02 => infoTrfProfile ws
  | 0x0C03 => infoTrfQuota ws
  | 0x0C04 => infoTrfPolice ws
  | 0x0C05 => infoTrfSched ws
  | _ => { ok := false }

/-- Enter a record: it replaces what stood for its resource; records of SCH_CELLS add up (R93). -/
def enterRecord (t : Tab (List Word)) (id res : Nat) (ws : List Word) : Tab (List Word) :=
  let k := cfgKey id res
  match tabFind t k with
  | some old => tabPut t k (if id = 0x0507 then old ++ ws.drop 1 else ws)
  | none => tabPut t k ws

/-! The check of a configuration as a whole (R105). -/

/-- A state with a configuration in force. -/
def underCfg (t : Tab (List Word)) (s : State) : State := { s with cfg := { s.cfg with committed := t } }

/-- PRP or HSR needs both ports enabled, in the same mode and at the same speed (R479). -/
def redundOk (s : State) : Bool :=
  paramF s 0x0144 0 1 1 0 == 0
    || (ethEnabled s 0 && ethEnabled s 1 && paramF s 0x0140 0 1 3 2 == paramF s 0x0140 1 1 3 2
      && paramF s 0x0140 0 1 4 4 == paramF s 0x0140 1 1 4 4)

/-- The prefixes fit the structure of the mode (R365). -/
def lpmOk (old s : State) : Bool :=
  fwdF s 1 0 0 == fwdF old 1 0 0 || decide (old.fwd.prefixes.length ≤ prefixCapacity (fwdF s 1 0 0))

/-- Source AIR goes with a follower, and no other source does (R450). -/
def timeOk (s : State) : Bool := (timeSource s == 1) == (paramF s 0x0504 0 1 0 0 == 1)

/-- The cluster configuration passes R509. -/
def clusterCfgOk (s : State) : Bool :=
  let dup := yowF s 1 20 20 == 1 && yowOn s && yowF s 1 2 1 != 0 && 1 < paramF s 0x0144 0 1 1 0
  let key := yowSecure s && yowOn s && (match keyOf s (yowKey s) with
    | some k => k.usage != 3
    | none => true)
  !dup && !key

/-- The torch configuration passes R509. -/
def torchCfgOk (s : State) : Bool := !torchOn s || yowPort s (torchPort s)

/-- The reserves of the quota groups fit the packet buffer (R340). -/
def quotaOk (s : State) : Bool :=
  (List.range 8).all (fun g => decide (quotaReserve s g ≤ quotaLimit s g))
    && decide (((List.range 8).map (quotaReserve s)).sum ≤ (if isF s then 32256 else 32768))

/-- The parameter that fails in the check of a whole configuration, the lowest first; none where it passes. `s` holds it as
committed, `old` what is committed now (R105, R179, R270, R340, R365, R450, R479, R509). (DEDUCED, log 70.) -/
def wholeCheck (old s : State) : Option Nat :=
  if !redundOk s then some 0x0144
  else match planCheck (fun id r => param s id r) s with
    | some (r, k, _) => some (planParam r k)
    | none => match schedCheck s with
      | some (id, _) => some id
      | none =>
        if !lpmOk old s then some 0x0801
        else if !timeOk s then some 0x0901
        else if !clusterCfgOk s then some 0x0B01
        else if !torchCfgOk s then some 0x0B02
        else if !quotaOk s then some 0x0C03
        else none

/-! The slots of the configuration area (R90 to R95). -/

/-- Words of a user slot, and the index of its completion marker. -/
def slotWordCount : Nat := 0x1C000
def markerAt : Nat := 0x1BFFC

/-- A word of a slot. -/
def slotW (l : Slot) (i : Nat) : Word := tabGet l i 0
/-- Words of a slot. -/
def slotWs (l : Slot) (a n : Nat) : List Word := (List.range n).map (fun i => slotW l (a + i))

/-- The slot by its number: 1 A, 2 B. -/
def slotOf (s : State) (k : Nat) : Slot := if k = 1 then s.cfg.slotA else s.cfg.slotB
/-- Replace a slot. -/
def setSlot (k : Nat) (l : Slot) (s : State) : State :=
  { s with cfg := if k = 1 then { s.cfg with slotA := l } else { s.cfg with slotB := l } }

/-- Records read from a body: parameter, SKIP and value words, up to the first that is not well formed, which is named. -/
def readRecords : Nat → List Word → List (Nat × Bool × List Word) × Option Nat
  | 0, _ => ([], none)
  | _ + 1, [] => ([], none)
  | n + 1, w :: ws =>
    let id := fieldOf w 15 0
    let k := fieldOf w 27 16
    if fieldOf w 30 28 != 0 || ws.length < k then ([], some id)
    else
      let r := readRecords n (ws.drop k)
      ((id, (w.getLsbD 31, ws.take k)) :: r.1, r.2)

/-- What becomes of a record: entered, skipped, or the image is invalid for its parameter (R93). -/
def takeRecord (s : State) (x : Tab (List Word) × Nat × Option Nat) (r : Nat × Bool × List Word) :
    Tab (List Word) × Nat × Option Nat :=
  match x.2.2 with
  | some _ => x
  | none => match paramCount r.1 with
    | none => if r.2.1 then (x.1, x.2.1 + 1, none) else (x.1, x.2.1, some r.1)
    | some c =>
      let i := paramInfo s r.1 r.2.2
      if !c r.2.2.length then (x.1, x.2.1, some r.1)
      else if i.absent then (x.1, x.2.1 + 1, none)
      else if !i.ok then (x.1, x.2.1, some r.1)
      else (enterRecord x.1 r.1 i.res r.2.2, x.2.1, none)

/-- What the check of a slot finds (R90): empty, or the reason that rejects it and the parameter named; its sequence, and where it
is valid the records it enters and the number skipped. -/
structure SlotCheck where
  empty : Bool := false
  reason : Option Nat := none
  param : Nat := 0
  seq : Nat := 0
  table : Tab (List Word) := []
  skipped : Nat := 0
  deriving DecidableEq, Repr

/-- A slot is valid. -/
def SlotCheck.valid (c : SlotCheck) : Bool := !c.empty && c.reason.isNone

/-- The header CRC matches (R92). -/
def headerOk (l : Slot) : Bool := (slotW l 15).toNat == crc32 (slotWs l 0 15)
/-- The sequence of a slot's header; 0 where its CRC fails (R575). -/
def slotSeq (l : Slot) : Nat := if slotW l 0 == 0x46434E58 && headerOk l then (slotW l 2).toNat else 0

/-- The completion marker repeats the header's sequence (R94). -/
def markerOk (l : Slot) : Bool :=
  slotW l markerAt == 0xA5C33C5A && slotW l (markerAt + 1) == slotW l 2 && slotW l (markerAt + 2) == 0 && slotW l (markerAt + 3) == 0

/-- The format of the header is supported (R92). (DEDUCED, log 70.) -/
def formatOk (l : Slot) : Bool :=
  fieldOf (slotW l 1) 15 0 == 1 && fieldOf (slotW l 1) 31 16 == 64 && slotW l 2 != 0 && fieldOf (slotW l 3) 1 0 == 0
    && onlyBits (slotW l 5) [(0, 0)] && onlyBits (slotW l 6) [(19, 1)] && (slotWs l 7 8).all (· == 0)

/-- The check of a slot in the order of R90; the marker's check is left out where `marker` is not set (R107). (DEDUCED, log 70.) -/
def checkSlot (s : State) (l : Slot) (marker : Bool) : SlotCheck :=
  if slotW l 0 != 0x46434E58 then { empty := true }
  else if !headerOk l then { reason := some 2 }
  else
    let seq := (slotW l 2).toNat
    let bad (r p : Nat) : SlotCheck := { reason := some r, param := p, seq := seq }
    let n := (slotW l 3).toNat / 4
    let signed := (slotW l 5).getLsbD 0
    if !formatOk l then bad 2 0
    else if !(slotW l 6).getLsbD (partCode s) then bad 2 0
    else if dieStep s < fieldOf (slotW l 6) 19 16 then bad 2 0
    else if marker && !markerOk l then bad 3 0
    else if markerAt < 17 + n + (if signed then 16 else 0) || (slotW l (16 + n)).toNat != crc32 (slotWs l 0 (16 + n)) then bad 2 0
    else
      let r := readRecords n (slotWs l 16 n)
      let x := r.1.foldl (takeRecord s) (([], 0, none) : Tab (List Word) × Nat × Option Nat)
      match x.2.2 with
      | some p => bad 2 p
      | none => match r.2 with
        | some p => bad 2 p
        | none =>
          if r.1.length != (slotW l 4).toNat then bad 2 0
          else match wholeCheck { s with fwd := { s.fwd with prefixes := [] } } (underCfg x.1 { s with fwd := { s.fwd with prefixes := [] } }) with
            | some p => bad 2 p
            | none =>
              let need := signed || s.keys.requireSigned
              let good := signed && s.keys.owned
                && Config.ecdsaOk s.keys.ownerKey (Config.sha256 (slotWs l 0 (17 + n))) (slotWs l (17 + n) 16)
              if need && !good then bad 4 0
              else { seq := seq, table := x.1, skipped := min 65535 x.2.1 }

/-- The slot selected: 0 none, 1 A, 2 B. -/
def slotSelected (s : State) : Nat := getF F.keepStart_slot 0 s

/-- The slot not selected (R106, R107, R575). -/
def otherSlot (s : State) : Nat :=
  if slotSelected s = 1 then 2 else if slotSelected s = 2 then 1
  else if slotW s.cfg.slotA 0 != 0x46434E58 then 1
  else if slotW s.cfg.slotB 0 != 0x46434E58 then 2
  else if slotSeq s.cfg.slotB < slotSeq s.cfg.slotA then 2 else 1

/-- The sequence of the selected slot, taken as 0 where none is (R575). (DEDUCED, log 75.) -/
def seqInUse (s : State) : Nat := if slotSelected s = 0 then 0 else slotSeq (slotOf s (slotSelected s))

/-- The completion marker of a slot erased (R95). -/
def eraseMarker (l : Slot) : Slot := (List.range 4).foldl (fun l i => tabDel l (markerAt + i)) l
/-- The completion marker of a slot written (R94). -/
def writeMarker (seq : Nat) (l : Slot) : Slot := tabPut (tabPut (eraseMarker l) markerAt 0xA5C33C5A) (markerAt + 1) (w32 seq)
/-- Words written into a slot from an index. -/
def writeWords (a : Nat) (ws : List Word) (l : Slot) : Slot :=
  (ws.zipIdx).foldl (fun l x => if x.1 = 0 then tabDel l (a + x.2) else tabPut l (a + x.2) x.1) l

/-- A record's words (R93). -/
def imageRecord (id : Nat) (ws : List Word) : List Word := wordOf [(id, 0), (ws.length, 16)] :: ws

/-- The records of a parameter as an image holds them: SCH_CELLS is cut at 2,047 cells a record (R93, R303). -/
def cutRecords (id : Nat) (ws : List Word) : Nat → List (List Word)
  | 0 => []
  | n + 1 =>
    if ws.length ≤ 4095 then [imageRecord id ws]
    else imageRecord id (ws.take 4095) :: cutRecords id (wAt ws 0 :: ws.drop 4095) n

/-- The image that CFG_IMAGE_SAVE writes: header, body and image CRC, unsigned, for this part (R92 to R94, R106). (DEDUCED, log 75.) -/
def imageWords (s : State) (seq : Nat) : List Word :=
  let recs := s.cfg.committed.flatMap (fun e => cutRecords (e.1 % 65536) e.2 (e.2.length / 4095 + 1))
  let body := recs.flatten
  let head : List Word := [0x46434E58, wordOf [(1, 0), (64, 16)], w32 seq, w32 (4 * body.length), w32 recs.length, 0,
    wordOf [(2 ^ partCode s, 0), (0, 16)], 0, 0, 0, 0, 0, 0, 0, 0]
  let all := head ++ [w32 (crc32 head)] ++ body
  all ++ [w32 (crc32 all)]

/-- A slot is selected. -/
def selectSlot (k : Nat) (s : State) : State := setF F.keepStart_slot 0 k s

/-! The committed configuration takes effect (R105). -/

/-- The domains of the committed configuration that are woken (R577). -/
def configDomains (s : State) : List Nat :=
  [17, 15, 16, 18, 19, 20, 21, 25, 24].filter (fun d => domPresent s d && (d != 24 || pcieUsed s))
    ++ (if ethEnabled s 0 then [22] else []) ++ (if ethEnabled s 1 then [23] else [])
    ++ ((List.range 3).filter (portEnabled s)).map (· + 3)
    ++ ((List.range 8).filter (fun k => (boundLst s).any (fun n => n / 8 == k))).map (· + 6)
    ++ (if (List.range 8).any (emBound s) then [14] else [])

/-- Some effective value lies outside its range (R98). -/
def trimsClamp (s : State) : Bool :=
  let rfBad (q p : Nat) : Bool :=
    let r := trimRow q
    let v := if r.mul then roundDiv ((65536 + factoryOf s q p) * (65536 + rfTrim s q p)) 65536 else factoryOf s q p + rfTrim s q p
    decide (v < r.lo) || decide (r.hi < v)
  [1, 2, 3, 4, 5, 6].any (fun q => [0, 1, 2].any (rfBad q)) || rfBad 7 0 || rfBad 8 0
    || s.cfg.committed.any (fun e => e.1 % 65536 == 0x0441
      && (let p := fieldOf (wAt e.2 0) 1 0
          let m := fieldOf (wAt e.2 0) 15 8
          let v := tsFactory s p m + tsTrim s p m
          decide (v < 0) || decide (32000 < v)))
    || (List.range 4).any (fun n =>
      aadcGain s n != roundDiv ((65536 + factoryOf s 0x10 n) * (65536 + aadcTrim s n 0)) 65536
        || aadcOffset s n != factoryOf s 0x11 n + aadcTrim s n 1)

/-- Note a clamped value (R98). -/
def noteClamp (s : State) : State := if trimsClamp s then setF F.keepCfg_trim_clamped 0 1 s else s

/-- A port at the commit instant: a change of LO calibrates, one in retention as it returns; one newly enabled calibrates; one
no longer enabled is off (R147). (DEDUCED, log 71.) -/
def portCommit (old : State) (p : Nat) (s : State) : State :=
  if !portPresent s p then s
  else if !portEnabled s p then (if portEnabled old p then setF F.airRfStatus_synth p 3 s else s)
  else if !portEnabled old p then (if domOn old (3 + p) then calBegin p false s else s)
  else if loKhz s p == loKhz old p then s
  else if domOn s (3 + p) then calBegin p false s
  else setF F.airRfStatus_cal_pending p 1 s

/-- A listener at the commit instant: where its binding, centre, width or mode set has changed it is retuned, its receptions
abandoned, its store emptied (R175, R180). (DEDUCED, log 71.) -/
def listenerCommit (old : State) (n : Nat) (s : State) : State :=
  let key (x : State) : List Nat := [paramF x 0x0420 n 1 9 8, paramF x 0x0420 n 1 7 6, paramF x 0x0420 n 1 15 12,
    paramF x 0x0420 n 2 21 0, paramF x 0x0420 n 3 7 0, paramF x 0x0420 n 4 31 0]
  if key old == key s then s
  else
    let s := abandonAll n 4 s
    s |> setLst n { lst s n with khz := 0, next := none, ckpts := [], pair := none, test := false }
      |> setF F.airLstFreq_retuning n 0 |> setF F.airLstFreq_channel n 0

/-- An Ethernet port at the commit instant: a change of mode or MAC drops its link; so does disabling it (R479). -/
def ethCommit (old : State) (e : Nat) (s : State) : State :=
  let key (x : State) : Nat × Nat × Nat := (paramF x 0x0140 e 1 4 1, (paramW x 0x0140 e 3).toNat, paramF x 0x0140 e 4 15 0)
  if key old == key s then s else linkDown e s

/-- The torch is disabled: the unit claims nothing and has no role (R490, R507). -/
def torchOff (s : State) : State :=
  { s with torch := { s.torch with round := none, gpioHold := none, laneOut := none, peerMirror := none } }
    |> setF F.keepTorchStatus_role 0 0 |> setF F.keepTorchStatus_winner 0 0 |> setF F.keepTorchStatus_emitter_gate 0 0
    |> setF F.keepTorchStatus_pin_fault 0 0 |> setF F.keepTorchStatus_mirror 0 0 |> setF F.keepTorchStatus_yield 0 0
    |> setF F.keepTorchClaim_own_claim 0 0

/-- What the committed configuration changes at the commit instant. `old` is the state before (R105). (DEDUCED, log 71.) -/
def commitEffects (old s : State) : State :=
  let need := (configDomains s).filter (fun d => !(configDomains old).contains d)
  let s := wakeAll 0x03 need s
  let s := (List.range 3).foldl (fun s p => portCommit old p s) s
  let s := (List.range 64).foldl (fun s n => if listenerPresent s n then listenerCommit old n s else s) s
  let s := ethCommit old 1 (ethCommit old 0 s)
  let s := if timeSource old != timeSource s then timeUnset s
    else if timeSource s == 1 && paramW old 0x0504 0 2 != paramW s 0x0504 0 2 then timeLoss s
    else s
  let s := slmCommit old s
  let s := if torchUnitId old != torchUnitId s || torchOn old != torchOn s then
      { s with torch := { s.torch with conflict := false, peerOk := false } } else s
  let s := if torchOn old && !torchOn s then torchOff s else s
  let s := if keyUnitId old != keyUnitId s || yowOn old != yowOn s then { s with yow := { s.yow with silent := none } } else s
  noteClamp (blankRefresh (yowNote old s))

/-- A configuration takes effect as at a commit instant: it is counted and raised (R105, R107, R109). -/
def applyCommit (t : Tab (List Word)) (s : State) : State :=
  let s1 := { s with cfg := { s.cfg with
      committed := t, staged := t, dirty := false, owner := none, pending := none,
      commitSeq := (s.cfg.commitSeq + 1) % 2 ^ 32, commitAt := s.time.ns
      macOld := (if tabFind t (cfgKey 0x06C0 0) == tabFind s.cfg.committed (cfgKey 0x06C0 0) then s.cfg.macOld
        else tabFind s.cfg.committed (cfgKey 0x06C0 0))
      macAt := (if tabFind t (cfgKey 0x06C0 0) == tabFind s.cfg.committed (cfgKey 0x06C0 0) then s.cfg.macAt else s.time.ns) } }
  let s2 := commitEffects s s1
  raise Ev.keepCfgCommitted [(s2.cfg.commitSeq, 32), (s2.cfg.commitAt, 64)] s2

/-- Response words of a commit. -/
def commitWords (s : State) : List Word := [w32 s.cfg.commitSeq, wordAt s.cfg.commitAt 0, wordAt s.cfg.commitAt 1]

/-- CFG_COMMIT. With a schedule running the staged changes wait for the first boundary at least 1 ms later; otherwise they take
effect at once (R104, R105, R107). -/
def bodyCfgCommit (g : Goruz) (s : State) : Res :=
  if stagingBusy g.lane.val s then fails .busy s
  else if !s.cfg.dirty then .now .okAlready (commitWords s) s
  else
    let new := underCfg s.cfg.staged s
    let s := loadPlanCheck (planCheck (fun id r => param new id r) new) s
    match wholeCheck s new with
    | some p => .now .badParam [w32 p] s
    | none =>
      if slmRunning s then
        .later [] { s with cfg := { s.cfg with pending := some (g.lane.val, s.time.ns + 1000000) } }
      else
        let s := applyCommit s.cfg.staged s
        .now .ok (commitWords s) s

/-- The lane on which a commit executes has its response (R105, R107). -/
def answerCommit (n : Nat) (s : State) : State :=
  match (lane s n).ex with
  | some x => if x.opcode == 0x0120 then respond n x.tag .ok (commitWords s) s else s
  | none => s

/-- A parameter of the opcode groups 0x04, 0x05, 0x06 and 0x0C, which a torch pair shares (R495). -/
def sharedParam (id : Nat) : Bool := [0x04, 0x05, 0x06, 0x0C].contains (id / 256)
/-- The committed configuration with the records of those groups as the holder sends them (R495). -/
def mirroredCfg (s : State) (recs : List (Nat × Nat × List Word)) : Tab (List Word) :=
  recs.foldl (fun t r => tabPut t (cfgKey r.1 r.2.1) r.2.2) (s.cfg.committed.filter (fun e => !sharedParam (e.1 % 65536)))

/-- COMMIT_INSTANT (R105): the first slot boundary at least 1 ms after the check ended. -/
def execCommitInstant (s : State) : Host.Outcome State Fault Refusal :=
  match s.cfg.pending, s.torch.commit with
  | some (n, k), _ => done s (answerCommit n (applyCommit s.cfg.staged (waitKeep (boundaryFrom s k) s)))
  | none, some (t, recs) => done s (applyCommit (mirroredCfg s recs) (waitKeep t { s with torch := { s.torch with commit := none } }))
  | none, none => done s s

/-- CFG_DISCARD (R103, R104, R107). -/
def bodyCfgDiscard (g : Goruz) (s : State) : Res :=
  let force := gf g 1 0 0 == 1
  if !onlyFields g.words [[(0, 0)]] then fails .badParam s
  else if s.cfg.pending.isSome then fails .busy s
  else if !s.cfg.dirty then fails .okAlready s
  else if stagingBusy g.lane.val s && !force then fails .busy s
  else .now .ok [] (unstage s)

/-- KEEP_START (R108). -/
def startW (s : State) : Word :=
  wordOf [(getF F.keepStart_phase 0 s, 0), (getF F.keepStart_slot 0 s, 4), (getF F.keepStart_fallback 0 s, 6),
    (getF F.keepStart_debug_root 0 s, 7), (getF F.keepStart_root_ok 0 s, 8), (getF F.keepStart_copy_resumed 0 s, 9),
    (getF F.keepStart_bad_param 0 s, 16)]
/-- KEEP_GATE (R108). -/
def gateW (s : State) : Word := wordOf [(gateOpen s, 0), (gateReasons s, 16)]
/-- KEEP_CFG (R108). (DEDUCED, log 75.) -/
def cfgW (s : State) : Word :=
  wordOf [(b2n s.cfg.dirty, 0), (b2n s.cfg.owner.isSome, 1), ((match s.cfg.owner with | some o => o.val | none => 0), 2),
    (getF F.keepCfg_trim_clamped 0 s, 4), (getF F.keepCfg_skipped 0 s, 16)]

/-- CFG_STATUS. (DEDUCED, log 75.) -/
def bodyCfgStatus (_ : Goruz) (s : State) : Res :=
  let c := checkSlot s (slotOf s (otherSlot s)) true
  .now .ok [startW s, cfgW s, w32 (seqInUse s), w32 (if c.valid then c.seq else 0)] s

/-- A command that needs MRAM: KEEP_MRAM is woken for it (R66, R77). (DEDUCED, log 72.) -/
def withMram (s : State) : State := if domOn s 2 then s else wake 0x03 2 s

/-- CFG_IMAGE_SAVE (R106, R107). (DEDUCED, log 72.) -/
def bodyCfgImageSave (_ : Goruz) (s : State) : Res :=
  if s.cfg.dirty then fails .notCommitted s
  else if s.keys.requireSigned then fails .authFail s
  else if domDead s 2 then fails .domainFailed s
  else
    let s := withMram s
    let k := otherSlot s
    let seq := seqInUse s + 1
    let l := writeMarker seq (writeWords 0 (imageWords s seq) [])
    .now .ok [w32 k, w32 seq] (selectSlot k (setSlot k l s))

/-- CFG_IMAGE_WRITE (R95, R107). (DEDUCED, log 72.) -/
def bodyCfgImageWrite (g : Goruz) (s : State) : Res :=
  let off := gf g 1 18 0
  let ws := g.words.drop 1
  if !onlyBits (gw g 1) [(18, 0)] || off % 4 != 0 || 0x6FFF0 < off + 4 * ws.length then fails .badParam s
  else if domDead s 2 then fails .domainFailed s
  else
    let s := withMram s
    let k := otherSlot s
    .now .ok [] (setSlot k (writeWords (off / 4) ws (eraseMarker (slotOf s k))) s)

/-! The output gate (R99, R101, R107). -/

/-- SYS_GATE_STATUS. -/
def bodySysGateStatus (_ : Goruz) (s : State) : Res := .now .ok [gateW s] s

/-- Every domain whose escalation set DOMAIN_FAILED has returned (R107). -/
def domainsReturned (s : State) : Bool := s.pwr.escalated.all (fun e => e.2 && domState s e.1 != 3)

/-- SYS_GATE_OPEN: HOST_HOLD ends as a whole, and DOMAIN_FAILED where its domains have returned. (DEDUCED, log 76.) -/
def bodySysGateOpen (_ : Goruz) (s : State) : Res :=
  let clears := 11 :: (if domainsReturned s then [10] else [])
  let left := clears.foldl (fun m i => setBit m i false) (gateReasons s)
  if left != 0 then .now .outputsHeld [w32 (gateReasons s)] s
  else if gateReasons s = 0 then .now .okAlready [0] s
  else
    .now .ok [0] (blankRefresh (clearReasons clears
      { s with start := { s.start with holdLines := 0 }, pwr := { s.pwr with escalated := [] } }))

/-- SYS_GATE_CLOSE: HOST_HOLD closes exactly the lines named; lines it leaves out open at once (R99, R100). (DEDUCED, log 76.) -/
def bodySysGateClose (g : Goruz) (s : State) : Res :=
  let m := gf g 1 3 0
  if !onlyFields g.words [[(3, 0)]] || m == 0 then fails .badParam s
  else
    let was := if reason s 11 then s.start.holdLines else 0
    let added := (List.range 4).any (fun i => bitOf m i && !bitOf was i)
    let s1 := setF F.keepGate_reasons 0 (setBit (gateReasons s) 11 true) { s with start := { s.start with holdLines := m } }
    let s2 := gateApply false s1
    let s3 := if added then raiseHeld s2 else s2
    .now .ok [w32 (gateOpen s3)] (blankRefresh s3)

/-- SYS_LANE_CONFIG: staged as the words of the lane in GZ_LANE_CFG (R137, R138). -/
def bodySysLaneConfig (g : Goruz) (s : State) : Res :=
  let n := gf g 1 1 0
  if !lanePresent s n then fails .absent s
  else if !onlyBits (gw g 1) [(1, 0)] || !laneWordsOk n (gw g 2) (gw g 3) then fails .badParam s
  else if stagingBusy g.lane.val s then fails .busy s
  else
    let ws := stagedParam s 0x0114 0
    .now .ok [] (stage g.lane 0x0114 0 (ws.take (2 * n) ++ [gw g 2, gw g 3] ++ ws.drop (2 * n + 2)) s)

end Sys2Proof.Machine
end

