-- ==== Sys2Proof/Machine/Upd.lean ====
section
/-! DEFINITION. Bundles, the staging area, activation and its pause, and the update commands (chapter "Updating the part in the
field"). -/

namespace Sys2Proof.Machine
open Sys2Proof

/-! The staged bundle (R527 to R531). -/

/-- Change what the chapter keeps in MRAM. -/
def setUpd (u : Upd) (s : State) : State := { s with upd := u }

/-- Words that a number of octets fills. -/
def updWords (octets : Nat) : Nat := (octets + 3) / 4
/-- A word of the staged bundle. -/
def bundleW (s : State) (i : Nat) : Word := tabGet s.upd.data i 0
/-- Words of the staged bundle. -/
def bundleWs (s : State) (a n : Nat) : List Word := (List.range n).map (fun i => bundleW s (a + i))

/-- Words written from the start without a gap (R529). -/
def prefixWords : Nat → Tab Word → Nat
  | n, [] => n
  | n, (k, _) :: t => if k = n then prefixWords (n + 1) t else n

/-- The contiguous beginning of the bundle in octets, as it is persisted: the 4 KiB boundaries it has passed (R530).
(DEDUCED, log 77.) -/
def persistPrefix (u : Upd) : Upd :=
  { u with persisted := max u.persisted (min (4 * prefixWords 0 u.data) u.len / 4096 * 4096) }

/-- A manifest entry: kind, unit, version, payload offset, length and digest (R527). -/
structure Entry where
  kind : Nat
  unit : Nat
  version : Nat
  offset : Nat
  length : Nat
  digest : Nat
  deriving DecidableEq, Repr

/-- Entry `i` of the manifest. -/
def bundleEntry (s : State) (i : Nat) : Entry :=
  let a := 16 + 16 * i
  { kind := fieldOf (bundleW s a) 7 0, unit := fieldOf (bundleW s a) 15 8, version := (bundleW s (a + 1)).toNat,
    offset := (bundleW s (a + 2)).toNat, length := (bundleW s (a + 3)).toNat, digest := ofWords (bundleWs s (a + 4) 8) }

/-- Number of entries. -/
def entryCount (s : State) : Nat := fieldOf (bundleW s 4) 3 0
/-- The entries in order. -/
def bundleEntries (s : State) : List Entry := (List.range (entryCount s)).map (bundleEntry s)
/-- The pair bit. -/
def bundlePair (s : State) : Bool := (bundleW s 4).getLsbD 4
/-- bundle_version of the staged bundle. -/
def bundleVersion (s : State) : Nat := (bundleW s 2).toNat
/-- The entry applies to this unit (R528). -/
def entryApplies (s : State) (e : Entry) : Bool := e.unit == 0 || e.unit == torchUnitId s
/-- The entry of a kind that applies to this unit. -/
def entryOfKind (s : State) (k : Nat) : Option Entry := (bundleEntries s).find? (fun e => e.kind == k && entryApplies s e)

/-- The header is well formed (R527). -/
def bundleHeaderOk (s : State) : Bool :=
  bundleW s 0 == 0x44424E58 && bundleW s 1 == wordOf [(1, 0), (64, 16)] && bundleVersion s != 0
    && (bundleW s 3).toNat == s.upd.len && decide (1 ≤ entryCount s) && decide (entryCount s ≤ 8)
    && onlyBits (bundleW s 4) [(4, 0)] && onlyBits (bundleW s 5) [(19, 1)] && (bundleWs s 6 9).all (· == 0)
    && (bundleW s 15).toNat == crc32 (bundleWs s 0 15) && decide (128 + 64 * entryCount s ≤ s.upd.len)

/-- Entry `i` is well formed, and stands beside those before it (R527, R528). -/
def bundleEntryOk (s : State) (i : Nat) : Bool :=
  let e := bundleEntry s i
  let a := 16 + 16 * i
  let before := ((List.range i).map (bundleEntry s)).filter (fun x => x.kind == e.kind)
  decide (1 ≤ e.kind) && decide (e.kind ≤ 5) && fieldOf (bundleW s a) 31 16 == 0 && (bundleWs s (a + 12) 4).all (· == 0)
    && (e.kind == 5 || e.unit == 0) && (e.kind != 5 || e.version == 0) && e.offset % 64 == 0
    && decide (64 + 64 * entryCount s ≤ e.offset) && decide (e.offset + e.length + 64 ≤ s.upd.len)
    && (match before with
      | [] => true
      | [x] => e.kind == 5 && bundlePair s && x.unit != 0 && e.unit != 0 && x.unit != e.unit
      | _ => false)

/-- Words of a payload. -/
def payloadWords (s : State) (e : Entry) : List Word := bundleWs s (e.offset / 4) (updWords e.length)

/-- The signature of a bundle verifies: its last 64 octets over the digest of the header and the manifest (R527). -/
def bundleSigned (s : State) : Bool :=
  let a := s.upd.len - 64
  let all := bundleWs s 0 (updWords s.upd.len)
  let octet (i : Nat) : Nat := bitsOf (wAt all ((a + i) / 4)).toNat (8 * ((a + i) % 4)) 8
  let sig : List Word := (List.range 16).map (fun k => wordOf [(octet (4 * k), 0), (octet (4 * k + 1), 8), (octet (4 * k + 2), 16), (octet (4 * k + 3), 24)])
  Config.ecdsaOk Config.vendorKey (Config.sha256 (bundleWs s 0 (16 + 16 * entryCount s))) sig

/-- The staged bundle is the one that runs (R532). -/
def bundleRuns (s : State) : Bool := s.upd.active.1 == s.upd.digest && s.upd.active.2 != 0

/-- The counter of a kind, the bundle's for kind 0 (R532). -/
def updCtr (s : State) (k : Nat) : Nat := s.upd.ctrs.getD k 0

/-- A payload of kind 0x05 as a slot. -/
def payloadSlot (s : State) (e : Entry) : Slot := writeWords 0 (payloadWords s e) []

/-- What checking the staged bundle comes to: the status of the first check that fails and the entry it names, 0xFF the header
(R531). (DEDUCED, log 77.) -/
def checkBundle (s : State) : Option (Status × Nat) :=
  let is := List.range (entryCount s)
  let same := bundleRuns s
  if Config.sha256Octets s.upd.len (bundleWs s 0 (updWords s.upd.len)) != s.upd.digest || !bundleHeaderOk s then some (.badParam, 0xFF)
  else match is.find? (fun i => !bundleEntryOk s i) with
    | some i => some (.badParam, i)
    | none =>
      if !(bundleW s 5).getLsbD (partCode s) || dieStep s < fieldOf (bundleW s 5) 19 16 then some (.badParam, 0xFF)
      else if !bundleSigned s then some (.authFail, 0xFF)
      else match is.find? (fun i =>
          let e := bundleEntry s i
          Config.sha256Octets e.length (payloadWords s e) != e.digest) with
        | some i => some (.authFail, i)
        | none =>
          if !same && bundleVersion s ≤ updCtr s 0 then some (.replay, 0xFF)
          else match is.find? (fun i =>
              let e := bundleEntry s i
              !same && e.kind != 5 && decide (e.version < updCtr s e.kind)) with
            | some i => some (.replay, i)
            | none =>
              match is.find? (fun i => (bundleEntry s i).kind == 5 && entryApplies s (bundleEntry s i)) with
              | none => none
              | some i =>
                let c := checkSlot s (payloadSlot s (bundleEntry s i)) false
                if c.reason == some 4 then some (.authFail, i)
                else if !c.valid then some (.badParam, i)
                else if !same && c.seq ≤ seqInUse s then some (.replay, i)
                else none

/-! Commands (R529, R530, R536, R540, R541). -/

/-- Another update command executes on some lane (R540). -/
def updBusy (s : State) : Bool :=
  s.lanes.any (fun l => match l.2.ex with
    | some x => isUpdateOp x.opcode && x.opcode != 0x0205
    | none => false)

/-- UPD_BEGIN. (DEDUCED, log 72.) (DEDUCED, log 77.) -/
def bodyUpdBegin (g : Goruz) (s : State) : Res :=
  let len := gf g 1 21 0
  let dig := ofWords (g.words.drop 1)
  if !onlyBits (gw g 1) [(21, 0)] || len < 256 || 2097152 < len then fails .badParam s
  else if updBusy s || 3 ≤ s.upd.staging then fails .busy s
  else
    let s := withMram s
    if (s.upd.staging == 1 || s.upd.staging == 2) && s.upd.len == len && s.upd.digest == dig then
      .now .okAlready [w32 s.upd.persisted] s
    else .now .ok [0] (setUpd { s.upd with staging := 1, len := len, digest := dig, data := [], persisted := 0 } s)

/-- UPD_WRITE. (DEDUCED, log 77.) -/
def bodyUpdWrite (g : Goruz) (s : State) : Res :=
  let off := gf g 1 21 0
  let ws := g.words.drop 1
  if !onlyBits (gw g 1) [(21, 0)] || off % 4 != 0 || (s.upd.staging != 0 && 4 * updWords s.upd.len < off + 4 * ws.length)
  then fails .badParam s
  else if s.upd.staging != 1 then fails .notPermitted s
  else if updBusy s then fails .busy s
  else
    let s := withMram s
    let d := ws.zipIdx.foldl (fun d x => tabPut d (off / 4 + x.2) x.1) s.upd.data
    .now .ok [] (setUpd (persistPrefix { s.upd with data := d }) s)

/-- UPD_FINISH. -/
def bodyUpdFinish (_ : Goruz) (s : State) : Res :=
  if s.upd.staging != 1 && s.upd.staging != 2 then fails .notPermitted s
  else if updBusy s then fails .busy s
  else if s.upd.staging == 2 then .now .okAlready [w32 (bundleVersion s), 0xFF] s
  else
    let s := withMram s
    match checkBundle s with
    | some (st, e) => .now st [w32 (bundleVersion s), w32 e] (setF F.keepUpdState_fail_entry 0 e s)
    | none => .now .ok [w32 (bundleVersion s), 0xFF]
        (setF F.keepUpdState_fail_entry 0 0xFF (setUpd { s.upd with staging := 2 } s))

/-- UPD_ABORT. -/
def bodyUpdAbort (_ : Goruz) (s : State) : Res :=
  if 3 ≤ s.upd.staging then fails .notPermitted s
  else if updBusy s then fails .busy s
  else if s.upd.staging == 0 then fails .okAlready s
  else .now .ok [] (setUpd { s.upd with staging := 0, len := 0, digest := 0, data := [], persisted := 0 } (withMram s))

/-- The recovery loader runs (R86). -/
def recovering (s : State) : Bool := getF F.keepStart_phase 0 s == 0xF

/-- KEEP_UPD_STATE (R539). -/
def updStateW (s : State) : Word :=
  wordOf [(s.upd.staging, 0), (b2n (recovering s), 3), (b2n s.torch.pair.isSome, 4), (getF F.keepUpdState_fail_entry 0 s, 16)]
/-- KEEP_UPD_PROGRESS. -/
def updProgressW (s : State) : Word := w32 s.upd.persisted

/-- UPD_STATUS. -/
def bodyUpdStatus (_ : Goruz) (s : State) : Res :=
  .now .ok ([updStateW s, updProgressW s] ++ (List.range 5).map (fun k => w32 (updCtr s k))
    ++ [if s.upd.staging = 0 then 0 else w32 (bundleVersion s)]) s

/-! Activation (R533, R534, R537). -/

/-- Kinds 0x01 to 0x04 whose payload the bundle changes on this unit. -/
def changedKinds (s : State) : List Nat :=
  [1, 2, 3, 4].filter (fun k => match entryOfKind s k with
    | some e => e.digest != s.upd.payloads.getD (k - 1) 0
    | none => false)

/-- Raise a list's numbers to those of the bundle's entries. -/
def raisedCtrs (s : State) : List Nat :=
  max (updCtr s 0) (bundleVersion s) :: [1, 2, 3, 4].map (fun k => match entryOfKind s k with
    | some e => max (updCtr s k) e.version
    | none => updCtr s k)

/-- The new set is in force once the record's commit word is written: image into the slot not selected, record, counters
(R532, R533). -/
def writeActivation (s : State) : State :=
  let s := match entryOfKind s 5 with
    | some e =>
      let l := payloadSlot s e
      setSlot (otherSlot s) (writeMarker (slotW l 2).toNat l) s
    | none => s
  let put (f : Entry → Nat) (old : List Nat) : List Nat := [1, 2, 3, 4].map (fun k => match entryOfKind s k with
    | some e => f e
    | none => old.getD (k - 1) 0)
  count F.keepUpdCnt_activations 0 (setUpd { s.upd with
      staging := 3
      ctrs := raisedCtrs s
      active := (s.upd.digest, bundleVersion s)
      versions := put (·.version) s.upd.versions
      payloads := put (·.digest) s.upd.payloads
      record := some (s.upd.digest, false)
      copied := 0 } s)

/-- The bundle's image takes its place in the slot; its number, for the pause. -/
def activationImage (s : State) : Bool := (entryOfKind s 5).isSome

/-- The commit word is written, and the pause is due at the first boundary at least 1 ms later, or at once (R533, R534).
(DEDUCED, log 78.) -/
def beginActivation (n : Nat) (s : State) : State :=
  let kinds := changedKinds s
  let image := activationImage s
  let at' := if slmRunning s then boundaryFrom s (s.time.ns + 1000000) else s.time.ns
  let s1 := writeActivation s
  setUpd { s1.upd with act := some { lane := n, pauseAt := at', kinds := kinds, image := image } } s1

/-- Some other lane executes a command (R533). -/
def othersExecute (n : Nat) (s : State) : Bool := s.lanes.any (fun l => l.1 != n && l.2.ex.isSome)

/-- Copy the staging area into the active area; staging reads EMPTY after the copied mark (R535). -/
def copyDone (s : State) : State :=
  setUpd { s.upd with
    staging := 0, len := 0, digest := 0, data := [], persisted := 0, copied := 0
    record := s.upd.record.map (fun r => (r.1, true)) } s

/-- UPD_ACTIVATE of this unit's own staging, with pair clear: the checks of R533, then the record; the recovery loader copies and
resets (R537). (DEDUCED, log 78.) -/
def activateOwn (n : Nat) (s : State) : Res :=
  if s.upd.staging != 2 then fails .notPermitted s
  else if updBusy s then fails .busy s
  else if bundleRuns s then .now .okAlready [0, 0] s
  else
    let s := withMram s
    match checkBundle s with
    | some (st, e) => .now st [] (setF F.keepUpdState_fail_entry 0 e s)
    | none =>
      if recovering s then
        let s := copyDone (writeActivation s)
        .now .ok [0, 0] { s with start := { s.start with resetDue := some s.now } }
      else if othersExecute n s then .later [] s
      else .later [] (beginActivation n s)

/-- Domains that an activation restarts: of kinds 0x01, 0x02 and 0x04 (table "Entry kinds"). -/
def restartDomains (kinds : List Nat) : List Nat :=
  (if kinds.contains 1 then [1] else []) ++ (if kinds.contains 2 then [15] else []) ++ (if kinds.contains 4 then [20] else [])

/-- The pause begins: starts are held as by a hold of LINK_SEQ, and staging is discarded. Its length is left open within 180 ms
(R534, log 4). (DEDUCED, log 78.) -/
def pauseBegin (a : Activation) (s : State) : State :=
  let s := waitKeep a.pauseAt s
  let us := freeNow 18 s % 180001
  let s := unstage (freeNext s)
  { s with
    pwr := { s.pwr with held := 15 :: s.pwr.held.filter (· != 15) }
    cfg := { s.cfg with pending := none }
    upd := { s.upd with act := some { a with began := some (s.now, us) } } }

/-- The pause ends: payloads restarted, the image's configuration applied as at a commit instant, holds released, the response
written. A domain that fails to return is FAILED (R534). (DEDUCED, log 78.) -/
def pauseEnd (a : Activation) (t us : Nat) (dead : List Nat) (s : State) : State :=
  let s := waitTill (t + 1000 * us) s
  let ds := restartDomains a.kinds
  let s := { s with pwr := { s.pwr with held := s.pwr.held.filter (· != 15) }, upd := { s.upd with act := none } }
  let lost := ds.filter (fun d => dead.contains d)
  let s := lost.foldl (fun s d => domFail d 2 s) s
  let s := if a.kinds.contains 4 && !lost.contains 20 then
      { s with trf := { s.trf with items := s.trf.items.map (fun x => { x with core := none, flags := 1, mask := 1 }) } } else s
  let s := if a.image then
      let k := otherSlot s
      let c := checkSlot s (slotOf s k) true
      applyCommit c.table (setF F.keepCfg_skipped 0 c.skipped (selectSlot k s))
    else s
  let s := blankRefresh s
  match (lane s a.lane).ex with
  | some x => respond a.lane x.tag (if lost.isEmpty then .ok else .domainFailed) [w32 (maskOf ds), w32 us] s
  | none => s

/-- A lane whose UPD_ACTIVATE waits for the commands of the other lanes. -/
def activationWaiting (s : State) : Option Nat :=
  ((s.lanes.filter (fun l => match l.2.ex with
    | some x => x.opcode == 0x0204
    | none => false)).head?).map (·.1)

/-- ACTIVATION_PAUSE (R533, R534): taken first it begins the pause, taken again it ends it. An activation that waited for commands
of other lanes writes its record first. (DEDUCED, log 78.) -/
def execActivationPause (dead : List Nat) (s : State) : Host.Outcome State Fault Refusal :=
  match s.upd.act with
  | some a => (match a.began with
    | some (t, us) => done s (pauseEnd a t us dead s)
    | none => done s (pauseBegin a s))
  | none =>
    if s.torch.pair.isSome then done s s
    else match activationWaiting s with
      | none => done s s
      | some n =>
        if othersExecute n s then done s s
        else
          let s1 := beginActivation n s
          match s1.upd.act with
          | some a => done s (pauseBegin a s1)
          | none => done s s1

end Sys2Proof.Machine
end

