-- ==== Sys2Proof/Machine/Sleep.lean ====
section
/-! DEFINITION. The stopping of domains, sleep sets and their commands, and what a domain loses with its supply (R63, R71 to
R76, R80). -/

namespace Sys2Proof.Machine
open Sys2Proof

/-- LINK_STORE loses its berths: the records are built again from their persistent entries at their first fetch, and the frames
they held complete with DOMAIN_FAILED (R12, R331). (DEDUCED, log 73.) -/
def storeLose (s : State) : State :=
  let s := s.nbrs.foldl (fun s e => if e.2.resident then
      (List.range 4).foldl (fun s c => completeWhere e.1 c 0x0D (fun _ => true) s) s else s) s
  { s with nbrs := s.nbrs.map (fun e => (e.1, if e.2.resident then
      { e.2 with resident := false, dirty := false, built := false, writing := false, fetch := none } else e.2)) }

/-- A field of KEEP_CPU that its reset leaves: those of the start and the gate, which last until the next part reset (R108), those of
the wick and of Lamplighter's records, the tamper status, and the lanes that have FAILED (R77, R78, R113, R416). -/
def cpuKeeps (k : Nat) : Bool :=
  let a := k / 32
  (decide (0x08 ≤ a) && decide (a < 0x30)) || (decide (0x1000 ≤ a) && decide (a < 0x2000)) || a == 0x301C
    || (List.range 4).any (fun n => k == F.keepGzStat_failed.key n || k == F.keepGzEcc_spares_used.key n)

/-- KEEP_CPU is reset: the lanes, staging, the timers and what else the control processor keeps are lost; keep time goes on from
the wick's count, without a source (R9, R12, R422). (DEDUCED, log 56.) -/
def cpuLose (s : State) : State :=
  timeUnset { s with
    regs := s.regs.filter (fun e => domOfAddr (e.1 / 32) != 1 || cpuKeeps e.1)
    lanes := [], lastLane := 3
    cfg := { s.cfg with staged := s.cfg.committed, dirty := false, owner := none, pending := none }
    keys := { s.keys with ingress := [] }
    time := { ns := s.time.ns, frac := s.time.frac }
    torch := {} }

/-- What a domain holds beside its registers is lost with its supply, or in a reset (R12, R63). What is reloaded as it comes on is
given by `domReload`. (DEDUCED, log 74.) -/
def domLose (d : Nat) (s : State) : State :=
  match d with
  | 1 => cpuLose s
  | 14 => stopEmitters s
  | 15 => { s with recs := [], awaiting := [], slm := {} } |> loadCells
  | 16 => { s with keys := { s.keys with cache := [] }, recs := s.recs.map (fun r => { r with job := 0 }) }
  | 17 => storeLose s
  | 18 => { s with trf := { s.trf with used := [], police := [], urgentUse := [], hist := [], cursor := none, v := 0 } }
  | 19 => { s with fwd := { s.fwd with up := [], frags := [], reasm := [] } }
  | 20 => { s with trf := { s.trf with items := [] } }
  | 21 => { s with net := { s.net with irq := [] } }
  | 22 => linkDown 0 s
  | 23 => linkDown 1 s
  | 24 => configReset (pcieLose s) |> setF F.netPcieStatus_link_up 0 0
  | 25 => { s with net := { s.net with ddrLost := true } } |> setF F.netDdrStatus_trained 0 0
  | _ => if 3 ≤ d && d ≤ 5 then
      ((List.range 8).filter (fun e => emPort s e == d - 3)).foldl (fun s e => stopEmitter e s) s
    else if 6 ≤ d && d ≤ 13 then
      ((List.range 8).map (fun i => 8 * (d - 6) + i)).foldl (fun s n => abandonAll n 3 s) s
    else s

/-- Work for an acknowledgement deadline is held (R25). -/
def deadlineWork (s : State) : Bool :=
  !s.awaiting.isEmpty || s.recs.any (fun r => !r.done && !r.acked && !r.late && r.frame.isSome)
    || (List.range 8).any (fun e => match (em s e).tx with
      | some t => t.kind == 1
      | none => false)

/-- A transmission is on the air, or falls due in the look-ahead, on a port; on any where none is named. -/
def transmitting (p : Option Nat) (s : State) : Bool :=
  let is (q : Nat) : Bool := p.all (· == q)
  (List.range 8).any (fun e => is (emPort s e) && ((em s e).tx.isSome || (em s e).tone.isSome))
    || s.slm.offers.any (fun o => is o.port) || s.slm.contacts.any (fun c => is c.port)
    || s.net.imms.any (fun i => match i.place with
      | some (e, _) => is (emPort s e)
      | none => p.isNone)

/-- The reason for which a domain refuses a quiesce request, for retention or for off (R74). (DEDUCED, log 79.) -/
def refusal (s : State) (d : Nat) (off : Bool) (lane' : Option Nat) : Option Nat :=
  let air := 3 ≤ d && d ≤ 5
  if (d == 14 || d == 15 || d == 16 || d == 17) && deadlineWork s then some 1
  else if (air && (boundLst s).any (fun n => lstPort s n == d - 3))
    || (6 ≤ d && d ≤ 13 && (boundLst s).any (fun n => n / 8 == d - 6)) || (d == 15 && !(boundLst s).isEmpty) then some 2
  else if (d == 14 && transmitting none s) || (air && transmitting (some (d - 3)) s) then some 3
  else if (d == 16 && s.recs.any (fun r => r.job != 0))
    || ((d == 17 || d == 25) && s.nbrs.any (fun e => e.2.fetch.isSome || e.2.writing)) then some 4
  else if (d == 21 && s.fwd.deliver.any (fun x => x.moved != 0))
    || (d == 18 && s.nbrs.any (fun e => (List.range 4).any (fun c => (flowOf e.2.b c).busy)))
    || (d == 19 && !(s.fwd.up.isEmpty && s.fwd.frags.isEmpty))
    || (d == 20 && s.trf.items.any (fun x => x.core.isSome)) then some 5
  else if ((d == 22 || d == 23) && ethEnabled s (d - 22) && getB F.netEthStatus_link (d - 22) s)
    || (d == 24 && getB F.netPcieStatus_link_up 0 s && !s.net.d3hot) then some 6
  else if d == 2 && s.upd.staging == 4 then some 7
  else if off && ((d == 25 && (spilledPages s != 0 || s.nbrs.any (fun e => !e.2.resident)))
    || (d == 17 && s.nbrs.any (fun e => e.2.resident)) || (d == 18 && (List.range 8).any (fun g => quotaUsed s g != 0))) then some 8
  else if d == 1 && (getB F.keepPwrClk_wick_on_rc 0 s || getB F.keepPwrWick_brownout 0 s) then some 9
  else if d == 1 && (s.upd.staging == 4 || s.lanes.any (fun l => some l.1 != lane' && l.2.ex.isSome)) then some 10
  else none

/-- The steps of a stop, once accepted: isolation, the saving of retention, and the removal of the supply (R73). With KEEP_CPU in
retention the wick's regulator is in low-power mode (R55). -/
def stopSteps (d : Nat) (off : Bool) (s : State) : State :=
  let s := elapse (if off then 2000 else 4000) s
  let s := if off then domLose d s else s
  let s := s |> setF F.keepPwrState_state d (if off then 2 else 1) |> setF F.keepPwrState_waking d 0
  let s := if d = 1 then setF F.keepPwrWick_lp_mode 0 1 s else s
  let s := if d = 24 && !off then setF F.netPcieStatus_link_up 0 0 s else if d = 22 || d = 23 then linkDown (d - 22) s else s
  blankRefresh (pllRefresh s)

/-- A refusal is recorded, raised and counted (R74, R75, R521). -/
def noteRefusal (set d why : Nat) (s : State) : State :=
  s |> setF F.keepPwrState_last_refusal d why |> raise Ev.keepSleepRefused [(set, 32), (d, 32), (why, 8)]
    |> count F.keepPwrCntRefuse_refusals 0 |> histAdd 17 why 1

/-- Domain `d` is a member that is off its sleep state: on, or in retention with its sleep state off. -/
def needsStop (s : State) (o d : Nat) : Bool :=
  !domDead s d && domPresent s d && (domState s d == 0 || (domState s d == 1 && bitOf o d))

/-- Members stopped one by one in reverse wake order: the state, the members stopped, and who refused for what (R72, R73).
(DEDUCED, log 79.) -/
def stopMembers (set o : Nat) (quiet : List Nat) (lane' : Option Nat) : List Nat → State → List Nat →
    State × List Nat × Option (Nat × Nat)
  | [], s, done' => (s, done', none)
  | d :: ds, s, done' =>
    if !needsStop s o d then stopMembers set o quiet lane' ds s done'
    else
      let s := if domState s d == 1 then wake 0x03 d s else s
      let why := if quiet.contains d then some 0x0B else refusal s d (bitOf o d) lane'
      match why with
      | some r => (noteRefusal set d r (if r = 0x0B then elapse 10000 s else s), done', some (d, r))
      | none => stopMembers set o quiet lane' ds (stopSteps d (bitOf o d) s) (d :: done')

/-- Note which domains are members of the active set. -/
def setMembers (m : Nat) (s : State) : State :=
  (List.range 26).foldl (fun s d => setB F.keepPwrState_member d (bitOf m d) s) s

/-- PWR_SLEEP_ENTER (R72, R75, R80). (DEDUCED, log 79.) -/
def bodyPwrSleepEnter (g : Goruz) (s : State) : Res :=
  let k := (gw g 1).toNat % 256
  let partial' := gf g 1 8 8 == 1
  if !onlyBits (gw g 1) [(8, 0)] || 7 < k then fails .badParam s
  else match paramOpt s 0x0302 k with
    | none => fails .notCommitted s
    | some ws =>
      if powerBusy s then fails .busy s
      else
        let m := maskOf ((List.range 26).filter (fun d => domPresent s d && bitOf (fieldOf (wAt ws 1) 25 0) d))
        let o := fieldOf (wAt ws 2) 25 0
        let h := fieldOf (wAt ws 3) 23 0
        let old := match s.pwr.active with
          | some (j, m', _, _) => if j = k then 0 else m'
          | none => 0
        let leave := (List.range 26).filter (fun d => bitOf old d && !bitOf m d)
        let order := (maskDomains m).reverse
        if !order.any (needsStop s o) && !leave.any (fun d => domPresent s d && domState s d != 0 && !domDead s d) then
          .now .okAlready (sleepWords { s with pwr := { s.pwr with active := some (k, m, o, h) } } 0xFF 0) s
        else
          let s := wakeAllBut 0x16 g.env.dead leave s
          let s := setMembers m { s with pwr := { s.pwr with active := some (k, m, o, h) } }
          match stopMembers k o g.env.quiet (some g.lane.val) order s [] with
          | (s, _, none) => .now .ok (sleepWords s 0xFF 0) s
          | (s, stopped, some (d, why)) =>
            if partial' then .now .sleepRefused (sleepWords s d why) s
            else
              let s := wakeAllBut 0x0E g.env.dead stopped s
              if stopped.any (fun e => (tabFind s.pwr.deferred e).isSome) then .later [d, why] s
              else .now .sleepRefused (sleepWords s d why) s

/-- PWR_SLEEP_EXIT (R76, R80). -/
def bodyPwrSleepExit (g : Goruz) (s : State) : Res :=
  match s.pwr.active with
  | none => .now .okAlready [0] s
  | some (_, m, _, _) =>
    if powerBusy s then fails .busy s
    else
      let s := setMembers 0 { s with pwr := { s.pwr with active := none } }
      answerWake 0x0304 m (wakeAllBut 0x16 g.env.dead (maskDomains m) s)

/-- The domain is a member of the active set that is on: its set, its sleep state, and the idle hold. -/
def memberOn (s : State) (d : Nat) : Option (Nat × Bool × Nat) :=
  match s.pwr.active with
  | some (k, m, o, h) => if bitOf m d && domOn s d then some (k, bitOf o d, h) else none
  | none => none

/-- A domain depends on `d` and is on: `d` is not stopped (R62). -/
def dependantOn (s : State) (d : Nat) : Bool := (List.range 26).any (fun e => (Config.dom e).deps.contains d && domOn s e)

/-- DOMAIN_STOP (R73, R74): Lamplighter asks a member of the active set to stop; it accepts and is stopped, or refuses.
(DEDUCED, log 79.) -/
def execDomainStop (d : Fin 26) (s : State) : Host.Outcome State Fault Refusal :=
  match memberOn s d with
  | none => done s s
  | some (k, off, _) =>
    if dependantOn s d then done s s
    else match refusal s d off none with
      | some r => done s (noteRefusal k d r s)
      | none => done s (stopSteps d off s)

/-- QUIESCE_NO_ANSWER (R73, R74): no answer within 10 µs is a refusal with reason NO_ANSWER. (DEDUCED, log 79.) -/
def execQuiesceNoAnswer (d : Fin 26) (s : State) : Host.Outcome State Fault Refusal :=
  match memberOn s d with
  | none => done s s
  | some (k, _, _) => if dependantOn s d then done s s else done s (noteRefusal k d 0x0B (elapse 10000 s))

/-- IDLE_HOLD_EXPIRY (R76): a member woken per event returns to its sleep state. One that would refuse is not idle. -/
def execIdleHoldExpiry (d : Fin 26) (s : State) : Host.Outcome State Fault Refusal :=
  match memberOn s d with
  | none => done s s
  | some (_, off, h) =>
    if h = 0 || dependantOn s d || getB F.keepPwrState_waking d s || (refusal s d off none).isSome then done s s
    else done s (stopSteps d off s)

end Sys2Proof.Machine
end

