-- ==== Sys2Proof/Machine/Reset.lean ====
section
/-! DEFINITION. Part resets, the loss of a bank, of a DRAM rail and of the reference, wakes that time out, and the tick of
PLL_CORE (R36, R37, R53, R54, R58, R59, R68 to R70, R82). -/

namespace Sys2Proof.Machine
open Sys2Proof

/-- Register fields that a part reset leaves as they are: the wick's wake records, KEEP_SCRATCH, the reset count, the latched
tamper bits, and what the rails show (R77, R108, R416, R549). (DEDUCED, log 80.) -/
def resetKeeps (k : Nat) : Bool :=
  (decide (32 * 0x1080 ≤ k) && decide (k < 32 * 0x1200)) || k == 32 * 0x08 || k == F.keepRstCause_resets.key 0
    || k == F.keepTampStatus_latched.key 0 || k == F.keepPwrSupply_io33_low.key 0 || k == F.keepPwrSupply_ddr_low.key 0

/-- The staging area after a reset: what lies beyond the persisted beginning may or may not be held (R530, log 4). (DEDUCED, log 77.) -/
def stagingAfterReset (s : State) : Upd :=
  let u := s.upd
  let held := freeNow 524288 s
  let kept := u.data.filter (fun e => decide (4 * e.1 < u.persisted) || held.testBit e.1)
  { u with data := (if u.staging = 1 then kept else u.data), act := none }

/-- What is left of the state by a part reset: the wick's records and keep time, MRAM, the rails, and the counts of the logbook
until the start loads it (R77, R82, R422, R525). (DEDUCED, log 80.) -/
def afterReset (s : State) : State :=
  { pending := s.pending, fuse := s.fuse, now := s.now, freeCtr := s.freeCtr, outs := s.outs
    regs := s.regs.filter (fun e => resetKeeps e.1)
    pwr := { vddqLow := s.pwr.vddqLow, vdd2Low := s.pwr.vdd2Low }
    cfg := { slotA := s.cfg.slotA, slotB := s.cfg.slotB, factory := s.cfg.factory }
    time := { ns := s.time.ns, frac := s.time.frac }
    diag := { s.diag with
      tests := [], rowSpares := [], fullAt := none
      retired := s.diag.retired.filter (fun e => e.1 / 2 ^ 40 == 3 || e.1 / 2 ^ 40 == 4) }
    persist := s.persist
    keys := { s.keys with cache := [], ingress := [], rootOk := false, debugActive := false, general := true, holdAtStart := false }
    upd := stagingAfterReset s }

/-- A part reset with a cause (R82). The start sequence follows it. (DEDUCED, log 80.) -/
def partReset (cause : Nat) (s : State) : State :=
  let t := afterReset (freeNext s)
  let n := satAdd 16 (getF F.keepRstCause_resets 0 s) 1
  t |> setF F.keepRstCause_cause 0 cause |> setF F.keepRstCause_resets 0 n

/-- A VDD_AON power-on reset: the wick and its records are reset as well, and keep time is 0 (R53, R77, R422). (DEDUCED, log 80.) -/
def powerOnReset (s : State) : State :=
  let t := afterReset (freeNext s)
  { t with regs := t.regs.filter (fun e => e.1 == F.keepPwrSupply_io33_low.key 0 || e.1 == F.keepPwrSupply_ddr_low.key 0), time := {} }

/-- RESET_N_FALL (R36, R82): low for at least 1 µs, it resets the part. (DEDUCED, log 80.) -/
def execResetNFall (lowNs : Nat) (s : State) : Host.Outcome State Fault Refusal :=
  if lowNs < 1000 then done s s else done s (partReset 3 (elapse lowNs s))

/-- The watchdog period in ms: 500 until the image step of the start sequence, then WATCHDOG_MS (R82). (DEDUCED, log 94.) -/
def watchdogMs (s : State) : Nat := if s.start.imageStep then (paramW s 0x0113 0 1).toNat else 500

/-- WATCHDOG_EXPIRY (R82): the watchdog has not been served for `ms` milliseconds. (DEDUCED, log 94.) -/
def execWatchdogExpiry (ms : Nat) (s : State) : Host.Outcome State Fault Refusal :=
  if serving s && watchdogMs s ≤ ms then done s (partReset 5 s) else done s s

/-- SUPPLY_RESET_THRESHOLD (R53, R82): VDD_CORE or VDD_1V8 below its reset threshold. -/
def execSupplyResetThreshold (_ : CoreRail) (s : State) : Host.Outcome State Fault Refusal := done s (partReset 2 s)

/-- VDD_AON_POWER_ON_RESET (R53, R82). -/
def execVddAonPowerOnReset (s : State) : Host.Outcome State Fault Refusal := done s (powerOnReset s)

/-- SUPPLY_WARNING (R54, R314): the dip begins, and every dirty persistent entry is written, the oldest change first. -/
def execSupplyWarning (r : CoreRail) (s : State) : Host.Outcome State Fault Refusal :=
  if !serving s || (tabFind s.pwr.dip (railCode r)).isSome then done s s
  else
    let s1 := supplyWarn r s
    let dirty := (s1.nbrs.filter (fun e => e.2.dirtyAt.isSome)).mergeSort
      (fun a b => decide (a.2.dirtyAt.getD 0 ≤ b.2.dirtyAt.getD 0))
    done s (dirty.foldl (fun s e => writePersist e.1 s) s1)

/-- What a reset of NET_PCIE loses, without the link's training (R453). -/
def pcieDown (s : State) : State :=
  s |> pcieLose |> configReset |> pcieLaneReset 0 |> pcieLaneReset 1 |> count F.netPcieCnt_resets 0
    |> raise Ev.netPcieReset [(0, 2)] |> setF F.netPcieStatus_link_up 0 0 |> setF F.netPcieStatus_speed 0 0
    |> setF F.netPcieStatus_width 0 0

/-- BANK_ISOLATED (R37, R53): VDD_IO33 falls below its threshold; its inputs read 0, and PCIE_PERST_N as 0 resets NET_PCIE. -/
def execBankIsolated (s : State) : Host.Outcome State Fault Refusal :=
  if getB F.keepPwrSupply_io33_low 0 s then done s s
  else if !serving s then done s (setF F.keepPwrSupply_io33_low 0 1 s)
  else
    let s1 := s |> setF F.keepPwrSupply_io33_low 0 1 |> setF F.keepPwrSupply_io33_seen 0 1 |> raise Ev.keepBankIsolated [(2, 3)]
    done s (if domOn s1 24 && pcieUsed s1 then pcieDown s1 else s1)

/-- BANK_RESTORED (R53): VDD_IO33 is back above its threshold, and the PCIe link trains again. -/
def execBankRestored (s : State) : Host.Outcome State Fault Refusal :=
  if !serving s then done s (setF F.keepPwrSupply_io33_low 0 0 s)
  else if getB F.keepPwrSupply_io33_low 0 s then
    let s1 := s |> setF F.keepPwrSupply_io33_low 0 0 |> raise Ev.keepBankIsolated [(2, 3)]
    done s (if domOn s1 24 && pcieUsed s1 then pcieTrain s1 else s1)
  else done s s

/-- A domain reset (R12): it loses its state, and its supply. -/
def domainReset (d : Nat) (s : State) : State :=
  pllRefresh (setF F.keepPwrState_state d 2 (setF F.keepPwrState_waking d 0 (domLose d s)))

/-- DDR_RAIL_LOSS (R53): NET_DDR is reset and stays off until both rails are back. -/
def execDdrRailLoss (r : DdrRail) (s : State) : Host.Outcome State Fault Refusal :=
  if bitOf s.fuse.net 0 == false || ddrRailLow r s then done s s
  else if !serving s then done s (setDdrRail r true s)
  else
    let s1 := setDdrRail r true s |> setF F.keepPwrSupply_ddr_seen 0 1 |> raise Ev.keepBankIsolated [(ddrRailCode r, 3)]
    done s (if domState s1 25 = 0 || domState s1 25 = 1 then domainReset 25 s1 else s1)

/-- The reference is lost: what R58 does in its order. Schedule timing does not survive it (R59). (DEDUCED, log 81.) -/
def referenceLost (s : State) : State :=
  let ds := (List.range 26).filter (fun d => 2 < d && domOn s d)
  let s := setReason 6 s
  let s := s |> setF F.keepPwrClk_keep_on_rc 0 1 |> setF F.keepPwrClk_ref_ok 0 0 |> setF F.keepPwrClk_ref_lost 0 1
  let s := linksDown s |> setF F.netPcieStatus_link_up 0 0
  let s := ds.foldl (fun s d => setF F.keepPwrState_state d 1 s) s
  let s := { s with
    pwr := { s.pwr with refLost := true, refDoms := ds }
    time := { s.time with onRc := true }
    slm := { s.slm with epoch := none, asn := none, look := none, offers := [], expects := [], contacts := [], claims := [] } }
  timeUnset (pllRefresh s) |> blankRefresh |> raise Ev.keepRefLost [(s.time.ns, 64)]

/-- REFERENCE_LOST (R58). (DEDUCED, log 81.) -/
def execReferenceLost (s : State) : Host.Outcome State Fault Refusal :=
  if !serving s then done s s
  else if s.pwr.refLost then done s (setF F.keepPwrClk_ref_ok 0 0 s)
  else done s (referenceLost s)

/-- REFERENCE_RESTORED (R59): the loss goes on until PWR_REF_RESUME. (DEDUCED, log 81.) -/
def execReferenceRestored (s : State) : Host.Outcome State Fault Refusal :=
  if !s.pwr.refLost || getB F.keepPwrClk_ref_ok 0 s then done s s
  else done s (s |> setF F.keepPwrClk_ref_ok 0 1 |> raise Ev.keepRefRestored [(s.time.ns, 64)])

/-! Wakes that time out (R68 to R70). -/

/-- The code of a step of a wake. -/
def wakeStepCode : WakeStep → Nat
  | .regulator => 0
  | .pll => 1
  | .third => 2
  | .isolation => 3

/-- A step of a domain's wake times out: a retry is due, or after two retries the domain is FAILED. A failure of KEEP_CPU resets the
part (R68, R69). -/
def stepTimeout (d step src : Nat) (s : State) : State :=
  if !domPresent s d || domState s d == 0 || domState s d == 3 then s
  else
    let s := if getB F.keepPwrState_waking d s then s
      else setF F.keepPwrState_retries d 0 (setF F.keepPwrState_waking d 1 (if srcOk src then wakeRecord d src s else s))
    let k := getF F.keepPwrState_retries d s
    if k < 2 then
      s |> setF F.keepPwrState_retries d (k + 1) |> raise Ev.keepDomainRetry [(d, 32), (step, 2), (k + 1, 32)]
        |> count F.keepPwrCntRetry_retries 0
    else if d = 1 then partReset 4 (domFail d step s)
    else domFail d step s

/-- WAKE_STEP_TIMEOUT (R68, R69). -/
def execWakeStepTimeout (d : Fin 26) (st : WakeStep) (src : Fin 23) (s : State) : Host.Outcome State Fault Refusal :=
  if d.val = 0 || s.start.testHeld then done s s else done s (blankRefresh (stepTimeout d (wakeStepCode st) src s))

/-- WAKE_RETRY (R68): 1 ms later the wake starts again, and succeeds. -/
def execWakeRetry (d : Fin 26) (s : State) : Host.Outcome State Fault Refusal :=
  let d := d.val
  if !getB F.keepPwrState_waking d s || (tabFind s.pwr.deferred d).isSome || railsHold s d
    || (Config.dom d).deps.any (fun e => domState s e != 0) then done s s
  else done s (blankRefresh (pllRefresh (finishWake d (elapse 1000000 s))))

/-- The number of a PLL in the table "PLLs". -/
def pllCode : Pll → Nat
  | .core => 0
  | .air => 1
  | .eth => 2
  | .ddr => 3
  | .pcie => 4

/-- PLL_LOCK_TIMEOUT (R70): every domain whose wake waits for the lock follows the same retries, and all fail together; where no
wake is noted yet, it is that of the first domain that uses the PLL and is not on. (DEDUCED, log 81.) -/
def execPllLockTimeout (p : Pll) (src : Fin 23) (s : State) : Host.Outcome State Fault Refusal :=
  let uses := Config.wakeOrder.filter (fun d => (Config.dom d).pll == pllCode p && domPresent s d && domState s d != 0 && domState s d != 3)
  let waits := uses.filter (fun d => getB F.keepPwrState_waking d s && (tabFind s.pwr.deferred d).isNone)
  let ds := if waits.isEmpty then uses.take 1 else waits
  if s.start.testHeld then done s s else done s (blankRefresh (ds.foldl (fun s d => stepTimeout d 1 src s) s))

/-- A cycle of PLL_CORE passes (DESIGN CHOICE, log 3). A reset that SYS_RESET has ordered is made when it is due (R137). -/
def tick (s : State) : State :=
  match s.start.resetDue with
  | some t => if t ≤ s.now + 1 then partReset 6 (elapse 1 s) else elapse 1 s
  | none => elapse 1 s

end Sys2Proof.Machine
end

