-- ==== Sys2Proof/Machine/Start.lean ====
section
/-! DEFINITION. The start sequence and what resumes it: the KEY_PARCEL_SUBMIT of a CLEAR parcel, CFG_IMAGE_FINISH and
PWR_DOMAIN_RETRY (R41, R47, R82 to R91, R96, R102, R107, R410, R414, R525, R535, R576, R577). -/

namespace Sys2Proof.Machine
open Sys2Proof

/-- KEEP_START.phase (R108). -/
def setPhase (p : Nat) (s : State) : State := setF F.keepStart_phase 0 p s

/-- A step of the sequence is reached, at the latest when the table "Start sequence" gives it, in µs from the trigger (DESIGN CHOICE, log 3). -/
def startAt (t0 us : Nat) (s : State) : State := waitTill (t0 + 1000 * us) s

/-- The wake source of the start: POWER_ON, or RESET (R577). -/
def startSrc (s : State) : Nat := if getF F.keepRstCause_cause 0 s = 1 then 1 else 2

/-- The start wakes a domain (R68, R577). -/
def startWake (dead : List Nat) (d : Nat) (s : State) : State :=
  if dead.contains d then wakeFails (startSrc s) d 0 s else wake (startSrc s) d s

/-- The reference is absent at the start: the effect of its loss, from the start sequence onwards (R58). (DEDUCED, log 81.) -/
def startNoReference (s : State) : State :=
  let s := setReason 6 s
  let s := s |> setF F.keepPwrClk_keep_on_rc 0 1 |> setF F.keepPwrClk_ref_ok 0 0 |> setF F.keepPwrClk_ref_lost 0 1
  pllRefresh { s with pwr := { s.pwr with refLost := true, refDoms := [] }, time := { s.time with onRc := true } }
    |> raise Ev.keepRefLost [(s.time.ns, 64)]

/-- The logbook is loaded from the newest valid location; a RESET entry and the counts of the reset follow (R525). A location
without a valid commit word and CRC is found invalid. (DEDUCED, log 82.) -/
def loadLogbook (bad : List Nat) (s : State) : State :=
  let ok (i : Nat) : Option LogLoc := match tabFind s.diag.locs i with
    | some l => if l.valid && !bad.contains i then some l else none
    | none => none
  let best := (List.range 4).foldl (fun (b : Option (Nat × LogLoc)) i => match ok i, b with
    | some l, some x => if x.2.seq < l.seq then some (i, l) else b
    | some l, none => some (i, l)
    | none, _ => b) none
  let inv := maskOf ((List.range 4).filter (fun i => (ok i).isNone))
  let d := match best with
    | some (i, l) => { s.diag with life := l.life, hist := l.hist, cls := l.cls, lastLoc := i, seq := l.seq, invalid := inv, fullKeep := l.time }
    | none => { s.diag with life := [], hist := [], cls := [], lastLoc := 3, seq := 0, invalid := inv, fullKeep := s.time.ns }
  let cause := getF F.keepRstCause_cause 0 s
  let s := { s with diag := d } |> journal 3 cause |> lifeAdd 2 1 |> histAdd 21 cause 1
  let s := if cause = 1 then lifeAdd 1 1 s else s
  if inv = 0 then s else raise Ev.keepLogLost [(inv, 32), (d.seq, 32)] s

/-- The source whose alarm the tamper step finds: one met at the step, or since the reset (R410). -/
def startAlarm (e : StartEnv) (s : State) : Option Nat :=
  match e.alarm with
  | some a => if tamperMonitored s a then some a.val else none
  | none => (List.range 5).find? (fun i => bitOf (getF F.keepTampStatus_active 0 s) i && tamperMonitored s i)

/-- The tamper step (R410). (DEDUCED, log 42.) -/
def startTamper (e : StartEnv) (s : State) : State :=
  match startAlarm e s with
  | none => s
  | some a =>
    let s := tamperNote a 0 s
    if tamperPolicy s a = 0 then s
    else
      let s := if tamperPolicy s a = 2 then eraseAll s else s
      setReason 7 { s with keys := { s.keys with holdAtStart := true } }

/-- The root step (R87 to R89, R387, R388, R407). (DEDUCED, log 83.) -/
def startRoot (e : StartEnv) (s : State) : State :=
  let ok := s.keys.helper && e.pufOk
  let debug := s.keys.debugArmed
  let k := { s.keys with
    root := s.keys.nextRoot.getD s.keys.root, nextRoot := none, rootOk := ok, debugArmed := false, debugActive := debug }
  let s := resumeCounters { s with keys := k } |> setB F.keepStart_root_ok 0 ok |> setB F.keepStart_debug_root 0 debug
  if ok then s else setReason 8 s

/-- The step that resumes an interrupted copy: whether the staging area verifies (R535). (DEDUCED, log 83.) -/
def startCopy (e : StartEnv) (s : State) : Bool × State :=
  match s.upd.record with
  | some (_, false) =>
    let s := setF F.keepStart_copy_resumed 0 1 s
    if e.stagingOk then (true, copyDone s) else (false, s)
  | _ => (true, s)

/-- A slot is not empty, and not valid. -/
def slotRejected (c : SlotCheck) : Bool := !c.empty && !c.valid

/-- bad_param of KEEP_START (R108). -/
def badParamOf (a b : SlotCheck) : Nat :=
  if slotRejected a && slotRejected b then (if a.seq < b.seq then b.param else a.param)
  else if slotRejected a then a.param
  else if slotRejected b then b.param
  else 0

/-- The image step (R90, R91, R108): the slot selected and what it holds; none where neither is valid. (DEDUCED, log 83.) -/
def startImage (s : State) : Option SlotCheck × State :=
  let a := checkSlot s s.cfg.slotA true
  let b := checkSlot s s.cfg.slotB true
  let s := s |> setF F.keepStart_bad_param 0 (badParamOf a b) |> setF F.keepStart_fallback 0 0
  let fall (sel rej : Nat) (c o : SlotCheck) (s : State) : State :=
    if slotRejected o && decide (c.seq < o.seq) then
      s |> setF F.keepStart_fallback 0 1
        |> raise Ev.keepCfgFallback [(sel, 2), (rej, 2), (o.reason.getD 0, 32), (getF F.keepStart_bad_param 0 s, 16)]
    else s
  if a.valid && (!b.valid || b.seq ≤ a.seq) then (some a, fall 1 2 a b (selectSlot 1 s))
  else if b.valid then (some b, fall 2 1 b a (selectSlot 2 s))
  else
    let s := selectSlot 0 s
    let add (c : SlotCheck) (s : State) : State := match c.reason with
      | some r => if reason s r then s else setReason r s
      | none => s
    (none, if a.empty && b.empty then setReason 1 s else add b (add a s))

/-- The layer step: factory defaults, the records of the image, trims (R96, R98), and what takes its reset value from them (R373,
R552). (DEDUCED, log 83.) -/
def startLayers (c : Option SlotCheck) (s : State) : State :=
  let t := match c with
    | some c => c.table
    | none => []
  let s := { s with cfg := { s.cfg with committed := t, staged := t, dirty := false, owner := none, pending := none } }
    |> setF F.keepCfg_skipped 0 (match c with | some c => c.skipped | none => 0)
  let s := s |> setF F.keepGpioOe_oe 0 (paramF s 0x0150 0 1 23 0) |> setF F.keepGpioOut_out 0 (paramF s 0x0150 0 2 23 0)
    |> setF F.keepGpioPull_pull_dn 0 (paramF s 0x0150 0 3 23 0)
  let s := if (paramW s 0x0112 0 1).getLsbD 6 then s |> setF F.keepPwrClk_xtal32_ok 0 0 |> setF F.keepPwrClk_wick_on_rc 0 1 else s
  let s := if s.keys.debugActive && !(paramW s 0x0111 0 1).getLsbD 0 then setReason 9 s else s
  noteClamp (restoreTables s)

/-- The address map and the pending bitmap, from the persistent entries (R309, R331). -/
def startStore (s : State) : State :=
  let up (h : Nat) (p : Persist) : Nbr := { b := buildBerth s p, resident := false, dirty := false, used := false, built := false }
  { s with nbrs := s.persist.foldl (fun t e => if e.1 < capacity s then tabPut t e.1 (up e.1 e.2) else t) [] }

/-- The domain step, and what follows from it (R298, R577). While the reference is lost the domains wait for PWR_REF_RESUME (R58).
(DEDUCED, log 83.) -/
def startDomains (dead : List Nat) (s : State) : State :=
  let ds := configDomains s
  let s := if pcieUsed s || !domOn s 24 then s
    else pllRefresh (setF F.keepPwrState_state 24 2 (domLose 24 s))
  let s := if s.pwr.refLost then { s with pwr := { s.pwr with refDoms := ds } }
    else (Config.wakeOrder.filter (fun d => ds.contains d)).foldl (fun s d => startWake dead d s) s
  let s := loadCells (startStore s)
  if follower s then setSync 3 { s with slm := { s.slm with fromLost := true } } else s

/-- The last step: HOST_HOLD where GATE_AUTO_OPEN is 0, and the gate opens where no reason closes it (R84, R99). -/
def startGate (s : State) : State :=
  let s := setPhase 6 { s with start := { s.start with gateReady := true } }
  let s := if (paramW s 0x0110 0 1).getLsbD 0 then s
    else setReason 11 { s with start := { s.start with holdLines := 15 } }
  blankRefresh (clearReasons [] s)

/-- The sequence from its image step (R84, R91, R102). Without a valid slot, or with the fuse word unreadable, it goes no further
than the layers. -/
def startFromImage (t0 : Nat) (dead : List Nat) (s : State) : State :=
  let x := startImage (startAt t0 6866 (setPhase 3 s))
  let s := startLayers x.1 (startAt t0 7366 (setPhase 4 x.2))
  let s := { s with start := { s.start with imageStep := true } }
  if x.1.isNone || !s.start.capsRead then setPhase 0xE s
  else startGate (startAt t0 27400 (startDomains dead (startAt t0 7400 (setPhase 5 s))))

/-- The sequence from its root step. With TAMPER_HOLD set the root, the image, the layers and the domains are skipped (R84, R410). -/
def startFromRoot (t0 : Nat) (e : StartEnv) (s : State) : State :=
  let hold := reason s 7
  let s := startAt t0 1366 (setPhase 1 s)
  let s := if hold then s else startRoot e s
  let x := startCopy e s
  let s := startAt t0 5366 (setPhase 2 x.2)
  if !x.1 || !e.bundleOk then setPhase 0xF (setReason 5 s)
  else if hold then setPhase 0xE s
  else startFromImage t0 e.dead s

/-- NET_PCIE is woken, and its link trains (R84). (DEDUCED, log 83.) -/
def startPcie (t0 : Nat) (e : StartEnv) (s : State) : State :=
  if s.pwr.refLost then s
  else
    let s := startWake e.dead 24 (startAt t0 246 s)
    if e.perstHigh then s else setF F.netPcieStatus_link_up 0 0 s

/-- The sequence from the step that reads the tamper monitors (R84, R576). -/
def startFromTamper (t0 : Nat) (e : StartEnv) (s : State) : State :=
  let s := startTamper e (loadLogbook e.badLocs (startAt t0 166 s))
  let s := startAt t0 1002 (startPcie t0 e s)
  startFromRoot t0 e s

/-- KEEP_MRAM is FAILED at the start (R576). -/
def startMramFailed (t0 : Nat) (e : StartEnv) (s : State) : State :=
  let s := wakeFails (startSrc s) 2 0 s
  let s := { s with pwr := { s.pwr with mramAtStart := true, escalated := tabPut s.pwr.escalated 2 false } }
  setPhase 0xE (startAt t0 1002 (startPcie t0 e (setReason 10 s)))

/-- The sequence from its trigger, with TEST_EN low (R84). -/
def startFromTrigger (e : StartEnv) (s : State) : State :=
  let t0 := s.now
  let s := startAt t0 2 s
  let s := if e.fuseAgree then { s with start := { s.start with capsRead := true } } else setReason 0 s
  if e.dead.contains 1 then partReset 4 (wakeFails (startSrc s) 1 0 s)
  else
    let s := setF F.keepPwrClk_ref_ok 0 1 (setF F.keepPwrClk_xtal32_ok 0 1 s)
    let s := if e.refGood then s else startNoReference (startAt t0 22 s)
    let s := startAt t0 85 (wake (startSrc s) 1 s)
    if !e.mramWakes || e.dead.contains 2 then startMramFailed t0 e s
    else startFromTamper t0 e (wake (startSrc s) 2 s)

/-- START_SEQUENCE (R84): after a reset, or once the reset that SYS_RESET has ordered is made (R137). A part held by TEST_EN starts
only at a later release of RESET_N (R41). (DEDUCED, log 83.) -/
def execStartSequence (e : StartEnv) (s : State) : Host.Outcome State Fault Refusal :=
  let s' := match s.start.resetDue with
    | some t => partReset 6 (waitTill t s)
    | none => s
  if s'.start.testHeld || getF F.keepStart_phase 0 s' != 0 then done s s'
  else if e.testEn then done s { s' with start := { s'.start with testHeld := true } }
  else done s (startFromTrigger e s')

/-! Commands that resume the sequence. -/

/-- KEY_PARCEL_SUBMIT (R392 to R398, R420). A CLEAR parcel that ends a hold set at the start resumes the sequence at its root step
(R414). -/
def bodyKeyParcelSubmit (g : Goruz) (s : State) : Res :=
  let ovf := getB F.keepKeyIngressStat_overflow 0 s
  let held := s.keys.holdAtStart && reason s 7
  let ws := s.keys.ingress
  let s := ingressClear s
  let r : Status × List Word × State :=
    if !s.keys.general then (.domainFailed, [], s)
    else if ovf then (.badParam, [], s)
    else submitParcel ws g.env.alarm s
  let t := setF F.keepKeyIngressStat_last_status 0 r.1.code r.2.2
  let t := if held && !reason t 7 && !t.keys.erased && t.keys.nextRoot.isNone && !recovering t then
      startFromRoot (t.now - 1002000) g.env.start { t with keys := { t.keys with holdAtStart := false } }
    else t
  .now r.1 r.2.1 t

/-- The part waits for an image (R102). -/
def heldByImage (s : State) : Bool :=
  getF F.keepStart_phase 0 s == 0xE && [1, 2, 3, 4].any (fun i => reason s i) && !reason s 7 && !s.pwr.mramAtStart

/-- CFG_IMAGE_FINISH (R90, R102, R107). -/
def bodyCfgImageFinish (g : Goruz) (s : State) : Res :=
  if domDead s 2 then fails .domainFailed s
  else
    let s := withMram s
    let k := otherSlot s
    let c := checkSlot s (slotOf s k) false
    let ws (p : Nat) : List Word := [w32 k, slotW (slotOf s k) 2, w32 p]
    if c.empty then .now .badParam (ws 0) s
    else if c.reason == some 4 then .now .authFail (ws c.param) s
    else if !c.valid then .now .badParam (ws c.param) s
    else if c.seq ≤ seqInUse s then .now .replay (ws 0) s
    else
      let held := heldByImage s
      let s := selectSlot k (setSlot k (writeMarker c.seq (slotOf s k)) s)
      let s := clearReasons [1, 2, 3, 4] s
      .now .ok (ws 0) (if held then startFromImage (s.now - 5366000) g.env.start.dead s else blankRefresh s)

/-- The dependants of a domain that is no longer FAILED: those outside the active set are woken (R80). -/
def wakeBlocked (dead : List Nat) (d : Nat) (s : State) : State :=
  let es := (List.range 26).filter (fun e => (Config.dom e).deps.contains d && domPresent s e && getB F.keepPwrState_blocked e s
    && !(Config.dom e).deps.any (domDead s))
  let s := es.foldl (fun s e => setF F.keepPwrState_blocked e 0 s) s
  let m := match s.pwr.active with
    | some (_, m, _, _) => m
    | none => 0
  wakeAllBut 0x03 dead (es.filter (fun e => !bitOf m e)) s

/-- PWR_DOMAIN_RETRY (R68, R80): a FAILED domain is woken again with two fresh retries. One of KEEP_MRAM that failed at the start
resumes the start sequence (R576). -/
def bodyPwrDomainRetry (g : Goruz) (s : State) : Res :=
  let d := gf g 1 4 0
  if d < 26 && !domPresent s d then fails .absent s
  else if !onlyFields g.words [[(4, 0)]] || 25 < d then fails .badParam s
  else if domState s d != 3 then .now .okAlready [w32 (domState s d)] s
  else if powerBusy s then fails .busy s
  else
    let s := setF F.keepPwrState_retries d 0 (setF F.keepPwrState_state d 2 s)
    if g.env.dead.contains d then .now .ok [3] (blankRefresh (wakeFails 0x03 d 0 s))
    else
      let s := blankRefresh (wakeBlocked g.env.dead d (wake 0x03 d s))
      if d = 2 && s.pwr.mramAtStart && domOn s 2 then
        .now .ok [w32 (domState s d)] (startFromTamper (s.now - 166000) g.env.start
          { s with pwr := { s.pwr with mramAtStart := false } })
      else answerWake 0x0307 d s

end Sys2Proof.Machine
end

