-- ==== Sys2Proof/Machine/Diag.lean ====
section
/-! DEFINITION. Error events, the targeted self-tests, the retirement of elements and the escalation of faults to a region and to the
chip (R10 to R13, R199 to R201, R510 to R515). -/

namespace Sys2Proof.Machine
open Sys2Proof

/-- ERROR_EVENT (R199, R510, R511). A frame in a context whose state memory is not correctable ends as ABANDONED. -/
def execErrorEvent (kind : Fin 10) (region : Fin 4) (index : Nat) (what : ErrKind) (s : State) : Host.Outcome State Fault Refusal :=
  let s1 := errorEvent kind.val region.val index (what != .other) s
  done s (if kind.val = 0 && what == .uncorrectable && index < 128 then
      retuneIfFree (index / 2) (loseCtx (index / 2) (index % 2) 3 s1)
    else s1)

/-- The element holds an operation (R511). (DEDUCED, log 84.) -/
def holdsOperation (s : State) (kind index : Nat) : Bool :=
  match kind with
  | 0 => (ctx (lst s (index / 2)) (index % 2)).isSome
  | 5 => index < 2 && s.recs.any (fun r => r.job == 1)
  | 6 => s.trf.items.any (fun x => x.core == some index)
  | 7 => (heldOn s index) != [] || (portEms s index).any (emOnAir s)
  | _ => false

/-- The operation in progress on an element that is quarantined completes as failed (R11, R199, R355). (DEDUCED, log 84.) -/
def failOperation (kind index : Nat) (s : State) : State :=
  match kind with
  | 0 => retuneIfFree (index / 2) (loseCtx (index / 2) (index % 2) 3 s)
  | 6 => (s.trf.items.filter (fun x => x.core == some index)).foldl (fun s x =>
      modItem x.id (fun x => { x with core := none, flags := 1, mask := 1 }) s) s
  | _ => s

/-- SELF_TEST_START (R511): the test of the element at the head of its block's queue starts once it holds no operation, or 10 ms after
it got there. -/
def execSelfTestStart (kind : Fin 10) (index : Nat) (s : State) : Host.Outcome State Fault Refusal :=
  let b := testBlock kind.val index
  match testQueue b s with
  | [] => done s s
  | t :: q =>
    if t.running || t.kind != kind.val || t.index != index then done s s
    else
      let s1 := if holdsOperation s kind.val index then waitTill (t.headAt + 10000000) s else s
      done s (setTestQueue b ({ t with running := true } :: q) (failOperation kind.val index s1))

/-- A context is retired: a spare of its block takes its place, or its listener goes on with one, or is retired with its last (R199 to
R201). (DEDUCED, log 84.) -/
def retireContext (n c : Nat) (s : State) : State :=
  let k := n / 8
  let used := getF F.airLbStatus_spares_used k s
  let s := retireNote 0 (2 * n + c) s |> setF F.airLbStatus_ctx_retired k (getF F.airLbStatus_ctx_retired k s + 1)
  if used < 2 then
    s |> lifeAdd 7 1 |> setF F.airLbStatus_spares_used k (used + 1)
      |> setF (if c = 0 then F.airLstStatus_ctx0_spare else F.airLstStatus_ctx1_spare) n 1
      |> raise Ev.airContextRetired [(n, 6), (c, 1), (1, 1), (1 - used, 32)]
  else
    let s := setCtx n c 7 s |> raise Ev.airContextRetired [(n, 6), (c, 1), (0, 1), (0, 32)]
    if ctxState s n (1 - c) != 7 then
      s |> setF F.airLstStatus_single n 1 |> setF F.airLstStatus_primary n (1 - c)
        |> setF F.airLbStatus_single_mask k (setBit (getF F.airLbStatus_single_mask k s) (n % 8) true)
    else
      let s := s |> setF F.airLstStatus_single n 0 |> setF F.airLstStatus_retired n 1
        |> setF F.airLbStatus_single_mask k (setBit (getF F.airLbStatus_single_mask k s) (n % 8) false)
        |> setF F.airLbStatus_retired_mask k (setBit (getF F.airLbStatus_retired_mask k s) (n % 8) true)
        |> lifeAdd 3 1 |> retireNote 8 n
      raise Ev.airListenerRetired [(n, 6), (lstKind s n, 2), (if lstKind s n = 2 then lstPool s n else lstKhz s n, 32)] s

/-- Blocks of DRAM retired so far (R473). -/
def ddrRetired (s : State) : Nat := (s.diag.retired.filter (fun e => e.1 / 2 ^ 40 == 3)).length

/-- A lasting fault of an element: retired, and replaced by a spare where one is left (R199, R355, R403, R473, R514).
(DEDUCED, log 84.) -/
def retireElement (t : TestSt) (s : State) : State :=
  match t.kind with
  | 0 => retireContext (t.index / 2 % 64) (t.index % 2) s
  | 2 =>
    let used := rowsUsed s (t.index / 1024) + 1
    let s := retireNote 2 t.index s |> lifeAdd 7 1
    raise Ev.keepMemRetired [(2, 4), (t.region + 1, 8), (t.index, 32), (4 - used, 32)]
      { s with diag := { s.diag with rowSpares := tabPut s.diag.rowSpares (t.index / 1024) used } }
  | 3 =>
    let s := retireNote 3 t.index s
    (if ddrRetired s ≤ 4096 then lifeAdd 7 1 s else s)
      |> raise Ev.netDdrRetired [(4096 * t.index, 32), (4096 - ddrRetired s, 32)]
  | 4 =>
    let s := retireNote 4 t.index s |> lifeAdd 7 1
    freeNext (raise Ev.keepMemRetired [(4, 4), (1, 8), (t.index, 32), (freeNow 32 s, 32)]
      { s with diag := { s.diag with wearUsed := s.diag.wearUsed + 1 } })
  | 5 => retireEngine t.index s
  | 6 => retireCore t.index s
  | _ => s

/-- An element returns to service after its test (R512). -/
def returnElement (kind index : Nat) (s : State) : State :=
  match kind with
  | 5 => countBy (katFields index).1 0 1 s
  | 7 => setRf index { rf s index with calAt := s.now, lockDue := s.now + 1200000, retried := false } s
  | _ => s

/-- SELF_TEST_OUTCOME (R512, R514): the test at the head of its block's queue ends TRANSIENT or LASTING. (DEDUCED, log 84.) -/
def execSelfTestOutcome (kind : Fin 10) (index : Nat) (pass : Bool) (s : State) : Host.Outcome State Fault Refusal :=
  let b := testBlock kind.val index
  match testQueue b s with
  | [] => done s s
  | t :: q =>
    if !t.running || t.kind != kind.val || t.index != index then done s s
    else
      let rest := match q with
        | [] => []
        | x :: r => { x with headAt := s.now } :: r
      let s1 := outcomeNote t.kind t.region t.index pass (setTestQueue b rest s)
      let s1 := if pass then returnElement t.kind t.index s1
        else
          let s2 := if t.kind = 5 then countBy (katFields t.index).1 0 2 (countBy (katFields t.index).2 0 2 s1) else s1
          retireElement t s2
      done s (blankRefresh s1)

/-- REGION_ESCALATION (R10 to R13, R515): the fault of an element without a spare resets its domain, whose bank or synthesiser is
tested whole. It returns, or is FAILED; the failure is that of its third step (DEDUCED, log 28). -/
def execRegionEscalation (kind : Fin 10) (index : Nat) (d : Fin 26) (pass : Bool) (s : State) : Host.Outcome State Fault Refusal :=
  let k := kind.val
  let d := d.val
  let fits := match elemDomain k index with
    | some e => e == d
    | none => true
  if !serving s || d = 0 || !fits || !domPresent s d || domState s d = 3 || (k = 2 && rowsUsed s (index / 1024) < 4) then done s s
  else
    let chip := d = 1 || d = 2
    let s1 := lifeAdd 8 1 s
    let s1 := if chip then setReason 10 { s1 with pwr := { s1.pwr with escalated := tabPut s1.pwr.escalated d false } } else s1
    let items := [(d, 32), (k, 4), (b2n (!pass), 1)]
    let s1 := raise Ev.keepDomainEscalated items (domainReset d s1)
    let s1 := if pass then wake 0x15 d s1 else domFail d 2 s1
    let s1 := journalEntry 4 (packItems items) s1
    let s1 := if 3 ≤ d && d ≤ 5 && !pass then answerCal (d - 3) 0 false .domainFailed s1 else s1
    if d = 1 && !pass then done s (partReset 4 s1) else done s (blankRefresh s1)

end Sys2Proof.Machine
end

