-- ==== Sys2Proof/Machine/Lanes.lean ====
section
/-! DEFINITION. The Goruz lanes: their fall-through queues, faults, pattern tests, marks, the SPI target, and the system and
diagnostic commands (R110 to R140, R466). -/

namespace Sys2Proof.Machine
open Sys2Proof

/-! What the registers of a lane read (R134). -/

/-- KEEP_GZ_STAT[n]. -/
def laneStatW (s : State) (n : Nat) : Word :=
  let l := lane s n
  wordOf [(128 - l.cmd.length, 0), (respFill l, 8), (l.held.length, 16), (getF F.keepGzStat_empty n s, 24),
    (getF F.keepGzStat_overrun n s, 25), (getF F.keepGzStat_resp_uncorr n s, 26), (b2n l.mark, 27),
    (getF F.keepGzStat_resync_wait n s, 28), (b2n l.ex.isSome, 29), (getF F.keepGzStat_spi_bad_type n s, 30),
    (getF F.keepGzStat_failed n s, 31)]
/-- KEEP_GZ_CTRL[n]. -/
def laneCtrlW (s : State) (n : Nat) : Word :=
  wordOf [(b2n (laneIrq s n), 8), (getF F.keepGzCtrl_seq_err n s, 9), ((if n < 2 then fieldOf (laneCfgW s n) 21 16 else 0), 16)]
/-- The stall limit of a lane in µs, and its assembly timeout in ms. -/
def laneStall (s : State) (n : Nat) : Nat := fieldOf (laneCfgW s n) 5 0
def laneAssembly (s : State) (n : Nat) : Nat := fieldOf (paramW s 0x0114 0 (2 * n + 2)) 13 0
/-- KEEP_GZ_LIMITS[n]. -/
def laneLimitsW (s : State) (n : Nat) : Word := wordOf [(laneStall s n, 0), (laneAssembly s n, 16)]
/-- KEEP_GZ_ECC[n], KEEP_GZ_OVR[n] and KEEP_GZ_DISCARD[n]. -/
def laneEccW (s : State) (n : Nat) : Word :=
  wordOf [(getF F.keepGzEcc_corrected n s, 0), (getF F.keepGzEcc_uncorrectable n s, 16), (getF F.keepGzEcc_spares_used n s, 24)]
def laneOvrW (s : State) (n : Nat) : Word :=
  wordOf [(getF F.keepGzOvr_overruns n s, 0), (getF F.keepGzOvr_empty_reads n s, 16)]
def laneDiscardW (s : State) (n : Nat) : Word := w32 (getF F.keepGzDiscard_words_discarded n s)

/-- IRQ_N is driven low (R130, R139, R465). -/
def irqLow (s : State) : Bool :=
  (laneIrq s 2 && (respFill (lane s 2) != 0 || getB F.keepGzStat_resync_wait 2 s || (eventsQueued s && !s.evq.q.isEmpty)))
    || (paramF s 0x0147 0 1 15 15 == 1 && paramF s 0x0147 0 1 14 14 == 1 && tmrPending s)

/-- SPI_RDY while SPI_CS_N is high: firmware serves LANE2 (R466). -/
def spiReady (s : State) : Bool := serving s

/-! Lane faults (R112, R121). -/

/-- The lane has FAILED (R113). -/
def laneFailed (s : State) (n : Nat) : Bool := getB F.keepGzStat_failed n s
/-- The lane discards words until resync. -/
def resyncWait (s : State) (n : Nat) : Bool := getB F.keepGzStat_resync_wait n s

/-- Words of a lane are discarded and counted (R121, R123). -/
def discardWords (n k : Nat) (s : State) : State := countBy F.keepGzDiscard_words_discarded n k s

/-- A lane fault: 0 LANE_OVERRUN, 1 LANE_UNCORRECTABLE; `lost` words of the command being assembled have left the FTQ besides
those assembled (R121). -/
def laneFault (n kind lost : Nat) (s : State) : State :=
  let l := lane s n
  let k := l.asm.length + l.cmd.length + lost
  let tag : Byte := match l.asm with
    | w :: _ => BitVec.ofNat 8 (fieldOf w 31 24)
    | [] => 0
  discardWords n k (setLane n { l with asm := [], cmd := [], discTag := tag, discarded := k } s)
    |> setF F.keepGzStat_resync_wait n 1 |> raise Ev.keepLaneFault [(n, 2), (kind, 1)] |> laneSignal n

/-- An ECC event on an FTQ: counted, and its pattern test is due (R112, R113, R510). -/
def eccEvent (n : Nat) (resp corrected : Bool) (s : State) : State :=
  errorEvent 1 0 (256 * n + (if resp then 128 else 0)) true
    (count (if corrected then F.keepGzEcc_corrected else F.keepGzEcc_uncorrectable) n s)

/-! The command FTQ (R116, R122). -/

/-- Words leave the command FTQ and the command is assembled, until it is complete or the FTQ is empty (R112, R122).
(DEDUCED, log 85.) -/
def assemble (n : Nat) : Nat → State → State
  | 0, s => s
  | k + 1, s =>
    let l := lane s n
    if l.ready.isSome || l.errDue || resyncWait s n then s
    else match l.cmd with
      | [] => s
      | (w, e) :: rest =>
        let s := setLane n { l with cmd := rest } s
        match e with
        | .uncorrectable => laneFault n 1 1 (eccEvent n false false s)
        | _ =>
          let s := if e = .corrected then eccEvent n false true s else s
          let l := lane s n
          let asm := l.asm ++ [w]
          if asm.length = fieldOf (wAt asm 0) 23 16 + 1 then setLane n { l with ready := some asm, asm := [] } s
          else assemble n k (setLane n { l with asm := asm } s)

/-- The part takes what it can of the words that wait on a lane. (DEDUCED, log 85.) -/
def drain (n : Nat) (s : State) : State := if laneServed n s then assemble n ((lane s n).cmd.length + 1) s else s

/-- Push words into a command FTQ: the words that found no free stage are answered (R116). -/
def pushWords (n : Nat) : List (Word × Ecc) → State → List (Word × Ecc) × State
  | [], s => ([], s)
  | w :: ws, s =>
    if laneFailed s n then ([], s)
    else if resyncWait s n then
      let l := lane s n
      pushWords n ws (discardWords n 1 (setLane n { l with discarded := l.discarded + 1 } s))
    else
      let s := drain n s
      let l := lane s n
      if l.cmd.length < 128 then
        pushWords n ws (drain n (setLane n { l with cmd := l.cmd ++ [w], asmAt := s.now } s))
      else (w :: ws, s)

/-- The lane's transport reaches it: PCIe for LANE0 and LANE1, SPI, or the torch peer (R110). (DEDUCED, log 86.) -/
def laneUsable (s : State) (n : Nat) : Bool := !s.start.testHeld && keepUp s && lanePresent s n && (2 ≤ n || pcieUsed s) && laneReached n s

/-- Words pushed through PCIe or by LANE frames: those that do not fit before the stall limit are dropped together, and one lane
fault results (R116). -/
def pushOrDrop (n : Nat) (ws : List (Word × Ecc)) (s : State) : State :=
  match pushWords n ws s with
  | ([], s) => s
  | (lost, s) =>
    elapse (1000 * laneStall s n) s |> setF F.keepGzStat_overrun n 1 |> countBy F.keepGzOvr_overruns n lost.length
      |> laneFault n 0 0

/-- The wake source of a lane's access (R66, R67). -/
def laneWakeSrc (n : Nat) : Nat := if n < 2 then 0x04 else if n = 2 then 0x0B else 0x0D

/-- LANE_COMMAND_PUSH (R116): through PCIe with its stall limit; on LANE2 a word waits, without limit, and is not pushed. -/
def execLaneCommandPush (n : Fin 4) (ws : List (Word × Ecc)) (s : State) : Host.Outcome State Fault Refusal :=
  if !laneUsable s n then done s s
  else
    let s1 := wake (laneWakeSrc n) 1 s
    if n.val = 2 then done s (if serving s1 then (pushWords 2 ws s1).2 else s1) else done s (pushOrDrop n ws s1)

/-! The response FTQ (R115, R119). -/

/-- An unread word leaves the response FTQ; with the mark set it is held (R112, R119). -/
def popWord (n : Nat) (e : Ecc) (s : State) : Option State :=
  let l := lane s n
  if respFill l = 0 then none
  else match l.resp with
    | [] => none
    | w :: rest =>
      let v : Word := if e = .uncorrectable then 0xFFFFFFFD else w
      let s := put (.laneWord n v) (setLane n { l with resp := rest, held := (if l.mark then l.held ++ [w] else l.held) } s)
      some (match e with
        | .ok => s
        | .corrected => eccEvent n true true s
        | .uncorrectable => setF F.keepGzStat_resp_uncorr n 1 (eccEvent n true false s))

/-- Words popped through PCIe: a word not available at the stall limit reads 0xFFFFFFFE (R115); before firmware serves the lane it is
as an empty FTQ (R86). -/
def popPcie (n : Nat) : List Ecc → Bool → State → State
  | [], _, s => s
  | e :: es, stalled, s =>
    if laneFailed s n then popPcie n es stalled (put (.laneWord n 0xFFFFFFFD) s)
    else match (if laneServed n s then popWord n e s else none) with
      | some s => popPcie n es stalled s
      | none =>
        let s := if stalled then s else elapse (1000 * laneStall s n) s
        popPcie n es true (put (.laneWord n 0xFFFFFFFE) (count F.keepGzOvr_empty_reads n (setF F.keepGzStat_empty n 1 s)))

/-- Words taken through SPI: none is taken that is not there (R115, R133). -/
def popSpi : List Ecc → State → State
  | [], s => s
  | e :: es, s =>
    if laneFailed s 2 then popSpi es (put (.laneWord 2 0xFFFFFFFD) s)
    else match popWord 2 e s with
      | some s => popSpi es s
      | none => s

/-- LANE_RESPONSE_POP (R115). The responses of LANE3 leave in LANE frames. (DEDUCED, log 85.) -/
def execLaneResponsePop (n : Fin 4) (es : List Ecc) (s : State) : Host.Outcome State Fault Refusal :=
  if !laneUsable s n || n.val = 3 then done s s
  else
    let s1 := wake (laneWakeSrc n) 1 s
    if n.val = 2 then done s (if serving s1 then popSpi es s1 else s1) else done s (popPcie n es false s1)

/-- The bits of KEEP_GZ_CTRL[n] act in this order: rewind, release, mark (R119), then resync (R121). -/
def laneRewind (n : Nat) (s : State) : State :=
  let l := lane s n
  if !l.mark then setF F.keepGzCtrl_seq_err n 1 s
  else
    let l' := { l with resp := l.held ++ l.resp, held := [] }
    let s := setLane n l' s
    if respFill l == 0 && respFill l' != 0 then laneSignal n s else s
/-- The held words are freed (R119). -/
def laneRelease (n : Nat) (s : State) : State :=
  let l := lane s n
  if !l.mark then setF F.keepGzCtrl_seq_err n 1 s
  else
    let l' := { l with held := [], mark := false }
    let s := setLane n l' s
    if respFill l == 0 && respFill l' != 0 then laneSignal n s else s
/-- The mark is set at the current read position (R119). -/
def laneMark (n : Nat) (s : State) : State :=
  let s := if (lane s n).mark then laneRelease n s else s
  setLane n { lane s n with mark := true } s
/-- resync_wait ends, and the GZ_LANE_ERROR response is owed (R121). -/
def laneResync (n : Nat) (s : State) : State :=
  if !resyncWait s n then s
  else drain n (laneErrorDue n (setLane n { lane s n with errDue := true } (setF F.keepGzStat_resync_wait n 0 s)))

/-- A write of KEEP_GZ_CTRL[n] (R119, R121, R134). -/
def laneCtrlWrite (n : Nat) (w : Word) (s : State) : State :=
  let s := if w.getLsbD 9 then setF F.keepGzCtrl_seq_err n 0 s else s
  let s := if w.getLsbD 1 then laneRewind n s else s
  let s := if w.getLsbD 2 then laneRelease n s else s
  let s := if w.getLsbD 0 then laneMark n s else s
  if w.getLsbD 3 then laneResync n s else s

/-- A write of one of these bits through the transport of a lane. -/
def laneControl (n : Fin 4) (f : Nat → State → State) (s : State) : Host.Outcome State Fault Refusal :=
  if laneUsable s n then done s (f n (wake (laneWakeSrc n) 1 s)) else done s s

/-- LANE_MARK (R119). -/
def execLaneMark (n : Fin 4) (s : State) : Host.Outcome State Fault Refusal := laneControl n laneMark s
/-- LANE_REWIND (R119). -/
def execLaneRewind (n : Fin 4) (s : State) : Host.Outcome State Fault Refusal := laneControl n laneRewind s
/-- LANE_RELEASE (R119). -/
def execLaneRelease (n : Fin 4) (s : State) : Host.Outcome State Fault Refusal := laneControl n laneRelease s
/-- LANE_RESYNC (R121). -/
def execLaneResync (n : Fin 4) (s : State) : Host.Outcome State Fault Refusal := laneControl n laneResync s

/-- COMMAND_ASSEMBLY_TIMEOUT (R123): the words are discarded and the command answered with GZ_BAD_LENGTH, in its turn: where another
executes it waits as a command that is not whole. (DEDUCED, log 85.) -/
def execCommandAssemblyTimeout (n : Fin 4) (s : State) : Host.Outcome State Fault Refusal :=
  let n := n.val
  match (lane s n).asm with
  | [] => done s s
  | w :: ws =>
    if !laneServed n s then done s s
    else
      let s1 := waitTill ((lane s n).asmAt + 1000000 * laneAssembly s n + 1) s
      let s1 := discardWords n (ws.length + 1) s1
      let l := lane s1 n
      if l.ex.isNone && respWritten l then
        done s (drain n (laneWrite n (response .badLength (BitVec.ofNat 8 (fieldOf w 31 24)) []) (setLane n { l with asm := [] } s1)))
      else done s (setLane n { l with asm := [], ready := some [w] } s1)

/-! The pattern test (R113). -/

/-- The lane's spares_used shows the FTQ that has used more. -/
def sparesShown (l : Lane) : Nat := min 2 (max l.badCmd l.badResp)

/-- Each stage that the test finds failed is a lasting fault, replaced by a spare while one is left; the stage is a free value
(R113, R512, log 4). -/
def stagesFail (n : Nat) (resp : Bool) : Nat → Nat → State → State
  | 0, _, s => s
  | k + 1, used, s =>
    let i := 256 * n + (if resp then 128 else 0) + freeNow 7 s
    let s := retireNote 1 i (outcomeNote 1 0 i false (freeNext s))
    stagesFail n resp k (used + 1) (if used < 2 then lifeAdd 7 1 s else s)

/-- The pattern test of one FTQ, with the number of stages found failed (R113). -/
def patternTest (n : Nat) (resp : Bool) (bad : Nat) (s : State) : State :=
  let l := lane s n
  let used := if resp then l.badResp else l.badCmd
  let l' := if resp then { l with badResp := used + bad, testResp := false } else { l with badCmd := used + bad, testCmd := false }
  let s := setF F.keepGzEcc_spares_used n (sparesShown l') (setLane n l' s)
  let s := if bad = 0 then outcomeNote 1 0 (256 * n + (if resp then 128 else 0)) true s else stagesFail n resp bad used s
  if 2 < used + bad && !laneFailed s n then
    setF F.keepGzStat_failed n 1 (lifeAdd 3 1 s) |> raise Ev.keepLaneFailed [(n, 2), (used + bad, 32)]
  else s

/-- FTQ_PATTERN_TEST (R113): once the FTQ is empty and no command executes on the lane. -/
def execFtqPatternTest (n : Fin 4) (resp : Bool) (bad : Nat) (s : State) : Host.Outcome State Fault Refusal :=
  let l := lane s n
  let due := if resp then l.testResp && l.resp.isEmpty && l.held.isEmpty else l.testCmd && l.cmd.isEmpty
  if !serving s || !lanePresent s n || !due || l.ex.isSome then done s s else done s (patternTest n resp bad s)

/-! The SPI target (R132, R133, R466). -/

/-- SPI_CS_FALL (R466). -/
def execSpiCsFall (s : State) : Host.Outcome State Fault Refusal :=
  if domState s 1 == 1 then done s (wake 0x0B 1 s) else done s s

/-- A transaction reaches the lane: the part has started, and KEEP_CPU is woken. -/
def spiWake (s : State) : State := if domState s 1 == 1 then wake 0x0B 1 s else s

/-- WRITE_CMD (R132, R133): a word waits for a free stage, and is not pushed where the transaction ends before one frees. -/
def execWriteCmd (count : Byte) (ws : List (Word × Ecc)) (s : State) : Host.Outcome State Fault Refusal :=
  let s1 := spiWake s
  if !serving s1 then done s s else done s (pushWords 2 (ws.take count.toNat) s1).2

/-- READ_RESP (R132, R133). -/
def execReadResp (count : Byte) (es : List Ecc) (s : State) : Host.Outcome State Fault Refusal :=
  let s1 := spiWake s
  if !serving s1 then done s s else done s (popSpi (es.take count.toNat) s1)

/-- The count of a transaction that takes one word: 0 has no effect, any other than 1 is bad (R132). -/
def spiOneWord (count : Byte) (f : State → State) (s : State) : State :=
  if count = 0 then s else if count = 1 then f s else setF F.keepGzStat_spi_bad_type 2 1 s

/-- READ_STAT (R132). -/
def execReadStat (count : Byte) (s : State) : Host.Outcome State Fault Refusal :=
  if s.start.testHeld || !keepUp s then done s s
  else done s (spiOneWord count (fun s => put (.laneWord 2 (laneStatW s 2)) s) (spiWake s))

/-- WRITE_CTRL (R132). -/
def execWriteCtrl (count : Byte) (w : Word) (s : State) : Host.Outcome State Fault Refusal :=
  if s.start.testHeld || !keepUp s then done s s else done s (spiOneWord count (laneCtrlWrite 2 w) (spiWake s))

/-- SPI_BAD_TYPE (R132): a type that is not defined, or READ_STAT or WRITE_CTRL with a count other than 0 and 1. -/
def execSpiBadType (type count : Byte) (s : State) : Host.Outcome State Fault Refusal :=
  let known := type = 1 || type = 2 || type = 3 || type = 4
  if s.start.testHeld || !keepUp s then done s s
  else if !known || ((type = 3 || type = 4) && count != 0 && count != 1) then
    done s (setF F.keepGzStat_spi_bad_type 2 1 (spiWake s))
  else done s s

/-! System and diagnostic commands (R136 to R140). -/

/-- SYS_INFO (R49, R576): words 4 to 15 are 0 where MRAM is not read. (DEDUCED, log 86.) -/
def bodySysInfo (_ : Goruz) (s : State) : Res :=
  let caps := [w32 (capPart s), w32 (capAir s), w32 (capNet s)]
  let rest := [w32 (s.upd.versions.getD 0 0 % 2 ^ 24), w32 s.upd.active.2, wordAt Config.serialNumber 0, wordAt Config.serialNumber 1]
    ++ (List.range 8).map (wordAt (identityHash s))
  .now .ok (caps ++ (if s.pwr.mramAtStart then List.replicate 12 0 else rest)) s

/-- SYS_RESET (R137, R524): a full flush, and the part reset 1 ms after the response. -/
def bodySysReset (g : Goruz) (s : State) : Res :=
  if gw g 1 != 0x52530001 then fails .badParam s
  else
    let s := fullFlush 0x14 s
    .now .ok [] { s with start := { s.start with resetDue := some (s.now + 1000000) } }

/-- SYS_ECHO. -/
def bodySysEcho (g : Goruz) (s : State) : Res := .now .ok g.words s

/-- SYS_LANE_STATUS. -/
def bodySysLaneStatus (g : Goruz) (s : State) : Res :=
  let n := gf g 1 1 0
  if !lanePresent s n then fails .absent s
  else if !onlyFields g.words [[(1, 0)]] then fails .badParam s
  else .now .ok [laneStatW s n, laneCtrlW s n, laneLimitsW s n, laneEccW s n, laneOvrW s n, laneDiscardW s n] s

/-- Records taken from the event queue, oldest first (R139). -/
def fetchEvents : Nat → State → List (List Word) × State
  | 0, s => ([], s)
  | k + 1, s => match takeEvent s with
    | none => ([], s)
    | some (ws, s) => (ws :: (fetchEvents k s).1, (fetchEvents k s).2)

/-- SYS_EVENT_FETCH (R139). -/
def bodySysEventFetch (g : Goruz) (s : State) : Res :=
  let k := gf g 1 4 0
  if !onlyFields g.words [[(4, 0)]] || k == 0 then fails .badParam s
  else
    let lost := s.evq.lost
    let (rs, s) := fetchEvents k s
    .now .ok (wordOf [(rs.length, 0), (min lost 65535, 16)] :: rs.flatten) { s with evq := { s.evq with lost := 0 } }

/-- DIAG_LANE_TEST (R140). -/
def bodyDiagLaneTest (g : Goruz) (s : State) : Res :=
  let n := gf g 1 1 0
  let l := lane s n
  if !lanePresent s n then fails .absent s
  else if !onlyFields g.words [[(1, 0)]] || n == g.lane.val then fails .badParam s
  else if l.ex.isSome || !l.resp.isEmpty || !l.held.isEmpty then fails .busy s
  else
    let s := patternTest n true g.env.badStages.2 (patternTest n false g.env.badStages.1 s)
    .now .ok [wordOf [(getF F.keepGzEcc_spares_used n s, 0), (getF F.keepGzStat_failed n s, 2)]] s

end Sys2Proof.Machine
end

