-- ==== Sys2Proof/Machine/Cluster.lean ====
section
/-! DEFINITION. Yowiob frames: sending, the checks of a receiver, HELLO, TIME and the delay of a link, and CLUSTER_STATUS (R480 to
R488, R505, R508). -/

namespace Sys2Proof.Machine
open Sys2Proof

/-! Frames (R480 to R482). -/

/-- The claim in use, and the winning claim of the last round (R491, R505). -/
def ownClaim (s : State) : Nat := getF F.keepTorchClaim_own_claim 0 s
-- DEDUCED, log 90
def torchWinner (s : State) : Nat := getF F.keepTorchStatus_winner 0 s

/-- A frame can be sent on a port: a cluster port with its link up, firmware runs, and the part has not stopped sending (R482).
(DEDUCED, log 89.) -/
def yowCan (s : State) (e : Nat) : Bool := yowUp s e && serving s && s.yow.silent.isNone

/-- Send a Yowiob frame: its header's ack_req, claim and sequence stand before the body. A secured one takes a counter value of
yow_key, and is not sent where none can be used (R405, R481). (DEDUCED, log 89.) -/
def yowSend (e type : Nat) (ack : Bool) (body : List Word) (s : State) : Option State :=
  if !yowCan s e then none
  else
    let s1 := if !yowSecure s then some s
      else if !engineOk s 2 then none
      else match takeCounter (yowKey s) (if domOn s 21 then s else wake 0x05 21 s) with
        | .got _ t => some t
        | .wait _ => none
        | .exhausted _ => none
    s1.map (fun s =>
      let n := (yowLink s e).txSeq + 1
      s |> modLink e (fun l => { l with txSeq := n }) |> count F.netYowCntTx_tx_frames 0
        |> put (.yowiob e type ([wordOf [(b2n ack, 0)], w32 (ownClaim s), w32 n] ++ body)))
/-- Send it, where it can be sent. -/
def yowPut (e type : Nat) (body : List Word) (s : State) : State := (yowSend e type false body s).getD s

/-- A received frame is accepted or discarded, by the checks of R481; a Yowiob frame wakes the domains that take it (R66). The claim of
the torch peer is kept (R493). (DEDUCED, log 88.) -/
def yowAccept (e : Nat) (h : YowHdr) (s : State) : State × Bool :=
  if !yowUp s e || !serving s || h.version != 1 || h.cluster != yowId s || h.secured != yowSecure s then (s, false)
  else
    let s := wake 0x0D 18 (wake 0x0D 1 s)
    if h.secured && !h.tagOk then (count F.netYowCntReject_auth_fail 0 s, false)
    else if h.seq ≤ tabGet (yowLink s e).seqs h.sender 0 then (count F.netYowCntDrop_replay 0 s, false)
    else
      let s := count F.netYowCntRx_rx_frames 0 (modLink e (fun l => { l with seqs := tabPut l.seqs h.sender h.seq }) s)
      (if torchOn s && e == torchPort s then { s with torch := { s.torch with peerClaim := h.claim } } else s, true)

/-! HELLO (R482, R483, R490). -/

/-- The body of the HELLO that a port sends: the subtree count is reported to the upstream (R486). -/
def helloWords (s : State) (e : Nat) : List Word :=
  let pr := match yowState s with
    | 2 | 3 => (match yowElected s with
      | some (_, p) => p
      | none => 0)
    | _ => 0
  let rt := if pr = 0 then 0 else yowRoot s
  [w32 (yowState s), wordAt rt 0, wordAt rt 1, w32 pr, w32 (if pr = 0 then 0 else yowAcc s),
    w32 (if (yowUpstream s).map (·.1) == some e && yowState s == 2 then yowSubtree s else 0),
    w32 (partCode s), wordOf [((if torchOn s then torchUnitId s else 0), 0), ((if torchOn s then claimPriority s else 0), 8)],
    w32 (keyUnitId s)]

/-- The unit_id of KEY_CONFIG that a HELLO shows is this part's own: of the two the part with the lower serial number stops sending
(R482). (DEDUCED, log 88.) -/
def ivCheck (sender : Nat) (b : HelloBody) (s : State) : State :=
  if !yowSecure s || b.keyUnitId != keyUnitId s || sender = Config.serialNumber || s.yow.silent.isSome then s
  else
    let stops := decide (Config.serialNumber < sender)
    raise Ev.netYowIvConflict [(sender, 64), (keyUnitId s, 8), (b2n stops, 1)]
      { s with yow := { s.yow with silent := if stops then some sender else none } }

/-- What a HELLO on the torch port shows of the peer: a unit of the same part_code and another unit_id, or a conflict, which lasts
until a commit changes it (R490). (DEDUCED, log 88.) -/
def torchHello (b : HelloBody) (s : State) : State :=
  let reason := if b.part != partCode s then some 1 else if b.unitId = torchUnitId s then some 0 else none
  match reason with
  | none => if s.torch.conflict then s else { s with torch := { s.torch with peerOk := true } }
  | some r =>
    let t := { s with torch := { s.torch with conflict := true, peerOk := false } }
    if s.torch.conflict then t else raise Ev.keepTorchConflict [(r, 2)] t

/-- A HELLO is received (R482, R483, R490). (DEDUCED, log 88.) -/
def helloTake (e : Nat) (h : YowHdr) (b : HelloBody) (s : State) : State :=
  match yowAccept e h s with
  | (s1, false) => s1
  | (s1, true) =>
    let s2 := ivCheck h.sender b (modLink e (fun l => { l with peer := some ⟨h.sender, b⟩ }) s1)
    let s2 := if torchOn s2 && e = torchPort s2 then torchHello b s2 else s2
    leaveMember s1 (yowNote s1 s2)

/-- HELLO (R483): sent 100 ms after the last on the port, or received. -/
def execHello (e : Fin 2) (rx : Option (YowHdr × HelloBody)) (s : State) : Host.Outcome State Fault Refusal :=
  match rx with
  | some (h, b) => done s (helloTake e h b s)
  | none =>
    if !yowCan s e then done s s
    else
      let s1 := match (yowLink s e).helloAt with
        | some t => waitTill (t + 100000000) s
        | none => s
      done s (yowPut e 1 (helloWords s1 e) (modLink e (fun l => { l with helloAt := some s1.now }) s1))

/-! TIME (R485 to R488). -/

/-- The body of TIME. -/
def timeWords (origin correction root : Nat) (epoch : Option (Nat × Nat)) (slot span : Nat) : List Word :=
  let ep := epoch.getD (0, 0)
  [wordAt origin 0, wordAt origin 1, w32 correction, wordAt root 0, wordAt root 1, wordAt ep.1 0, wordAt ep.1 1, wordAt ep.2 0,
    wordAt ep.2 1, w32 slot, w32 span]

/-- The root sends TIME on its cluster ports, every time interval (R485, R487). -/
def timeRootSend (s : State) : State :=
  let s := match s.yow.timeAt with
    | some t => waitTill (t + yowInterval s) s
    | none => s
  let ws := timeWords s.time.ns 0 Config.serialNumber s.slm.epoch (slotNs s) (getF F.netYowSpan_span 0 s)
  (yowPorts s).foldl (fun s e => yowPut e 2 ws s) { s with yow := { s.yow with timeAt := some s.now } }

/-- A member's slot length must be the root's; it takes the root's epoch where its source is CLUSTER (R488). -/
def timeEpoch (b : TimeBody) (s : State) : State :=
  let mis := slotNs s != 0 && b.slotLen != 0 && slotNs s != b.slotLen
  let s := setB F.netYowStatus_slot_mismatch 0 mis s
  if timeSource s != 3 then s
  else
    if b.slotLen = 0 || s.slm.epoch = some (b.epochTime, b.epochAsn) then slmResume s
    else slmResume { s with slm := { s.slm with epoch := some (b.epochTime, b.epochAsn), asn := none, look := none } }

/-- A TIME message is received: it gives the link's latency, and from the upstream it is a sync of the source CLUSTER, relayed within
50 µs. The residence time is a free value below that (R484 to R488, log 4). -/
def timeTake (e : Nat) (h : YowHdr) (b : TimeBody) (s : State) : State :=
  match yowAccept e h s with
  | (s1, false) => s1
  | (s1, true) =>
    let s2 := modLink e (fun l => { l with corr := some (b.root, b.correction) }) s1
    let s2 := leaveMember s1 (yowNote s1 s2)
    if (yowUpstream s2).map (·.1) != some e || yowState s2 != 2 || yowRoot s2 != b.root then s2
    else
      let d := b.correction + (yowLink s2 e).delay
      let change := s2.yow.timeRoot.isSome && s2.yow.timeRoot != some b.root
      let o : Int := (b.origin : Int) + d - s2.time.ns
      let s3 := setF F.netYowSpan_span 0 b.span { s2 with yow := { s2.yow with timeRoot := some b.root } }
      let s3 := if timeSource s3 != 3 then s3
        else timeSync o (if change then timeChange s3 else s3)
      let s3 := yowNote s2 (timeEpoch b s3)
      let rs := yowRelays s3
      if rs.isEmpty then s3
      else
        let ws := timeWords b.origin (d + freeNow 16 s3 % 50001) b.root (some (b.epochTime, b.epochAsn)) b.slotLen b.span
        rs.foldl (fun s r => yowPut r 2 ws s) (freeNext s3)

/-- YOWIOB_TIME (R487): received on a port, or sent by the root. -/
def execYowiobTime (e : Fin 2) (rx : Option (YowHdr × TimeBody)) (s : State) : Host.Outcome State Fault Refusal :=
  match rx with
  | some (h, b) => done s (timeTake e h b s)
  | none => if yowState s = 3 && yowCan s e then done s (timeRootSend s) else done s s

/-! The delay of a link (R483). -/

/-- DELAY_REQ (R483): sent 1 s after the last on the port, or received and answered with the time of its reception and of the answer. -/
def execDelayReq (e : Fin 2) (rx : Option YowHdr) (s : State) : Host.Outcome State Fault Refusal :=
  match rx with
  | some h =>
    let r := yowAccept e h s
    let t := r.1.time.ns
    done s (if r.2 then yowPut e 4 [wordAt t 0, wordAt t 1, wordAt t 0, wordAt t 1] r.1 else r.1)
  | none =>
    if !yowCan s e then done s s
    else
      let s1 := match (yowLink s e).reqSent with
        | some t => waitTill (t + 1000000000) s
        | none => s
      match yowSend e 3 false [] s1 with
      | some t => done s (modLink e (fun l => { l with reqSent := some t.now, reqAt := some t.time.ns }) t)
      | none => done s s1

/-- DELAY_RESP (R483): half the round trip less the peer's turnaround. -/
def execDelayResp (e : Fin 2) (h : YowHdr) (t2 t3 : Nat) (s : State) : Host.Outcome State Fault Refusal :=
  match yowAccept e h s with
  | (s1, false) => done s s1
  | (s1, true) => match (yowLink s1 e).reqAt with
    | none => done s s1
    | some t1 =>
      let s2 := modLink e (fun l => { l with delay := ((s1.time.ns - t1) - (t3 - t2)) / 2, reqAt := none }) s1
      done s (leaveMember s1 (yowNote s1 s2))

/-! Registers (R505). -/

/-- NET_YOW registers from 0x0080_A000 by offset / 4. -/
def yowWord (s : State) (k : Nat) : Word :=
  let two (a b : Field) : Word := wordOf [(getF a 0 s, 0), (getF b 0 s, 16)]
  match k with
  | 0 => wordOf [(yowState s, 0), ((match yowUpstream s with | some (e, _) => e | none => 0), 3), (b2n (yowState s == 2), 4),
      (b2n (!(yowRelays s).isEmpty), 5), (getF F.netYowStatus_slot_mismatch 0 s, 6), (yowF s 1 15 8, 8)]
  | 1 => w32 (if yowState s = 2 then yowAcc s else 0)
  | 2 => w32 (yowBudget s)
  | 3 => w32 (getF F.netYowSpan_span 0 s)
  | 4 => wordAt (yowRoot s) 0
  | 5 => wordAt (yowRoot s) 1
  | 8 | 9 =>
    let e := k - 8
    if !ethPresent s e then 0
    else
      let l := yowLink s e
      wordOf [(min l.delay 65535, 0), (b2n l.peer.isSome, 16), (b2n (torchOn s && e == torchPort s && s.torch.peerOk), 17)]
  | 16 => w32 (getF F.netYowCntRx_rx_frames 0 s)
  | 17 => w32 (getF F.netYowCntTx_tx_frames 0 s)
  | 18 => two F.netYowCntReject_auth_fail F.netYowCntReject_stale_claim
  | 19 => two F.netYowCntDrop_replay F.netYowCntDrop_standby_drop
  | 20 => w32 (getF F.netYowCntTag_dup_tagged 0 s)
  | _ => 0

/-- CLUSTER_STATUS. -/
def bodyClusterStatus (_ : Goruz) (s : State) : Res :=
  .now .ok ([0, 1, 2, 3, 4, 5, 8, 9, 16, 17, 18, 19, 20].map (yowWord s)) s

end Sys2Proof.Machine
end

