-- ==== Sys2Proof/Machine/Torch.lean ====
section
/-! DEFINITION. Torch redundancy: the arbitration of the claim, the takeover, mirroring between the units of a pair, the frames that
carry LANE3, the update of a pair, and the torch commands (R490 to R504, R508, R509, R538). -/

namespace Sys2Proof.Machine
open Sys2Proof

/-! Claims and rounds (R490 to R493). -/

/-- The unit may claim (R490). -/
def torchMay (s : State) : Bool :=
  torchOn s && torchOpen s && claimPriority s != 0 && s.torch.peerOk && !s.torch.conflict
/-- yield is set (R502). -/
def torchYield (s : State) : Bool := getB F.keepTorchStatus_yield 0 s
/-- The claim of a unit that may claim; 0 otherwise (R491). (DEDUCED, log 90.) -/
def claimNow (s : State) : Nat :=
  if torchMay s then (if torchYield s then 1 else claimPriority s) * 256 + torchUnitId s else 0

/-- A round starts: TORCH_C is pulled low, and the claim in use is that of the configuration as committed (R492, R509). -/
def startRound (s : State) : State :=
  setF F.keepTorchClaim_own_claim 0 (claimNow s) { s with torch := { s.torch with round := some s.now, lastStart := s.now, seen := true } }

/-- ARBITRATION_ROUND (R492, R493): started by this unit, as holder after hold_period_ms or as a unit that may claim after three times
that without a round, or by its peer. (DEDUCED, log 90.) -/
def execArbitrationRound (own : Bool) (s : State) : Host.Outcome State Fault Refusal :=
  if !torchOn s || s.torch.round.isSome then done s s
  else if !own then done s (startRound s)
  else if holdsTorch s then done s (startRound (waitTill (s.torch.lastStart + holdPeriod s) s))
  else if torchMay s then done s (startRound (waitTill (s.torch.lastStart + 3 * holdPeriod s) s))
  else done s s

/-! Losing and taking the torch (R494, R496, R499 to R502). -/

/-- The level of TCMPr by its route: none where it is unrouted (R445). (DEDUCED, log 93.) -/
def tcmpLevel (s : State) (r : Nat) : Option Bool :=
  let x : Nat × Bool := match r % 4 with
    | 0 => (getF F.keepTmrRouteCmp_element0 (r / 4) s, getB F.keepTmrRouteCmp_en0 (r / 4) s)
    | 1 => (getF F.keepTmrRouteCmp_element1 (r / 4) s, getB F.keepTmrRouteCmp_en1 (r / 4) s)
    | 2 => (getF F.keepTmrRouteCmp_element2 (r / 4) s, getB F.keepTmrRouteCmp_en2 (r / 4) s)
    | _ => (getF F.keepTmrRouteCmp_element3 (r / 4) s, getB F.keepTmrRouteCmp_en3 (r / 4) s)
  if x.2 then some (getB F.keepTmrStat_out x.1 s) else none
/-- The level of PPS_OUT by its trigger and polarity (R434). (DEDUCED, log 93.) -/
def ppsLevel (s : State) : Bool :=
  (match s.time.ppsUntil with
    | some t => decide (s.now < t)
    | none => false) != getB F.keepTimePpsCfg_pps_pol 0 s

/-- What TCMPr drives: none where it is high-impedance (R35, R445, R500). (DEDUCED, log 93.) -/
def tcmpDrives (s : State) (r : Nat) : Option Bool :=
  if !gpioOpen s then none
  else if bitOf (getF F.keepTorchGate_tcmp_gate 0 s) r && !holdsTorch s then s.torch.gpioHold.map (fun m => bitOf m (24 + r))
  else tcmpLevel s r
/-- What PPS_OUT drives: none where it is high-impedance (R35, R500). (DEDUCED, log 93.) -/
def ppsDrives (s : State) : Option Bool :=
  if !gpioOpen s then none
  else if getB F.keepTorchPps_pps_gate 0 s && !holdsTorch s then s.torch.gpioHold.map (fun m => bitOf m 32)
  else some (ppsLevel s)

/-- The levels of the torch-gated outputs: GPIOj in bit j, TCMPn in bit 24 + n, PPS_OUT in bit 32 (R500, R505). (DEDUCED, log 93.) -/
def gatedLevels (s : State) : Nat :=
  maskOf (((List.range 24).filter (fun j => ballDrives s j == some true))
    ++ ((List.range 8).filter (fun r => tcmpDrives s r == some true)).map (· + 24) ++ (if ppsDrives s = some true then [32] else []))

/-- A unit becomes the standby: its changes to staging are discarded, and its mirror starts afresh (R496, R497, DESIGN CHOICE, log 29). -/
def becomeStandby (s : State) : State :=
  let s := if s.cfg.owner.isSome && s.cfg.pending.isNone then unstage s else s
  { s with torch := { s.torch with mirrorAt := s.now, bad := false, commit := none } }
    |> setF F.keepTorchStatus_role 0 2 |> setF F.keepTorchStatus_mirror 0 0

/-- The takeover instant of a round that ends now: the first slot boundary after it, or 1 ms after it (R499). (DEDUCED, log 91.) -/
def takeoverAt (s : State) : Nat := if slmRunning s then boundaryFrom s (s.time.ns + 1) else s.time.ns + 1000000

/-- The command that waits on a lane is answered and the lane is free. -/
def answerLane (n : Nat) (st : Status) (ws : List Word) (s : State) : State :=
  match (lane s n).ex with
  | some x => respond n x.tag st ws s
  | none => s

/-- The pair sequence ends with a status (R538). -/
def pairFail (st : Status) (s : State) : State := match s.torch.pair with
  | some p => answerLane p.lane st [] { s with torch := { s.torch with pair := none } }
  | none => s

/-- The last step of the pair sequence: the former holder, now standby, activates its own staging (R503, R538). -/
def pairOwn (s : State) : State := match s.torch.pair with
  | none => s
  | some p =>
    if p.step != 6 then pairFail .notPermitted s
    else
      let s := { s with torch := { s.torch with pair := none } }
      match (lane s p.lane).ex with
      | none => s
      | some x =>
        match activateOwn p.lane (setLane p.lane { lane s p.lane with ex := none } s) with
        | .now st ws s => respond p.lane x.tag st ws s
        | .later d s => setLane p.lane { lane s p.lane with ex := some { x with data := d } } s

/-- The torch is lost at the end of a round: the emitter gate closes, gated outputs hold their levels until the new holder's takeover
instant, downlink queued completes with NEIGHBOUR_GONE (R500, R501). -/
def loseTorch (winner : Nat) (s : State) : State :=
  let s := { s with torch := { s.torch with gpioHold := some (gatedLevels s), takeAt := takeoverAt s, peerMirror := none } }
  let s := s |> setF F.keepTorchStatus_emitter_gate 0 0 |> setF F.keepTorchStatus_role 0 0
    |> count F.keepTorchCnt_losses 0 |> raise Ev.keepTorchLost [(winner, 32)]
  let s := (s.nbrs.map (·.1)).foldl (fun s h => completeAll h 0x0B s) s
  let s := match s.torch.resync with
    | some (n, _, _) => answerLane n .notPermitted [] { s with torch := { s.torch with resync := none } }
    | none => s
  if winner = 0 then pairFail .notPermitted s else pairOwn (becomeStandby s)

/-- pin_fault ends with a round that agrees with the claims read in Yowiob frames; the holder's gate opens again (R493).
(DEDUCED, log 90.) -/
def pinAgree (s : State) : State :=
  if getB F.keepTorchStatus_pin_fault 0 s && decide (s.torch.peerClaim ≤ torchWinner s) then
    let s := setF F.keepTorchStatus_pin_fault 0 0 s
    if holdsTorch s then setF F.keepTorchStatus_emitter_gate 0 1 s else s
  else s

/-- The winning claim is known (R492, R494, R499, R500). (DEDUCED, log 90.) -/
def roundOver (winner : Nat) (s : State) : State :=
  let s := s |> setF F.keepTorchStatus_winner 0 winner |> count F.keepTorchCntRound_rounds 0
  let s := { s with torch := { s.torch with round := none, lastEnd := s.now } }
  let role := getF F.keepTorchStatus_role 0 s
  let s :=
    if winner != 0 && winner = ownClaim s then
      if role = 1 || role = 3 then s
      else setF F.keepTorchStatus_role 0 3 { s with torch := { s.torch with takeAt := takeoverAt s } }
    else if role = 1 then loseTorch winner s
    else if winner = 0 then setF F.keepTorchStatus_role 0 0 s
    else if role = 2 then s
    else becomeStandby s
  let s := match s.torch.pair with
    | some p => if p.step = 6 && holdsTorch s then pairFail .notPermitted s else s
    | none => s
  pinAgree s

/-- ROUND_END (R492): 900 µs after its start; `peer` is the claim that the peer drove. (DEDUCED, log 90.) -/
def execRoundEnd (peer : Nat) (s : State) : Host.Outcome State Fault Refusal :=
  match s.torch.round with
  | none => done s s
  | some t =>
    let s1 := waitTill (t + 900000) s
    done s (roundOver (max (ownClaim s1) (peer % 65536)) s1)

/-- The AIR counters of a new holder: the greatest boundary acknowledged, or 64 leases beyond it when the mirror has lapsed; where no
boundary has been mirrored the unit's own stands for it (R408, R499). (DEDUCED, log 91.) -/
def takeCounters (s : State) : State :=
  let lapsed := getF F.keepTorchStatus_mirror 0 s = 1
  let up (e : Nat) (v : VEntry) : VEntry :=
    match keyOf s e with
    | some k =>
      if k.usage != 1 then v
      else
        let c := (match tabFind s.torch.held e with | some b => b | none => leaseBoundary v) + (if lapsed then 64 * leaseLen s else 0)
        { v with next := c, acked := c }
    | none => v
  { s with keys := { s.keys with vault := s.keys.vault.map (fun e => (e.1, up e.1 e.2)) } }

/-- The takeover (R499). What the peer has been sent is forgotten, and is sent to it again (DESIGN CHOICE, log 29). (DEDUCED, log 91.) -/
def takeTorch (s : State) : State :=
  let us := (s.now - s.torch.lastEnd) / 1000
  let mirror := getF F.keepTorchStatus_mirror 0 s
  let s := takeCounters s
  let s := { s with
    nbrs := s.nbrs.map (fun e => (e.1, { e.2 with b := { e.2.b with txDsn := (e.2.b.txDsn + 16) % 256 }, dirty := true }))
    torch := { s.torch with
      gpioHold := none, sent := [], sentCells := [], sentCfg := [], sentCommit := 0, sentLeases := [], sentAt := 0, peerMirror := none } }
  s |> setF F.keepTorchStatus_role 0 1 |> setF F.keepTorchStatus_emitter_gate 0 1 |> setF F.keepTorchLast_switch_us 0 us
    |> count F.keepTorchCnt_takeovers 0
    |> raise Ev.keepTorchTakeover [(torchWinner s, 32), (mirror, 32), (us, 32)]

/-- TAKEOVER_INSTANT (R499, R500): of this unit, or of the peer that took the torch from it. -/
def execTakeoverInstant (s : State) : Host.Outcome State Fault Refusal :=
  if getF F.keepTorchStatus_role 0 s = 3 then done s (takeTorch (waitKeep s.torch.takeAt s))
  else if s.torch.gpioHold.isSome then
    let s1 := waitKeep s.torch.takeAt s
    done s { s1 with torch := { s1.torch with gpioHold := none } }
  else done s s

/-- TORCH_PIN_FAULT (R493): TORCH_C is held low for more than 200 µs outside a start, or a Yowiob frame has shown a claim above the
winner of the last round. The unit whose claim is lower closes its emitter gate. -/
def execTorchPinFault (s : State) : Host.Outcome State Fault Refusal :=
  if !torchOn s || getB F.keepTorchStatus_pin_fault 0 s then done s s
  else
    let s1 := raise Ev.keepTorchConflict [(2, 2)] (setF F.keepTorchStatus_pin_fault 0 1 s)
    done s (if ownClaim s < s.torch.peerClaim then setF F.keepTorchStatus_emitter_gate 0 0 s1 else s1)

/-! Mirror items of the holder (R495). -/

/-- The berth words of a neighbour. -/
def mirrorWords (h : Nat) (b : Berth) : List Word := (List.range 16).map (berthWord h b)
/-- A map as an item carries it. -/
def mapItem (m : Option ToneMap) : Option (Nat × Nat × Nat × List Nat) := m.map (fun m => (m.id, m.option, m.rate, m.codes))

/-- The words that an item takes in a frame: its kind and length, then its content. -/
def itemWords : MItem → List Word
  | .record h ws => wordOf [(h, 0), (1, 28)] :: ws
  | .maps h tx rx =>
    let m (x : Option (Nat × Nat × Nat × List Nat)) : List Word := match x with
      | some (i, o, r, c) => 1 :: mapWords (mkMap i o r c)
      | none => [0]
    wordOf [(h, 0), (2, 28)] :: (m tx ++ m rx)
  | .remove h => [wordOf [(h, 0), (3, 28)]]
  | .cells a xs ys =>
    [wordOf [(xs.length, 0), (ys.length, 14), (4, 28)], wordAt a 0, wordAt a 1] ++ (xs ++ ys).flatMap (fun x => [x.1, x.2])
  | .config t rs => [wordOf [(rs.length, 0), (5, 28)], wordAt t 0, wordAt t 1] ++ rs.flatMap (fun r => wordOf [(r.1, 0), (r.2.2.length, 16)] :: r.2.2)
  | .lease e b => [wordOf [(e, 0), (6, 28)], wordAt b 0, wordAt b 1]

/-- The words of a cell (R303). -/
def cellWords (c : Cell) : Word × Word :=
  (wordOf [(c.off, 0), (c.choff, 16), (c.sf, 24), (c.opts, 27)], match c.handle with
    | some h => w32 h
    | none => w32 (2 ^ 17))

/-- The items of one neighbour: its record and its maps, where they differ from what the peer was sent. -/
def nbrItems (s : State) (h : Nat) (n : Nbr) : List MItem :=
  let rec' := MItem.record h (mirrorWords h (shownBerth s n))
  match tabFind s.torch.sent h with
  | none => if (n.b.txMap, n.b.rxMap) = (none, none) then [rec'] else [rec', .maps h (mapItem n.b.txMap) (mapItem n.b.rxMap)]
  | some b =>
    (if mirrorWords h n.b = mirrorWords h b then [] else [rec'])
      ++ (if n.b.txMap = b.txMap ∧ n.b.rxMap = b.rxMap then [] else [.maps h (mapItem n.b.txMap) (mapItem n.b.rxMap)])

/-- Cells installed and not deleted. -/
def liveCells (s : State) : List Cell := s.slm.cells.filter (fun c => c.until'.isNone)
/-- The records of the shared opcode groups in a configuration. -/
def sharedRecs (t : Tab (List Word)) : Tab (List Word) := t.filter (fun e => sharedParam (e.1 % 65536))
/-- The configuration that the peer is to hold, and its commit instant: a commit that waits for its boundary is sent ahead. -/
def cfgToSend (s : State) : Nat × Tab (List Word) := match s.cfg.pending with
  | some (_, k) => (boundaryFrom s k, sharedRecs s.cfg.staged)
  | none => (s.cfg.commitAt, sharedRecs s.cfg.committed)

/-- The AIR leases whose boundary the peer has not been sent (R408, R495). -/
def leasesToSend (s : State) : List (Nat × Nat) :=
  s.keys.vault.filterMap (fun e => match keyOf s e.1 with
    | some k => if k.usage = 1 && tabGet s.torch.sentLeases e.1 0 < leaseBoundary e.2 then some (e.1, leaseBoundary e.2) else none
    | none => none)

/-- Everything that the peer has not been sent, in the order in which it is sent. -/
def itemsToSend (s : State) : List MItem :=
  let leases := (leasesToSend s).map (fun x => MItem.lease x.1 x.2)
  let c := cfgToSend s
  let cfg := if c.2 = s.torch.sentCfg then [] else [MItem.config c.1 (c.2.map (fun e => (e.1 % 65536, e.1 / 65536, e.2)))]
  let gone := (s.torch.sent.filter (fun e => (nbr s e.1).isNone)).map (fun e => MItem.remove e.1)
  let recs := s.nbrs.flatMap (fun e => nbrItems s e.1 e.2)
  let live := liveCells s
  let add := live.filter (fun c => !s.torch.sentCells.contains c)
  let del := s.torch.sentCells.filter (fun c => !live.contains c)
  let first := (add.head?.map (·.since)).getD 0
  let cells := if add.isEmpty && del.isEmpty then []
    else [MItem.cells first ((add.filter (fun c => c.since == first)).map cellWords) (del.map cellWords)]
  leases ++ cfg ++ gone ++ recs ++ cells

/-- The items that one frame of 350 words holds, at least one. -/
def fitItems : Nat → List MItem → List MItem
  | _, [] => []
  | n, i :: is => if (itemWords i).length ≤ n then i :: fitItems (n - (itemWords i).length) is else []

/-- What the peer has been sent once an item has gone. -/
def noteSent (s0 : State) (t : Torch) : MItem → Torch
  | .record h _ => match nbr s0 h with
    | some n => { t with sent := tabPut t.sent h (match tabFind t.sent h with
        | some b => { n.b with txMap := b.txMap, rxMap := b.rxMap }
        | none => { n.b with txMap := none, rxMap := none }) }
    | none => t
  | .maps h _ _ => match nbr s0 h, tabFind t.sent h with
    | some n, some b => { t with sent := tabPut t.sent h { b with txMap := n.b.txMap, rxMap := n.b.rxMap } }
    | _, _ => t
  | .remove h => { t with sent := tabDel t.sent h }
  | .cells a _ _ =>
    let live := liveCells s0
    { t with sentCells := (t.sentCells.filter (fun c => live.contains c)) ++ live.filter (fun c => !t.sentCells.contains c && c.since == a) }
  | .config _ _ => { t with sentCfg := (cfgToSend s0).2, sentCommit := s0.cfg.commitSeq }
  | .lease e b => { t with sentLeases := tabPut t.sentLeases e b }

/-- The holder sends a MIRROR frame: at once where it has items, else mirror_ms after the last (R495). A frame that carries leases
asks for an acknowledgement; those of a resync say so, and the last of them that it is (R497, R509). (DESIGN CHOICE, log 29.) -/
def mirrorSend (s : State) : State :=
  let open' := match s.torch.resync with
    | some (_, _, none) => true
    | _ => false
  let s := if (itemsToSend s).isEmpty && !open' then waitTill (s.torch.sentAt + mirrorNs s) s else s
  let all := itemsToSend s
  let fit := match fitItems 350 all, all with
    | [], i :: _ => [i]
    | is, _ => is
  let flag := match s.torch.resync with
    | some (_, _, none) => if fit.length = all.length then 2 else 1
    | _ => 0
  let lease := fit.any (fun i => match i with
    | .lease _ _ => true
    | _ => false)
  match yowSend (torchPort s) 5 (lease || flag != 0) (w32 flag :: fit.flatMap itemWords) s with
  | none => s
  | some t =>
    let seq := (yowLink t (torchPort t)).txSeq
    let recs := (fit.filter (fun i => match i with
      | .record _ _ => true
      | _ => false)).length
    { t with torch := { fit.foldl (noteSent s) t.torch with
        sentAt := t.now
        resync := t.torch.resync.map (fun r => if r.2.2.isSome then r else (r.1, r.2.1 + recs, if flag = 2 then some seq else none)) } }

/-! The standby applies them (R495, R497). -/

/-- A berth of which words 0x00 to 0x3F are given: the inverse of `berthWord`. -/
def berthOf (ws : List Word) (b : Berth) : Berth :=
  let f (k hi lo : Nat) : Nat := fieldOf (wAt ws k) hi lo
  let t (k i : Nat) : Bool := f k i i == 1
  { b with
    sampled := t 0 18, unsecuredOk := t 0 19, shortSrc := t 0 20, gtAllowed := t 0 21, gtOpt1 := t 0 22, gtOpt2 := t 0 23
    ctrValid := (t 0 24, t 0 25), pendForce := t 0 26, hostPin := t 0 27, retryLimit := f 0 30 28
    ext := ofWords [wAt ws 1, wAt ws 2], short := f 3 15 0, pan := f 3 31 16
    txMode := f 4 7 0, mrMcs := f 4 10 8, gtMiss := f 4 14 12, gtFallback := t 4 15, txDsn := f 4 23 16, lastRxDsn := f 4 31 24
    power := signedOf (f 5 15 0) 16, period := f 5 31 16, keyRef := (f 6 15 0, f 6 31 16)
    rxCtr := (max b.rxCtr.1 (wAt ws 7).toNat, max b.rxCtr.2 (wAt ws 8).toNat), lastRxMs := (wAt ws 9).toNat
    phase := f 10 15 0, plan := f 10 19 16, channel := f 10 31 20, timing := f 11 3 0, misses := f 11 7 4, fullWakeMs := f 11 31 16
    sync := ofWords [wAt ws 12, wAt ws 13], rptAge := f 14 15 0, pMeas := signedOf (f 14 31 16) 16
    txConfirmed := t 15 24, oldRx := if t 15 25 then some (f 15 7 0, f 15 23 8) else none }

/-- The instant of a neighbour's last SNR report, from its age in seconds. -/
def reportInstant (s : State) (age : Nat) : Option Nat := if 65535 ≤ age then none else some (s.now - 1000000000 * age)

/-- A RECORD item. -/
def mirrorRecord (h : Nat) (ws : List Word) (s : State) : Option State :=
  let b0 := berthOf ws { ext := 0 }
  if ws.length != 16 || handleLimit s ≤ h || fieldOf (wAt ws 0) 16 0 != h || addrTaken s h b0.ext b0.short b0.pan then none
  else
    let at' := reportInstant s b0.rptAge
    some (writePersist h (match nbr s h with
      | some n => setNbr h { n with b := berthOf ws n.b, dirty := true, reportAt := at' } s
      | none =>
        let s := makeRoom s
        setNbr h { b := b0, resident := decide (0 < freeBerths s) || !isF s, reportAt := at' } s))

/-- A map that an item carries, where it is valid. -/
def mapOf (x : Option (Nat × Nat × Nat × List Nat)) : Option (Option ToneMap) := match x with
  | none => some none
  | some (i, o, r, c) => if mapValid (mkMap i o r c) then some (some (mkMap i o r c)) else none

/-- A MAPS item: the receive map has an entry in the receive map table (R226). (DESIGN CHOICE, log 29.) -/
def mirrorMaps (h : Nat) (tx rx : Option (Nat × Nat × Nat × List Nat)) (s : State) : Option State :=
  match nbr s h, mapOf tx, mapOf rx with
  | some _, some t, some r =>
    let s := modBerth h (fun b => { b with txMap := t, rxMap := r }) s
    match r with
    | none => some s
    | some m =>
      let k := m.id + 256 * m.check
      if (tabFind s.gt k).isSome then some s
      else if 4096 ≤ s.gt.length then none
      else some { s with gt := tabPut s.gt k ⟨m, s.now⟩ }
  | _, _, _ => none

/-- A command of the standby's own succeeds. -/
def resState : Res → Option State
  | .now .ok _ s => some s
  | .now .okAlready _ s => some s
  | _ => none

/-- A CELLS item: as SCH_CELL_ADD and SCH_CELL_DELETE at the same ASN. -/
def mirrorCells (a : Nat) (xs ys : List (Word × Word)) (s : State) : Option State :=
  let g (l : List (Word × Word)) : Goruz := { lane := 3, tag := 0, words := [wordAt a 0, wordAt a 1] ++ l.flatMap (fun x => [x.1, x.2]) }
  let s1 := if xs.isEmpty then some s else resState (bodySchCellAdd (g xs) s)
  match s1 with
  | none => none
  | some s1 => if ys.isEmpty then some s1 else resState (bodySchCellDelete (g ys) s1)

/-- A CONFIG item: checked as at a commit, and committed at the same instant (R105). -/
def mirrorConfig (t : Nat) (recs : List (Nat × Nat × List Word)) (s : State) : Option State :=
  if !recs.all (fun r => sharedParam r.1) || (wholeCheck s (underCfg (mirroredCfg s recs) s)).isSome then none
  else if slmRunning s && decide (s.time.ns < t) then some { s with torch := { s.torch with commit := some (t, recs) } }
  else some (applyCommit (mirroredCfg s recs) s)

/-- One item. (DEDUCED, log 92.) -/
def applyItem (i : MItem) (s : State) : Option State := match i with
  | .record h ws => mirrorRecord h ws s
  | .maps h tx rx => mirrorMaps h tx rx s
  | .remove h => if (nbr s h).isSome then some (nbrRemove h s) else none
  | .cells a xs ys => mirrorCells a xs ys s
  | .config t recs => mirrorConfig t recs s
  | .lease e b =>
    if 8192 ≤ e then none
    else some { s with torch := { s.torch with held := tabPut s.torch.held e (max b (tabGet s.torch.held e 0)) } }

/-- The items of a frame in order: those that fail are passed over; whether all have applied. (DEDUCED, log 92.) -/
def applyItems : List MItem → State → State × Bool
  | [], s => (s, true)
  | i :: is, s => match applyItem i s with
    | some t => applyItems is t
    | none => ((applyItems is s).1, false)

/-- The mirror becomes LAPSED or DIVERGED: counted and raised (R497). (DEDUCED, log 92.) -/
def mirrorFault (st : Nat) (s : State) : State :=
  setF F.keepTorchStatus_mirror 0 st s |> count (if st = 1 then F.keepTorchCntMirror_lapses else F.keepTorchCntMirror_divergences) 0
    |> raise Ev.keepTorchMirror [(st, 32), (s.torch.mirrorSeq, 32)]

/-- The mirror state after a frame (R497): LAPSED and DIVERGED last until a resync ends with every item applied. -/
def mirrorAfter (flag : Nat) (ok : Bool) (s : State) : State :=
  let st := getF F.keepTorchStatus_mirror 0 s
  let s := { s with torch := { s.torch with bad := (s.torch.bad && st == 3) || !ok } }
  if flag = 1 then setF F.keepTorchStatus_mirror 0 3 s
  else if flag = 2 then
    if s.torch.bad then mirrorFault 2 { s with torch := { s.torch with bad := false } } else setF F.keepTorchStatus_mirror 0 0 s
  else if !ok && st != 2 && st != 3 then mirrorFault 2 s
  else s

/-- A frame on the torch port carries the winning claim, and that exceeds the receiver's own (R494). (DEDUCED, log 92.) -/
def controlOk (s : State) (h : YowHdr) : Bool := h.claim == torchWinner s && decide (ownClaim s < h.claim)

/-- The acknowledgement that a unit sends: the sequence, its mirror state, and the boundaries it holds (R495). -/
def ackSend (seq : Nat) (s : State) : State :=
  yowPut (torchPort s) 6 ([w32 seq, w32 (getF F.keepTorchStatus_mirror 0 s)]
    ++ s.torch.held.flatMap (fun e => [w32 e.1, wordAt e.2 0, wordAt e.2 1])) s

/-- A MIRROR frame is received (R494, R495). -/
def mirrorTake (h : YowHdr) (b : MirrorBody) (s : State) : State :=
  match yowAccept (torchPort s) h s with
  | (s1, false) => s1
  | (s1, true) =>
    if !isStandby s1 || !controlOk s1 h then count F.netYowCntReject_stale_claim 0 s1
    else
      let r := applyItems b.items s1
      let t := { r.1 with torch := { r.1.torch with mirrorAt := r.1.now, mirrorSeq := h.seq } }
      ackSend h.seq (mirrorAfter b.resync.val r.2 t)

/-- MIRROR (R495). -/
def execMirror (rx : Option (YowHdr × MirrorBody)) (s : State) : Host.Outcome State Fault Refusal :=
  match rx with
  | some (h, b) => if torchOn s then done s (mirrorTake h b s) else done s s
  | none => if torchOn s && holdsTorch s && yowCan s (torchPort s) then done s (mirrorSend s) else done s s

/-- MIRROR_TIMEOUT (R497): no MIRROR frame within mirror_timeout_ms, or the peer link is down. -/
def execMirrorTimeout (s : State) : Host.Outcome State Fault Refusal :=
  let st := getF F.keepTorchStatus_mirror 0 s
  if !torchOn s || !isStandby s || st = 1 || st = 2 then done s s
  else
    let s1 := if yowUp s (torchPort s) then waitTill (s.torch.mirrorAt + mirrorTimeout s + 1) s else s
    done s (mirrorFault 1 s1)

/-! LANE frames (R504). -/

/-- The free stages of LANE3's command FTQ: the credit that a unit reports. -/
def laneCredit (s : State) : Nat := 128 - (lane s 3).cmd.length

/-- The opcodes of the commands that words begin, behind words already assembled. -/
def laneOps : Nat → List Word → List Nat
  | 0, _ => []
  | _ + 1, [] => []
  | n + 1, w :: ws => fieldOf w 15 0 :: laneOps n (ws.drop (fieldOf w 23 16))

/-- A command served from either unit has no effect (R504). -/
def laneReadOnly (op : Nat) : Bool := [0x0101, 0x0103, 0x0301, 0x0705, 0x0902, 0x0B03, 0x0B04].contains op

/-- The words of a pair sequence's next command (R538): LEN in bits [23:16] of word 0. (DEDUCED, log 92.) -/
def pairCommand (s : State) (p : PairSeq) : List Word :=
  let cmd (op : Nat) (ws : List Word) : List Word := wordOf [(op, 0), (ws.length, 16)] :: ws
  match p.step with
  | 0 => cmd 0x0201 (w32 s.upd.len :: (List.range 8).map (wordAt s.upd.digest))
  | 1 => cmd 0x0202 (w32 (4 * p.off) :: bundleWs s p.off (min 60 (updWords s.upd.len - p.off)))
  | 2 => cmd 0x0203 []
  | 3 => cmd 0x0204 [0]
  | 4 => cmd 0x0101 []
  | _ => cmd 0x0B04 []

/-- Send a LANE frame of words and keep it until it is acknowledged. (DEDUCED, log 30.) -/
def laneSend (resp : Bool) (ws : List Word) (s : State) : State :=
  match yowSend (torchPort s) 7 true (wordOf [(b2n resp, 0), (laneCredit s, 8)] :: ws) s with
  | none => s
  | some t => { t with torch := { t.torch with
      credit := t.torch.credit - ws.length
      laneOut := some ⟨(yowLink t (torchPort t)).txSeq, resp, ws, t.now, 0⟩ } }

/-- What the unit has to send on LANE3: its response words, the next command of a pair sequence, or its credit alone. One frame waits
for its acknowledgement at a time (R504, DEDUCED, log 30). -/
def laneFrameSend (s : State) : State :=
  if s.torch.laneOut.isSome then s
  else
    let l := lane s 3
    let n := min 64 (min (respFill l) s.torch.credit)
    if 0 < n then laneSend true (l.resp.take n) (setLane 3 { l with resp := l.resp.drop n } s)
    else
      let idle := yowPut (torchPort s) 7 [wordOf [(laneCredit s, 8)]] s
      match s.torch.pair with
      | some p =>
        let ws := pairCommand s p
        if p.waiting || 5 < p.step || s.torch.credit < ws.length then idle
        else
          let t := laneSend false ws s
          if t.torch.laneOut.isSome then { t with torch := { t.torch with pair := some { p with waiting := true } } } else t
      | none => idle

/-- HANDOVER: yield is set and a round starts (R502). -/
def handOver (s : State) : State :=
  let s := setF F.keepTorchStatus_yield 0 1 s
  if s.torch.round.isSome then s else startRound s
/-- HANDOVER is permitted: the unit holds the torch and its peer's last MIRROR_ACK shows SYNCED (R502). -/
def mayHandOver (s : State) : Bool := torchOn s && holdsTorch s && s.torch.peerMirror == some 0

/-- A status by its code. -/
def statusOf (c : Nat) : Status :=
  ([.ok, .okAlready, .badParam, .busy, .notPermitted, .authFail, .replay, .tamperAbort, .domainFailed] : List Status).find?
    (fun s => s.code == c) |>.getD .notPermitted

/-- The response to a pair sequence's command: the next step, or the end of the sequence with that status (R503, R538). -/
def pairAnswer (p : PairSeq) (ws : List Word) (s : State) : State :=
  let st := statusOf (fieldOf (wAt ws 0) 15 0)
  let next (q : PairSeq) : State := { s with torch := { s.torch with pair := some { q with waiting := false } } }
  if st != .ok && st != .okAlready then pairFail st s
  else match p.step with
    | 0 => next { p with step := 1, off := fieldOf (wAt ws 1) 21 0 / 4 }
    | 1 =>
      let o := p.off + min 60 (updWords s.upd.len - p.off)
      next { p with step := if updWords s.upd.len ≤ o then 2 else 1, off := o }
    | 2 => next { p with step := 3 }
    | 3 => next { p with step := 4, since := s.now }
    | 4 => next { p with step := 5, verOk := wAt ws 5 == w32 (bundleVersion s) }
    | _ =>
      if !p.verOk || fieldOf (wAt ws 1) 3 2 != 0 then next { p with step := 4 }
      else if !mayHandOver s then pairFail .notPermitted s
      else handOver (next { p with step := 6 })

/-- A LANE frame is received: response words to a pair sequence, or commands for LANE3; one that carries commands with effect is a
control frame on the standby (R494, R504). (DEDUCED, log 92.) -/
def laneTake (h : YowHdr) (b : LaneBody) (s : State) : State :=
  match yowAccept (torchPort s) h s with
  | (s1, false) => s1
  | (s1, true) =>
    let effect := !b.resp && (laneOps 64 ((lane s1 3).asm ++ b.ws)).any (fun op => !laneReadOnly op)
    if effect && isStandby s1 && !controlOk s1 h then count F.netYowCntReject_stale_claim 0 s1
    else
      let s1 := { s1 with torch := { s1.torch with credit := b.credit } }
      let s1 := if h.ackReq then ackSend h.seq s1 else s1
      if b.resp then match s1.torch.pair with
        | some p => if p.waiting then pairAnswer p b.ws s1 else s1
        | none => s1
      else if b.ws.isEmpty then s1
      else pushOrDrop 3 (b.ws.map (fun w => (w, Ecc.ok))) s1

/-- LANE (R504). -/
def execLane (rx : Option (YowHdr × LaneBody)) (s : State) : Host.Outcome State Fault Refusal :=
  match rx with
  | some (h, b) => if torchOn s then done s (laneTake h b s) else done s s
  | none => if torchOn s && yowCan s (torchPort s) then done s (laneFrameSend s) else done s s

/-- LANE_FRAME_RETRY (R504): a frame not acknowledged within 2 ms is sent again, up to 4 times; then LANE3 takes a lane fault, and a
pair sequence ends (DEDUCED, log 30). -/
def execLaneFrameRetry (s : State) : Host.Outcome State Fault Refusal :=
  match s.torch.laneOut with
  | none => done s s
  | some x =>
    let s1 := waitTill (x.sentAt + 2000000) s
    if x.tries < 4 then
      let s2 := if !yowCan s1 (torchPort s1) then s1
        else s1 |> count F.netYowCntTx_tx_frames 0
          |> put (.yowiob (torchPort s1) 7 ([1, w32 (ownClaim s1), w32 x.seq, wordOf [(b2n x.resp, 0), (laneCredit s1, 8)]] ++ x.ws))
      done s { s2 with torch := { s2.torch with laneOut := some { x with sentAt := s2.now, tries := x.tries + 1 } } }
    else
      let s2 := laneFault 3 0 0 { s1 with torch := { s1.torch with laneOut := none } }
      done s (if x.resp then s2 else pairFail .notPermitted s2)

/-! Acknowledgements (R408, R495, R497, R504, R509). -/

/-- What an acknowledged boundary is to the holder (R408). -/
def ackLeases (ls : List (Nat × Nat)) (s : State) : State :=
  ls.foldl (fun s l => modVault l.1 (fun v => { v with acked := max v.acked l.2 }) s) s

/-- A MIRROR_ACK is received. -/
def ackTake (h : YowHdr) (b : MirrorAck) (s : State) : State :=
  match yowAccept (torchPort s) h s with
  | (s1, false) => s1
  | (s1, true) =>
    let s1 := match s1.torch.laneOut with
      | some x => if x.seq ≤ b.seq then { s1 with torch := { s1.torch with laneOut := none } } else s1
      | none => s1
    if !holdsTorch s1 then s1
    else
      let s1 := ackLeases b.leases { s1 with torch := { s1.torch with peerMirror := some b.mirror.val } }
      match s1.torch.resync with
      | some (n, k, some q) =>
        if b.seq < q then s1 else answerLane n .ok [w32 k] { s1 with torch := { s1.torch with resync := none } }
      | _ => s1

/-- MIRROR_ACK (R495). -/
def execMirrorAck (h : YowHdr) (b : MirrorAck) (s : State) : Host.Outcome State Fault Refusal :=
  if torchOn s then done s (ackTake h b s) else done s s

/-! Commands (R508, R509, R538). -/

/-- KEEP_TORCH registers from 0x5000 by offset / 4; 0 on L variants (R505). -/
def torchWord (s : State) (k : Nat) : Word :=
  let two (a b : Field) : Word := wordOf [(getF a 0 s, 0), (getF b 0 s, 16)]
  if !torchCapable s then 0 else match k with
  | 0 => wordOf [(getF F.keepTorchStatus_role 0 s, 0), (getF F.keepTorchStatus_mirror 0 s, 2), (getF F.keepTorchStatus_yield 0 s, 4),
      (getF F.keepTorchStatus_emitter_gate 0 s, 5), (b2n s.torch.peerOk, 6), (getF F.keepTorchStatus_pin_fault 0 s, 7),
      (torchUnitId s, 8), (torchWinner s, 16)]
  | 1 => wordOf [(ownClaim s, 0), (claimPriority s, 16), (torchF s 1 28 24, 24)]
  | 2 => two F.keepTorchCnt_takeovers F.keepTorchCnt_losses
  | 3 => two F.keepTorchCntMirror_lapses F.keepTorchCntMirror_divergences
  | 4 => w32 (getF F.keepTorchCntRound_rounds 0 s)
  | 5 => w32 (getF F.keepTorchLast_switch_us 0 s)
  | 6 => wordOf [(getF F.keepTorchGate_gpio_gate 0 s, 0), (getF F.keepTorchGate_tcmp_gate 0 s, 24)]
  | 7 => w32 (getF F.keepTorchPps_pps_gate 0 s)
  | _ => 0

/-- TORCH_STATUS. -/
def bodyTorchStatus (_ : Goruz) (s : State) : Res :=
  if !torchCapable s then fails .absent s else .now .ok ((List.range 8).map (torchWord s)) s

/-- TORCH_CONTROL (R502, R509). -/
def bodyTorchControl (g : Goruz) (s : State) : Res :=
  if !torchCapable s then fails .absent s
  else if !onlyFields g.words [[(1, 0)]] || 1 < gf g 1 1 0 then fails .badParam s
  else if gf g 1 1 0 = 0 then (if mayHandOver s then .now .ok [] (handOver s) else fails .notPermitted s)
  else if !torchYield s then fails .okAlready s
  else .now .ok [] (setF F.keepTorchStatus_yield 0 0 s)

/-- TORCH_RESYNC (R497, R509): everything is sent again. -/
def bodyTorchResync (g : Goruz) (s : State) : Res :=
  if !torchCapable s then fails .absent s
  else if !torchOn s || !holdsTorch s || !s.torch.peerOk then fails .notPermitted s
  else if s.torch.resync.isSome then fails .busy s
  else
    .later [] { s with torch := { s.torch with
      resync := some (g.lane.val, 0, none), sent := [], sentCells := [], sentCfg := [], sentLeases := [] } }

/-- UPD_ACTIVATE (R533, R537, R538, R541). (DEDUCED, log 78.) -/
def bodyUpdActivate (g : Goruz) (s : State) : Res :=
  if !onlyFields g.words [[(0, 0)]] then fails .badParam s
  else if gf g 1 0 0 = 0 then activateOwn g.lane.val s
  else if s.upd.staging != 2 || !torchOn s || !holdsTorch s || !bundlePair s then fails .notPermitted s
  else if updBusy s || s.torch.pair.isSome then fails .busy s
  else .later [] { s with torch := { s.torch with pair := some { lane := g.lane.val } } }

/-- PAIR_SEQUENCE_TIMEOUT (R538): the wait of at most 10 s for the standby runs out. No status is stated for it (DESIGN CHOICE, log 31). -/
def execPairSequenceTimeout (s : State) : Host.Outcome State Fault Refusal :=
  match s.torch.pair with
  | some p =>
    if p.step = 4 || p.step = 5 then done s (pairFail .notPermitted (waitTill (p.since + 10000000000) s)) else done s s
  | none => done s s

end Sys2Proof.Machine
end

