-- ==== Sys2Proof/Machine/Regs.lean ====
section
/-! DEFINITION. The register map: what each register of BAR0 reads, what a read and a write do, the latched pairs, TIME_REG_READ and
TIME_REG_WRITE, and the JTAG port (R3, R5 to R7, R42, R67, R542 to R557). -/

namespace Sys2Proof.Machine
open Sys2Proof

/-! What registers read. -/

/-- The member of a field that an address names. -/
def Field.member (f : Field) (a : Nat) : Option Nat :=
  if a < f.base then none
  else if f.stride = 0 then (if a = f.base then some 0 else none)
  else if (a - f.base) % f.stride = 0 && (a - f.base) / f.stride < f.count then some ((a - f.base) / f.stride)
  else none

/-- The fields of the register at an address, each with its member. -/
def fieldsAt (a : Nat) : List (Field × Nat) := fieldTable.filterMap (fun f => (f.member a).map (fun i => (f, i)))

/-- The fields of a register as they are held; WO fields read 0, and so do reserved bits and addresses (R5, R7). -/
def heldWord (s : State) (a : Nat) : Word :=
  w32 (((fieldsAt a).map (fun x => if x.1.acc = .wo then 0 else getF x.1 x.2 s * 2 ^ x.1.lo)).sum)

/-- KEEP_PWR_STATE[d] (R78). -/
def pwrStateW (s : State) (d : Nat) : Word :=
  if !domPresent s d then wordOf [(1, 6)]
  else
    let stopping := match s.pwr.active with
      | some (_, m, o, _) => bitOf m d && bitOf o d && domState s d == 1
      | none => false
    wordOf [(domState s d, 0), (getF F.keepPwrState_member d s, 2), (getF F.keepPwrState_waking d s, 3), (b2n stopping, 4),
      (getF F.keepPwrState_blocked d s, 5), (getF F.keepPwrState_last_refusal d s, 8), (getF F.keepPwrState_retries d s, 16)]

/-- KEEP_KEY_INGRESS_STAT. -/
def ingressStatW (s : State) : Word :=
  let busy := s.lanes.any (fun l => match l.2.ex with
    | some x => x.opcode == 0x0704
    | none => false)
  wordOf [(ingressWords s, 0), (getF F.keepKeyIngressStat_overflow 0 s, 13), (b2n busy, 14),
    (getF F.keepKeyIngressStat_last_status 0 s, 16)]

/-- KEEP_TMR_BLK_STAT[k]. -/
def blkStatW (s : State) (k : Nat) : Word :=
  wordOf [((tabGet s.time.caps k []).length, 0), (getF F.keepTmrBlkStat_rd_running k s, 8), (getF F.keepTmrBlkStat_wr_running k s, 9),
    (getF F.keepTmrBlkStat_wide_reject k s, 10)]

/-- Registers of KEEP that show more than their fields hold; none for the others. -/
def viewKeep (s : State) (a : Nat) : Option Word :=
  if a = 0x10 then some (w32 (capPart s))
  else if a = 0x14 then some (w32 (capAir s))
  else if a = 0x18 then some (w32 (capNet s))
  else if a = 0x2C then some (cfgW s)
  else if a = 0x30 then some (updStateW s)
  else if a = 0x34 then some (updProgressW s)
  else if 0x1000 ≤ a && a < 0x1068 then some (pwrStateW s ((a - 0x1000) / 4))
  else if 0x2000 ≤ a && a < 0x2080 then
    let n := (a - 0x2000) / 0x20
    if !lanePresent s n then some 0
    else match a % 0x20 with
      | 0 => some (laneStatW s n)
      | 4 => some (laneCtrlW s n)
      | 8 => some (laneLimitsW s n)
      | _ => none
  else if a = 0x3004 then some (ingressStatW s)
  else if a = 0x3008 then some (keyStateW s)
  else if a = 0x300C then some (wordAt (parcelCtr s) 0)
  else if a = 0x3010 then some (wordAt (parcelCtr s) 1)
  else if a = 0x3014 then some (w32 (keysHeld s))
  else if a = 0x3018 then some (tampPolicyW s)
  else if 0x4800 ≤ a && a < 0x4900 && a % 0x20 = 0x10 then some (blkStatW s ((a - 0x4800) / 0x20))
  else if a = 0x4C00 then some (wordAt s.time.ns 0)
  else if a = 0x4C04 then some (w32 (tabGet s.time.latch a 0))
  else if a = 0x4C08 then some (timeStateW s)
  else if a = 0x4C0C then some (i32 (rateAdj s))
  else if a = 0x4C14 then some (timeCfgW s)
  else if 0x4D04 ≤ a && a < 0x4D40 && a % 0x10 = 8 then some (w32 (tabGet s.time.latch a 0))
  else if a = 0x4D90 then some (w32 (gpioIn s))
  else if 0x5000 ≤ a && a < 0x5020 then some (torchWord s ((a - 0x5000) / 4))
  else none

/-- LINK_STORE_PEND[i] (R556). -/
def storePendW (s : State) (i : Nat) : Word :=
  if gradeL s && 1024 ≤ i then 0 else w32 (maskOf ((List.range 32).filter (fun j => pendBit s (32 * i + j))))

/-- Registers of LINK. -/
def viewLink (s : State) (a : Nat) : Option Word :=
  let mac (k : Nat) : Word := paramW s 0x06C0 0 k
  if a = 0x400000 then some (wordOf [(paramF s 0x06C0 0 4 12 0, 0), (paramF s 0x06C0 0 4 23 16, 16), (paramF s 0x06C0 0 4 24 24, 24),
    (b2n (paramOpt s 0x06C0 0).isSome, 31)])
  else if a = 0x400004 then some (mac 5)
  else if a = 0x400008 then some (mac 2)
  else if a = 0x40000C then some (mac 3)
  else if a = 0x400010 then some (mac 1)
  else if a = 0x400014 then some (seqStatusW s)
  else if 0x400200 ≤ a && a < 0x400300 then some (ftqStatW s ((a - 0x400200) / 4))
  else if a = 0x401008 then some (w32 (tabGet s.time.latch a 0))
  else if 0x401000 ≤ a && a < 0x401068 then
    if 0x401050 ≤ a && a < 0x40105C && !portPresent s ((a - 0x401050) / 4) then some 0 else some (slmWord s ((a - 0x401000) / 4))
  else if 0x402000 ≤ a && a < 0x402014 then some (storeWord s ((a - 0x402000) / 4))
  else if a = 0x403000 then some (ciphStatusW s)
  else if 0x404004 ≤ a && a < 0x404010 then none
  else if a = 0x404010 then some (w32 s.time.tsq.length)
  else if 0x410000 ≤ a && a < 0x414000 then some (storePendW s ((a - 0x410000) / 4))
  else none

/-- Pages free, and of those the pages that no reserve holds back (R346). -/
def pbufFreeW (s : State) : Word := wordOf [(min (freePages s) 65535, 0), (min (sharedFree s) 65535, 16)]

/-- NET_CORE, NET_HCIPH and NET_FWD registers that the configuration or the tables give. -/
def viewFwd (s : State) (a : Nat) : Option Word :=
  if a = 0x801000 then some (paramW s 0x0801 0 1)
  else if a = 0x801004 then some (paramW s 0x0801 0 2)
  else if a = 0x801008 then some (paramW s 0x0801 0 3)
  else if 0x801010 ≤ a && a < 0x801020 then some (paramW s 0x0802 0 ((a - 0x801010) / 4 + 1))
  else if 0x801020 ≤ a && a < 0x801030 then
    some (if a = 0x801028 then wordOf [((fwdTableW s 2).toNat, 0), (b2n (lpmSwitching s), 25)] else fwdTableW s ((a - 0x801020) / 4))
  else if 0x801030 ≤ a && a < 0x801044 then some (fwdFilterW s ((a - 0x801030) / 4))
  else none

/-- Registers of NET. -/
def viewNet (s : State) (a : Nat) : Option Word :=
  if a = 0x800000 then some (paramW s 0x0C05 0 1)
  else if a = 0x800004 then some (wordAt s.trf.v 0)
  else if a = 0x800008 then some (w32 (tabGet s.time.latch a 0))
  else if a = 0x80000C then some (schedStatusW s)
  else if 0x800010 ≤ a && a < 0x800020 then
    let c := (a - 0x800010) / 4
    some (wordOf [(paramF s 0x0C01 c 1 17 2, 0), (paramF s 0x0C01 c 1 25 18, 16), (paramF s 0x0C01 c 1 29 26, 24)])
  else if 0x800040 ≤ a && a < 0x8000C0 then
    let p := (a - 0x800040) / 8
    some (if a % 8 = 0 then w32 (paramF s 0x0C02 p 1 27 8) else w32 (paramF s 0x0C02 p 2 30 0))
  else if 0x8000C0 ≤ a && a < 0x8000E0 then
    let g := (a - 0x8000C0) / 4
    some (wordOf [(paramF s 0x0C03 g 1 18 3, 0), (min 65535 (quotaLimit s g), 16)])
  else if 0x8000E0 ≤ a && a < 0x800100 then some (pbufUsedW s ((a - 0x8000E0) / 4))
  else if a = 0x800100 then some (pbufFreeW s)
  else if 0x800200 ≤ a && a < 0x800400 && a % 8 = 0 then
    let b := (a - 0x800200) / 8
    some (wordOf [(paramF s 0x0C04 b 1 11 8, 0), (paramF s 0x0C04 b 1 31 16, 8)])
  else if 0x801000 ≤ a && a < 0x801044 then viewFwd s a
  else if a = 0x806004 then some (hostCfgW s)
  else if 0x807000 ≤ a && a < 0x807400 then some (w32 (msixWord s ((a - 0x807000) / 4)))
  else if a = 0x807800 then some (w32 (s.net.pba % 2 ^ 32))
  else if a = 0x807804 then some (w32 (s.net.pba / 2 ^ 32))
  else if 0x808000 ≤ a && a < 0x808200 then some (ethWord s ((a - 0x808000) / 0x100) (a % 0x100 / 4))
  else if 0x809000 ≤ a && a < 0x809010 then some (ddrWord s ((a - 0x809000) / 4))
  else if 0x80A000 ≤ a && a < 0x80A054 then some (yowWord s ((a - 0x80A000) / 4))
  else none

/-- Registers of AIR. -/
def viewAir (s : State) (a : Nat) : Option Word :=
  if 0xC00000 ≤ a && a < 0xC00300 && a % 0x100 < 0x0C then
    let p := (a - 0xC00000) / 0x100
    match a % 0x100 with
    | 0 => some (rfStatusW s p)
    | 4 => some (rfVswrW s p)
    | 8 => some (rfLoW s p)
    | _ => none
  else if 0xC00400 ≤ a && a < 0xC00480 then
    let e := (a - 0xC00400) / 0x10
    if !emitterPresent s e then some 0
    else if a % 0x10 = 0 then
      some (wordOf [((if emBound s e then emPort s e else 0), 0), (b2n (emBound s e), 2), (getF F.airTxEmStatus_on_air e s, 3),
        (getF F.airTxEmStatus_clamped e s, 4), (getF F.airTxEmStatus_backoff_q e s, 8), (getF F.airTxEmStatus_power_q e s, 16)])
    else none
  else if 0xC10000 ≤ a && a < 0xC11000 then some (lstWord s ((a - 0xC10000) / 0x40) (a % 0x40 / 4))
  else if 0xC11044 ≤ a && a < 0xC11050 then
    let p := (a - 0xC11044) / 4
    some (if portPresent s p then planPortW s p else 0)
  else if 0xC12000 ≤ a && a < 0xC12024 then some (tmWord s ((a - 0xC12000) / 4))
  else none

/-- What the register at an address reads, without the effects of a read (R542). Registers of an absent domain read 0 (R3, R544). -/
def regWord (s : State) (a : Nat) : Word :=
  if !domPresent s (domOfAddr a) then 0
  else ((if a < 0x400000 then viewKeep s a else if a < 0x800000 then viewLink s a else if a < 0xC00000 then viewNet s a
    else viewAir s a)).getD (heldWord s a)

/-! Reads (R7, R548, R550). -/

/-- The RC fields of a register return to their reset values (R7). (DESIGN CHOICE, log 101.) -/
def clearRc (a : Nat) (s : State) : State :=
  (fieldsAt a).foldl (fun s x => if x.1.acc = .rc then setF x.1 x.2 x.1.reset s else s) s

/-- The latch that the first register of a pair fills, as address and value (R548). -/
def latchOf (s : State) (a : Nat) : Option (Nat × Nat) :=
  if a = 0x4C00 then some (0x4C04, s.time.ns / 2 ^ 32)
  else if 0x4D04 ≤ a && a < 0x4D40 && a % 0x10 = 4 then
    some (a + 4, getF F.keepAadcThi_time_hi ((a - 0x4D04) / 0x10) s)
  else if a = 0x401004 then some (0x401008, (slmWord s 2).toNat)
  else if a = 0x800004 then some (0x800008, s.trf.v / 2 ^ 32 % 2 ^ 16)
  else none

/-- A read of a register whose domain is on: the word, and its effects. (DESIGN CHOICE, log 101.) -/
def readReg (a : Nat) (s : State) : Word × State :=
  if 0x4800 ≤ a && a < 0x4900 && a % 0x20 = 0 then
    let r := tmrPop ((a - 0x4800) / 0x20) s
    (r.2, r.1)
  else if 0x4800 ≤ a && a < 0x4900 && (a % 0x20 = 0x18 || a % 0x20 = 0x1C) then
    let r := wideRead ((a - 0x4800) / 0x20) (a % 0x20 == 0x1C) s
    (r.2, r.1)
  else if a = 0x404000 then
    let r := tsqPop s
    (r.2, r.1)
  else
    let w := regWord s a
    let s := match latchOf s a with
      | some (k, v) => { s with time := { s.time with latch := tabSetN s.time.latch k v } }
      | none => s
    (w, clearRc a s)

/-! Writes (R5, R7). -/

/-- A write of the fields of a register that have no behaviour of their own: RW fields take the value, W1C fields are cleared where
written 1 (R7). (DEDUCED, log 87.) -/
def writeFields (a : Nat) (w : Word) (s : State) : State :=
  (fieldsAt a).foldl (fun s x =>
    let v := bitsOf w.toNat x.1.lo x.1.w
    match x.1.acc with
    | .rw => setF x.1 x.2 v s
    | .w1c =>
      let o := getF x.1 x.2 s
      setF x.1 x.2 (o - Nat.land o v) s
    | _ => s) s

/-- A write of a register whose domain is on. -/
def writeReg (a : Nat) (w : Word) (s : State) : State :=
  if !domPresent s (domOfAddr a) then s
  else if 0x2000 ≤ a && a < 0x2080 then
    let n := (a - 0x2000) / 0x20
    if !lanePresent s n then s else if a % 0x20 = 4 then laneCtrlWrite n w s else writeFields a w s
  else if a = 0x3000 then ingressWrite w s
  else if 0x4000 ≤ a && a < 0x4800 then
    let n := (a - 0x4000) / 0x20
    match a % 0x20 with
    | 0 => tmrCfgWrite n w s
    | 4 => tmrCountWrite n w s
    | 8 => tmrReloadWrite n w s
    | 0xC => tmrCompareWrite n 0 w s
    | 0x10 => tmrCompareWrite n 1 w s
    | 0x18 => tmrStatWrite n w s
    | _ => s
  else if 0x4800 ≤ a && a < 0x4900 then
    let k := (a - 0x4800) / 0x20
    match a % 0x20 with
    | 0x14 => wideCfgWrite k w s
    | 0x18 => wideWrite k false w s
    | 0x1C => wideWrite k true w s
    | _ => writeFields a w s
  else if 0x4A00 ≤ a && a < 0x4B00 && a % 0x10 = 0 then trigWrite ((a - 0x4A00) / 0x10) w s
  else if a = 0x4D88 then gpioSetWrite w s
  else if a = 0x4D8C then gpioClrWrite w s
  else if 0x5000 ≤ a && a < 0x6000 && !torchCapable s then s
  else if 0x804000 ≤ a && a < 0x804400 then
    let r := (a - 0x804000) / 0x20
    match a % 0x20 with
    | 8 => ringCfgWrite r w s
    | 0xC => ringTailWrite r w s
    | k =>
      if getB F.netRingCfg_enable r s && (k = 0 || k = 4 || k = 0x1C) then setF F.netRingStat_cfg_reject r 1 s
      else writeFields a w s
  else if 0x807000 ≤ a && a < 0x807400 then msixWrite ((a - 0x807000) / 4) w s
  else writeFields a w s

/-! Accesses by the host (R6, R67, R543, R544). -/

/-- What an access meets: the domain that serves the address is woken, and is on, or the access ends without effect. The capability
block is held in the wick. Over PCIe the part is reached once its link has trained. (DESIGN CHOICE, log 9.) (DEDUCED, log 87.) -/
def hostAccess (a : Nat) (s : State) : State × Bool :=
  let d := domOfAddr a
  if s.start.testHeld || !pcieUsed s || !getB F.netPcieStatus_link_up 0 s then (s, false)
  else if a < 0x20 then (s, true)
  else if !domPresent s d || !keepUp s then (s, false)
  else
    let s := if domOn s d then s else wake 0x04 d s
    (s, domOn s d)

/-- A read by the host: it puts out the word; an access that cannot be served reads 0 (R67). -/
def hostRead (a : Nat) (s : State) : State :=
  match hostAccess a s with
  | (s1, true) => put (.readData a (readReg a s1).1.toNat) (readReg a s1).2
  | (s1, false) => put (.readData a 0) s1

/-- REGISTER_WRITE (R5 to R7): a write with partial byte enables is discarded; an address beyond BAR0 does not exist.
(DESIGN CHOICE, log 9.) -/
def execRegisterWrite (addr : Nat) (w : Word) (be : Fin 16) (s : State) : Host.Outcome State Fault Refusal :=
  if 0x1000000 ≤ addr then .fault .outsideBar0
  else if be.val != 15 || addr % 4 != 0 then done s s
  else match hostAccess addr s with
    | (s1, true) => done s (writeReg addr w s1)
    | (s1, false) => done s s1

/-- RC_REGISTER_READ (R6, R7): a read of a register; its RC fields are cleared. (DESIGN CHOICE, log 9.) -/
def execRcRegisterRead (addr : Nat) (s : State) : Host.Outcome State Fault Refusal :=
  if 0x1000000 ≤ addr then .fault .outsideBar0 else done s (hostRead (addr / 4 * 4) s)

/-- LATCHED_PAIR_READ (R548): a read of the first register of a pair latches the other words; a read of a latched word returns it.
(DESIGN CHOICE, log 9.) -/
def execLatchedPairRead (addr : Nat) (s : State) : Host.Outcome State Fault Refusal :=
  if 0x1000000 ≤ addr then .fault .outsideBar0 else done s (hostRead (addr / 4 * 4) s)

/-- An address of TIME_REG_READ and TIME_REG_WRITE (R449). -/
def timeAddrOk (a : Nat) : Bool := 0x4000 ≤ a && a < 0x4E00 && a % 4 == 0

/-- TIME_REG_READ (R450). -/
def bodyTimeRegRead (g : Goruz) (s : State) : Res :=
  if !timeAddrOk (gw g 1).toNat then fails .badParam s
  else .now .ok [(readReg (gw g 1).toNat s).1] (readReg (gw g 1).toNat s).2

/-- TIME_REG_WRITE (R450). -/
def bodyTimeRegWrite (g : Goruz) (s : State) : Res :=
  if !timeAddrOk (gw g 1).toNat then fails .badParam s else .now .ok [] (writeReg (gw g 1).toNat (gw g 2) s)

/-! JTAG (R42). -/

/-- IDCODE of the part: the die step stands in its version (R42). -/
def idcode (s : State) : Nat := (if s.start.capsRead then dieStep s else bitsOf s.fuse.part 4 4) * 2 ^ 28 + 0x6B40 * 2 ^ 12 + 0x52D * 2 + 1

/-- JTAG_INSTRUCTION_LOAD (R42): EXTEST, CLAMP, HIGHZ and private instructions are refused until debug authentication has succeeded,
and a refused instruction selects BYPASS. -/
def execJtagInstructionLoad (j : Jtag) (s : State) : Host.Outcome State Fault Refusal :=
  let free := match j with
    | .bypass | .idcode | .samplePreload => true
    | _ => false
  done s { s with start := { s.start with jtag := if free || s.keys.debugActive then j else .bypass } }

/-- The boundary cells drive the pins, regardless of the output gate (R42). -/
def boundaryDrives (s : State) : Bool := s.keys.debugActive && s.start.jtag == .extest

end Sys2Proof.Machine
end

