-- ==== Sys2Proof/Machine/Commands.lean ====
section
/-! DEFINITION. The Goruz commands as commands of the block: each is taken from its lane under R125 and runs its body. -/

namespace Sys2Proof.Machine
open Sys2Proof

/-- SYS_INFO, opcode 0x0101. -/
def execSysInfo (g : Goruz) (s : State) : Host.Outcome State Fault Refusal :=
  done s (serve 0x0101 bodySysInfo g s)
/-- SYS_RESET, opcode 0x0102. -/
def execSysReset (g : Goruz) (s : State) : Host.Outcome State Fault Refusal :=
  done s (serve 0x0102 bodySysReset g s)
/-- SYS_ECHO, opcode 0x0103. -/
def execSysEcho (g : Goruz) (s : State) : Host.Outcome State Fault Refusal :=
  done s (serve 0x0103 bodySysEcho g s)
/-- SYS_LANE_STATUS, opcode 0x0104. -/
def execSysLaneStatus (g : Goruz) (s : State) : Host.Outcome State Fault Refusal :=
  done s (serve 0x0104 bodySysLaneStatus g s)
/-- SYS_LANE_CONFIG, opcode 0x0105. -/
def execSysLaneConfig (g : Goruz) (s : State) : Host.Outcome State Fault Refusal :=
  done s (serve 0x0105 bodySysLaneConfig g s)
/-- SYS_EVENT_FETCH, opcode 0x0106. -/
def execSysEventFetch (g : Goruz) (s : State) : Host.Outcome State Fault Refusal :=
  done s (serve 0x0106 bodySysEventFetch g s)
/-- CFG_COMMIT, opcode 0x0120. -/
def execCfgCommit (g : Goruz) (s : State) : Host.Outcome State Fault Refusal :=
  done s (serve 0x0120 bodyCfgCommit g s)
/-- CFG_DISCARD, opcode 0x0121. -/
def execCfgDiscard (g : Goruz) (s : State) : Host.Outcome State Fault Refusal :=
  done s (serve 0x0121 bodyCfgDiscard g s)
/-- CFG_STATUS, opcode 0x0122. -/
def execCfgStatus (g : Goruz) (s : State) : Host.Outcome State Fault Refusal :=
  done s (serve 0x0122 bodyCfgStatus g s)
/-- CFG_IMAGE_SAVE, opcode 0x0123. -/
def execCfgImageSave (g : Goruz) (s : State) : Host.Outcome State Fault Refusal :=
  done s (serve 0x0123 bodyCfgImageSave g s)
/-- CFG_IMAGE_WRITE, opcode 0x0124. -/
def execCfgImageWrite (g : Goruz) (s : State) : Host.Outcome State Fault Refusal :=
  done s (serve 0x0124 bodyCfgImageWrite g s)
/-- CFG_IMAGE_FINISH, opcode 0x0125. -/
def execCfgImageFinish (g : Goruz) (s : State) : Host.Outcome State Fault Refusal :=
  done s (serve 0x0125 bodyCfgImageFinish g s)
/-- SYS_GATE_STATUS, opcode 0x0126. -/
def execSysGateStatus (g : Goruz) (s : State) : Host.Outcome State Fault Refusal :=
  done s (serve 0x0126 bodySysGateStatus g s)
/-- SYS_GATE_OPEN, opcode 0x0127. -/
def execSysGateOpen (g : Goruz) (s : State) : Host.Outcome State Fault Refusal :=
  done s (serve 0x0127 bodySysGateOpen g s)
/-- SYS_GATE_CLOSE, opcode 0x0128. -/
def execSysGateClose (g : Goruz) (s : State) : Host.Outcome State Fault Refusal :=
  done s (serve 0x0128 bodySysGateClose g s)
/-- ETH_CONFIG, opcode 0x0140. -/
def execEthConfig (g : Goruz) (s : State) : Host.Outcome State Fault Refusal :=
  done s (serve 0x0140 bodyEthConfig g s)
/-- ETH_GW_SET, opcode 0x0141. -/
def execEthGwSet (g : Goruz) (s : State) : Host.Outcome State Fault Refusal :=
  done s (serve 0x0141 bodyEthGwSet g s)
/-- ETH_STATUS, opcode 0x0142. -/
def execEthStatus (g : Goruz) (s : State) : Host.Outcome State Fault Refusal :=
  done s (serve 0x0142 bodyEthStatus g s)
/-- ETH_MDIO, opcode 0x0143. -/
def execEthMdio (g : Goruz) (s : State) : Host.Outcome State Fault Refusal :=
  done s (serve 0x0143 bodyEthMdio g s)
/-- REDUND_CONFIG, opcode 0x0144. -/
def execRedundConfig (g : Goruz) (s : State) : Host.Outcome State Fault Refusal :=
  done s (serve 0x0144 bodyRedundConfig g s)
/-- DDR_CONFIG, opcode 0x0145. -/
def execDdrConfig (g : Goruz) (s : State) : Host.Outcome State Fault Refusal :=
  done s (serve 0x0145 bodyDdrConfig g s)
/-- DDR_STATUS, opcode 0x0146. -/
def execDdrStatus (g : Goruz) (s : State) : Host.Outcome State Fault Refusal :=
  done s (serve 0x0146 bodyDdrStatus g s)
/-- HOST_CONFIG, opcode 0x0147. -/
def execHostConfig (g : Goruz) (s : State) : Host.Outcome State Fault Refusal :=
  done s (serve 0x0147 bodyHostConfig g s)
/-- UPD_BEGIN, opcode 0x0201. -/
def execUpdBegin (g : Goruz) (s : State) : Host.Outcome State Fault Refusal :=
  done s (serve 0x0201 bodyUpdBegin g s)
/-- UPD_WRITE, opcode 0x0202. -/
def execUpdWrite (g : Goruz) (s : State) : Host.Outcome State Fault Refusal :=
  done s (serve 0x0202 bodyUpdWrite g s)
/-- UPD_FINISH, opcode 0x0203. -/
def execUpdFinish (g : Goruz) (s : State) : Host.Outcome State Fault Refusal :=
  done s (serve 0x0203 bodyUpdFinish g s)
/-- UPD_ACTIVATE, opcode 0x0204. -/
def execUpdActivate (g : Goruz) (s : State) : Host.Outcome State Fault Refusal :=
  done s (serve 0x0204 bodyUpdActivate g s)
/-- UPD_STATUS, opcode 0x0205. -/
def execUpdStatus (g : Goruz) (s : State) : Host.Outcome State Fault Refusal :=
  done s (serve 0x0205 bodyUpdStatus g s)
/-- UPD_ABORT, opcode 0x0206. -/
def execUpdAbort (g : Goruz) (s : State) : Host.Outcome State Fault Refusal :=
  done s (serve 0x0206 bodyUpdAbort g s)
/-- PWR_STATUS, opcode 0x0301. -/
def execPwrStatus (g : Goruz) (s : State) : Host.Outcome State Fault Refusal :=
  done s (serve 0x0301 bodyPwrStatus g s)
/-- PWR_SLEEP_SET_DEFINE, opcode 0x0302. -/
def execPwrSleepSetDefine (g : Goruz) (s : State) : Host.Outcome State Fault Refusal :=
  done s (serve 0x0302 bodyPwrSleepSetDefine g s)
/-- PWR_SLEEP_ENTER, opcode 0x0303. -/
def execPwrSleepEnter (g : Goruz) (s : State) : Host.Outcome State Fault Refusal :=
  done s (serve 0x0303 bodyPwrSleepEnter g s)
/-- PWR_SLEEP_EXIT, opcode 0x0304. -/
def execPwrSleepExit (g : Goruz) (s : State) : Host.Outcome State Fault Refusal :=
  done s (serve 0x0304 bodyPwrSleepExit g s)
/-- PWR_WAKE, opcode 0x0305. -/
def execPwrWake (g : Goruz) (s : State) : Host.Outcome State Fault Refusal :=
  done s (serve 0x0305 bodyPwrWake g s)
/-- PWR_WAKE_SOURCE, opcode 0x0306. -/
def execPwrWakeSource (g : Goruz) (s : State) : Host.Outcome State Fault Refusal :=
  done s (serve 0x0306 bodyPwrWakeSource g s)
/-- PWR_DOMAIN_RETRY, opcode 0x0307. -/
def execPwrDomainRetry (g : Goruz) (s : State) : Host.Outcome State Fault Refusal :=
  done s (serve 0x0307 bodyPwrDomainRetry g s)
/-- PWR_REF_RESUME, opcode 0x0308. -/
def execPwrRefResume (g : Goruz) (s : State) : Host.Outcome State Fault Refusal :=
  done s (serve 0x0308 bodyPwrRefResume g s)
/-- RF_PORT_CONFIG, opcode 0x0401. -/
def execRfPortConfig (g : Goruz) (s : State) : Host.Outcome State Fault Refusal :=
  done s (serve 0x0401 bodyRfPortConfig g s)
/-- RF_PORT_STATUS, opcode 0x0402. -/
def execRfPortStatus (g : Goruz) (s : State) : Host.Outcome State Fault Refusal :=
  done s (serve 0x0402 bodyRfPortStatus g s)
/-- RF_RAMP_SET, opcode 0x0403. -/
def execRfRampSet (g : Goruz) (s : State) : Host.Outcome State Fault Refusal :=
  done s (serve 0x0403 bodyRfRampSet g s)
/-- RF_FEM_SET, opcode 0x0404. -/
def execRfFemSet (g : Goruz) (s : State) : Host.Outcome State Fault Refusal :=
  done s (serve 0x0404 bodyRfFemSet g s)
/-- RF_GAIN_SET, opcode 0x0405. -/
def execRfGainSet (g : Goruz) (s : State) : Host.Outcome State Fault Refusal :=
  done s (serve 0x0405 bodyRfGainSet g s)
/-- RF_TRIM_SET, opcode 0x0406. -/
def execRfTrimSet (g : Goruz) (s : State) : Host.Outcome State Fault Refusal :=
  done s (serve 0x0406 bodyRfTrimSet g s)
/-- RF_TRIM_GET, opcode 0x0407. -/
def execRfTrimGet (g : Goruz) (s : State) : Host.Outcome State Fault Refusal :=
  done s (serve 0x0407 bodyRfTrimGet g s)
/-- RF_SYNTH_CAL, opcode 0x0408. -/
def execRfSynthCal (g : Goruz) (s : State) : Host.Outcome State Fault Refusal :=
  done s (serve 0x0408 bodyRfSynthCal g s)
/-- RF_TUNER_SEARCH, opcode 0x0409. -/
def execRfTunerSearch (g : Goruz) (s : State) : Host.Outcome State Fault Refusal :=
  done s (serve 0x0409 bodyRfTunerSearch g s)
/-- RF_TEST_TONE, opcode 0x040A. -/
def execRfTestTone (g : Goruz) (s : State) : Host.Outcome State Fault Refusal :=
  done s (serve 0x040A bodyRfTestTone g s)
/-- PLAN_LISTENER_SET, opcode 0x0420. -/
def execPlanListenerSet (g : Goruz) (s : State) : Host.Outcome State Fault Refusal :=
  done s (serve 0x0420 bodyPlanListenerSet g s)
/-- PLAN_EMITTER_BIND, opcode 0x0421. -/
def execPlanEmitterBind (g : Goruz) (s : State) : Host.Outcome State Fault Refusal :=
  done s (serve 0x0421 bodyPlanEmitterBind g s)
/-- PLAN_CHANNELS_SET, opcode 0x0422. -/
def execPlanChannelsSet (g : Goruz) (s : State) : Host.Outcome State Fault Refusal :=
  done s (serve 0x0422 bodyPlanChannelsSet g s)
/-- PLAN_STATUS, opcode 0x0423. -/
def execPlanStatus (g : Goruz) (s : State) : Host.Outcome State Fault Refusal :=
  done s (serve 0x0423 bodyPlanStatus g s)
/-- PLAN_CHECK, opcode 0x0424. -/
def execPlanCheck (g : Goruz) (s : State) : Host.Outcome State Fault Refusal :=
  done s (serve 0x0424 bodyPlanCheck g s)
/-- PLAN_REACH, opcode 0x0425. -/
def execPlanReach (g : Goruz) (s : State) : Host.Outcome State Fault Refusal :=
  done s (serve 0x0425 bodyPlanReach g s)
/-- LST_STATUS, opcode 0x0426. -/
def execLstStatus (g : Goruz) (s : State) : Host.Outcome State Fault Refusal :=
  done s (serve 0x0426 bodyLstStatus g s)
/-- PHY_GT_CONFIG, opcode 0x0440. -/
def execPhyGtConfig (g : Goruz) (s : State) : Host.Outcome State Fault Refusal :=
  done s (serve 0x0440 bodyPhyGtConfig g s)
/-- PHY_TS_TRIM_SET, opcode 0x0441. -/
def execPhyTsTrimSet (g : Goruz) (s : State) : Host.Outcome State Fault Refusal :=
  done s (serve 0x0441 bodyPhyTsTrimSet g s)
/-- PHY_TS_CORR_GET, opcode 0x0442. -/
def execPhyTsCorrGet (g : Goruz) (s : State) : Host.Outcome State Fault Refusal :=
  done s (serve 0x0442 bodyPhyTsCorrGet g s)
/-- PHY_FSK_CONFIG, opcode 0x0443. -/
def execPhyFskConfig (g : Goruz) (s : State) : Host.Outcome State Fault Refusal :=
  done s (serve 0x0443 bodyPhyFskConfig g s)
/-- GT_LINK_SET, opcode 0x0444. -/
def execGtLinkSet (g : Goruz) (s : State) : Host.Outcome State Fault Refusal :=
  done s (serve 0x0444 bodyGtLinkSet g s)
/-- GT_MAP_GET, opcode 0x0445. -/
def execGtMapGet (g : Goruz) (s : State) : Host.Outcome State Fault Refusal :=
  done s (serve 0x0445 bodyGtMapGet g s)
/-- GT_STATUS, opcode 0x0446. -/
def execGtStatus (g : Goruz) (s : State) : Host.Outcome State Fault Refusal :=
  done s (serve 0x0446 bodyGtStatus g s)
/-- SCH_TEMPLATE_SET, opcode 0x0501. -/
def execSchTemplateSet (g : Goruz) (s : State) : Host.Outcome State Fault Refusal :=
  done s (serve 0x0501 bodySchTemplateSet g s)
/-- SCH_HOP_SET, opcode 0x0502. -/
def execSchHopSet (g : Goruz) (s : State) : Host.Outcome State Fault Refusal :=
  done s (serve 0x0502 bodySchHopSet g s)
/-- SCH_SLOTFRAME_SET, opcode 0x0503. -/
def execSchSlotframeSet (g : Goruz) (s : State) : Host.Outcome State Fault Refusal :=
  done s (serve 0x0503 bodySchSlotframeSet g s)
/-- SCH_SYNC_CONFIG, opcode 0x0504. -/
def execSchSyncConfig (g : Goruz) (s : State) : Host.Outcome State Fault Refusal :=
  done s (serve 0x0504 bodySchSyncConfig g s)
/-- SCH_TIMING_CONFIG, opcode 0x0505. -/
def execSchTimingConfig (g : Goruz) (s : State) : Host.Outcome State Fault Refusal :=
  done s (serve 0x0505 bodySchTimingConfig g s)
/-- SCH_LANTERN_CONFIG, opcode 0x0506. -/
def execSchLanternConfig (g : Goruz) (s : State) : Host.Outcome State Fault Refusal :=
  done s (serve 0x0506 bodySchLanternConfig g s)
/-- SCH_CELL_ADD, opcode 0x0510. -/
def execSchCellAdd (g : Goruz) (s : State) : Host.Outcome State Fault Refusal :=
  done s (serve 0x0510 bodySchCellAdd g s)
/-- SCH_CELL_DELETE, opcode 0x0511. -/
def execSchCellDelete (g : Goruz) (s : State) : Host.Outcome State Fault Refusal :=
  done s (serve 0x0511 bodySchCellDelete g s)
/-- SCH_CELL_QUERY, opcode 0x0512. -/
def execSchCellQuery (g : Goruz) (s : State) : Host.Outcome State Fault Refusal :=
  done s (serve 0x0512 bodySchCellQuery g s)
/-- SCH_NBR_TIMING_SET, opcode 0x0513. -/
def execSchNbrTimingSet (g : Goruz) (s : State) : Host.Outcome State Fault Refusal :=
  done s (serve 0x0513 bodySchNbrTimingSet g s)
/-- SCH_NBR_TIMING_GET, opcode 0x0514. -/
def execSchNbrTimingGet (g : Goruz) (s : State) : Host.Outcome State Fault Refusal :=
  done s (serve 0x0514 bodySchNbrTimingGet g s)
/-- SCH_ASN_SET, opcode 0x0515. -/
def execSchAsnSet (g : Goruz) (s : State) : Host.Outcome State Fault Refusal :=
  done s (serve 0x0515 bodySchAsnSet g s)
/-- SCH_RESCAN, opcode 0x0516. -/
def execSchRescan (g : Goruz) (s : State) : Host.Outcome State Fault Refusal :=
  done s (serve 0x0516 bodySchRescan g s)
/-- SCH_STATUS, opcode 0x0517. -/
def execSchStatus (g : Goruz) (s : State) : Host.Outcome State Fault Refusal :=
  done s (serve 0x0517 bodySchStatus g s)
/-- NBR_ADD, opcode 0x0601. -/
def execNbrAdd (g : Goruz) (s : State) : Host.Outcome State Fault Refusal :=
  done s (serve 0x0601 bodyNbrAdd g s)
/-- NBR_REMOVE, opcode 0x0602. -/
def execNbrRemove (g : Goruz) (s : State) : Host.Outcome State Fault Refusal :=
  done s (serve 0x0602 bodyNbrRemove g s)
/-- NBR_SET, opcode 0x0603. -/
def execNbrSet (g : Goruz) (s : State) : Host.Outcome State Fault Refusal :=
  done s (serve 0x0603 bodyNbrSet g s)
/-- NBR_GET, opcode 0x0604. -/
def execNbrGet (g : Goruz) (s : State) : Host.Outcome State Fault Refusal :=
  done s (serve 0x0604 bodyNbrGet g s)
/-- NBR_FIND, opcode 0x0605. -/
def execNbrFind (g : Goruz) (s : State) : Host.Outcome State Fault Refusal :=
  done s (serve 0x0605 bodyNbrFind g s)
/-- NBR_STATS, opcode 0x0606. -/
def execNbrStats (g : Goruz) (s : State) : Host.Outcome State Fault Refusal :=
  done s (serve 0x0606 bodyNbrStats g s)
/-- NBR_RESTORE, opcode 0x0607. -/
def execNbrRestore (g : Goruz) (s : State) : Host.Outcome State Fault Refusal :=
  done s (serve 0x0607 bodyNbrRestore g s)
/-- NBR_PIN, opcode 0x0608. -/
def execNbrPin (g : Goruz) (s : State) : Host.Outcome State Fault Refusal :=
  done s (serve 0x0608 bodyNbrPin g s)
/-- STORE_CONFIG, opcode 0x0609. -/
def execStoreConfig (g : Goruz) (s : State) : Host.Outcome State Fault Refusal :=
  done s (serve 0x0609 bodyStoreConfig g s)
/-- STORE_STATUS, opcode 0x060A. -/
def execStoreStatus (g : Goruz) (s : State) : Host.Outcome State Fault Refusal :=
  done s (serve 0x060A bodyStoreStatus g s)
/-- MAC_CONFIG, opcode 0x06C0. -/
def execMacConfig (g : Goruz) (s : State) : Host.Outcome State Fault Refusal :=
  done s (serve 0x06C0 bodyMacConfig g s)
/-- MAC_STATUS, opcode 0x06C1. -/
def execMacStatus (g : Goruz) (s : State) : Host.Outcome State Fault Refusal :=
  done s (serve 0x06C1 bodyMacStatus g s)
/-- MAC_FTQ_STATUS, opcode 0x06C2. -/
def execMacFtqStatus (g : Goruz) (s : State) : Host.Outcome State Fault Refusal :=
  done s (serve 0x06C2 bodyMacFtqStatus g s)
/-- KEY_CONFIG, opcode 0x0701. -/
def execKeyConfig (g : Goruz) (s : State) : Host.Outcome State Fault Refusal :=
  done s (serve 0x0701 bodyKeyConfig g s)
/-- KEY_INGRESS_WRITE, opcode 0x0702. -/
def execKeyIngressWrite (g : Goruz) (s : State) : Host.Outcome State Fault Refusal :=
  done s (serve 0x0702 bodyKeyIngressWrite g s)
/-- KEY_INGRESS_CLEAR, opcode 0x0703. -/
def execKeyIngressClear (g : Goruz) (s : State) : Host.Outcome State Fault Refusal :=
  done s (serve 0x0703 bodyKeyIngressClear g s)
/-- KEY_PARCEL_SUBMIT, opcode 0x0704. -/
def execKeyParcelSubmit (g : Goruz) (s : State) : Host.Outcome State Fault Refusal :=
  done s (serve 0x0704 bodyKeyParcelSubmit g s)
/-- KEY_STATUS, opcode 0x0705. -/
def execKeyStatus (g : Goruz) (s : State) : Host.Outcome State Fault Refusal :=
  done s (serve 0x0705 bodyKeyStatus g s)
/-- KEY_INFO, opcode 0x0706. -/
def execKeyInfo (g : Goruz) (s : State) : Host.Outcome State Fault Refusal :=
  done s (serve 0x0706 bodyKeyInfo g s)
/-- TAMPER_STATUS, opcode 0x0707. -/
def execTamperStatus (g : Goruz) (s : State) : Host.Outcome State Fault Refusal :=
  done s (serve 0x0707 bodyTamperStatus g s)
/-- CIPHER_STATUS, opcode 0x0708. -/
def execCipherStatus (g : Goruz) (s : State) : Host.Outcome State Fault Refusal :=
  done s (serve 0x0708 bodyCipherStatus g s)
/-- FWD_CONFIG, opcode 0x0801. -/
def execFwdConfig (g : Goruz) (s : State) : Host.Outcome State Fault Refusal :=
  done s (serve 0x0801 bodyFwdConfig g s)
/-- FWD_DSCP_MAP, opcode 0x0802. -/
def execFwdDscpMap (g : Goruz) (s : State) : Host.Outcome State Fault Refusal :=
  done s (serve 0x0802 bodyFwdDscpMap g s)
/-- FWD_CONTEXT_SET, opcode 0x0803. -/
def execFwdContextSet (g : Goruz) (s : State) : Host.Outcome State Fault Refusal :=
  done s (serve 0x0803 bodyFwdContextSet g s)
/-- FWD_ROUTE_ADD, opcode 0x0810. -/
def execFwdRouteAdd (g : Goruz) (s : State) : Host.Outcome State Fault Refusal :=
  done s (serve 0x0810 bodyFwdRouteAdd g s)
/-- FWD_ROUTE_DELETE, opcode 0x0811. -/
def execFwdRouteDelete (g : Goruz) (s : State) : Host.Outcome State Fault Refusal :=
  done s (serve 0x0811 bodyFwdRouteDelete g s)
/-- FWD_ROUTE_GET, opcode 0x0812. -/
def execFwdRouteGet (g : Goruz) (s : State) : Host.Outcome State Fault Refusal :=
  done s (serve 0x0812 bodyFwdRouteGet g s)
/-- FWD_ROUTE_FLUSH, opcode 0x0813. -/
def execFwdRouteFlush (g : Goruz) (s : State) : Host.Outcome State Fault Refusal :=
  done s (serve 0x0813 bodyFwdRouteFlush g s)
/-- FWD_PREFIX_ADD, opcode 0x0820. -/
def execFwdPrefixAdd (g : Goruz) (s : State) : Host.Outcome State Fault Refusal :=
  done s (serve 0x0820 bodyFwdPrefixAdd g s)
/-- FWD_PREFIX_DELETE, opcode 0x0821. -/
def execFwdPrefixDelete (g : Goruz) (s : State) : Host.Outcome State Fault Refusal :=
  done s (serve 0x0821 bodyFwdPrefixDelete g s)
/-- FWD_PREFIX_GET, opcode 0x0822. -/
def execFwdPrefixGet (g : Goruz) (s : State) : Host.Outcome State Fault Refusal :=
  done s (serve 0x0822 bodyFwdPrefixGet g s)
/-- FWD_LOOKUP, opcode 0x0823. -/
def execFwdLookup (g : Goruz) (s : State) : Host.Outcome State Fault Refusal :=
  done s (serve 0x0823 bodyFwdLookup g s)
/-- FWD_STATUS, opcode 0x0830. -/
def execFwdStatus (g : Goruz) (s : State) : Host.Outcome State Fault Refusal :=
  done s (serve 0x0830 bodyFwdStatus g s)
/-- TIME_CONFIG, opcode 0x0901. -/
def execTimeConfig (g : Goruz) (s : State) : Host.Outcome State Fault Refusal :=
  done s (serve 0x0901 bodyTimeConfig g s)
/-- TIME_STATUS, opcode 0x0902. -/
def execTimeStatus (g : Goruz) (s : State) : Host.Outcome State Fault Refusal :=
  done s (serve 0x0902 bodyTimeStatus g s)
/-- TIME_SET, opcode 0x0903. -/
def execTimeSet (g : Goruz) (s : State) : Host.Outcome State Fault Refusal :=
  done s (serve 0x0903 bodyTimeSet g s)
/-- TIME_OFFSET, opcode 0x0904. -/
def execTimeOffset (g : Goruz) (s : State) : Host.Outcome State Fault Refusal :=
  done s (serve 0x0904 bodyTimeOffset g s)
/-- TIME_ACCEPT, opcode 0x0905. -/
def execTimeAccept (g : Goruz) (s : State) : Host.Outcome State Fault Refusal :=
  done s (serve 0x0905 bodyTimeAccept g s)
/-- TIME_TSQ_FETCH, opcode 0x0906. -/
def execTimeTsqFetch (g : Goruz) (s : State) : Host.Outcome State Fault Refusal :=
  done s (serve 0x0906 bodyTimeTsqFetch g s)
/-- TIME_REG_READ, opcode 0x0907. -/
def execTimeRegRead (g : Goruz) (s : State) : Host.Outcome State Fault Refusal :=
  done s (serve 0x0907 bodyTimeRegRead g s)
/-- TIME_REG_WRITE, opcode 0x0908. -/
def execTimeRegWrite (g : Goruz) (s : State) : Host.Outcome State Fault Refusal :=
  done s (serve 0x0908 bodyTimeRegWrite g s)
/-- AADC_TRIM_SET, opcode 0x0909. -/
def execAadcTrimSet (g : Goruz) (s : State) : Host.Outcome State Fault Refusal :=
  done s (serve 0x0909 bodyAadcTrimSet g s)
/-- AADC_TRIM_GET, opcode 0x090A. -/
def execAadcTrimGet (g : Goruz) (s : State) : Host.Outcome State Fault Refusal :=
  done s (serve 0x090A bodyAadcTrimGet g s)
/-- DIAG_LANE_TEST, opcode 0x0A01. -/
def execDiagLaneTest (g : Goruz) (s : State) : Host.Outcome State Fault Refusal :=
  done s (serve 0x0A01 bodyDiagLaneTest g s)
/-- LOG_STATUS, opcode 0x0A10. -/
def execLogStatus (g : Goruz) (s : State) : Host.Outcome State Fault Refusal :=
  done s (serve 0x0A10 bodyLogStatus g s)
/-- LOG_COUNTERS_GET, opcode 0x0A11. -/
def execLogCountersGet (g : Goruz) (s : State) : Host.Outcome State Fault Refusal :=
  done s (serve 0x0A11 bodyLogCountersGet g s)
/-- LOG_HIST_GET, opcode 0x0A12. -/
def execLogHistGet (g : Goruz) (s : State) : Host.Outcome State Fault Refusal :=
  done s (serve 0x0A12 bodyLogHistGet g s)
/-- LOG_CLASS_GET, opcode 0x0A13. -/
def execLogClassGet (g : Goruz) (s : State) : Host.Outcome State Fault Refusal :=
  done s (serve 0x0A13 bodyLogClassGet g s)
/-- LOG_JOURNAL_GET, opcode 0x0A14. -/
def execLogJournalGet (g : Goruz) (s : State) : Host.Outcome State Fault Refusal :=
  done s (serve 0x0A14 bodyLogJournalGet g s)
/-- LOG_FLUSH, opcode 0x0A15. -/
def execLogFlush (g : Goruz) (s : State) : Host.Outcome State Fault Refusal :=
  done s (serve 0x0A15 bodyLogFlush g s)
/-- CLUSTER_CONFIG, opcode 0x0B01. -/
def execClusterConfig (g : Goruz) (s : State) : Host.Outcome State Fault Refusal :=
  done s (serve 0x0B01 bodyClusterConfig g s)
/-- TORCH_CONFIG, opcode 0x0B02. -/
def execTorchConfig (g : Goruz) (s : State) : Host.Outcome State Fault Refusal :=
  done s (serve 0x0B02 bodyTorchConfig g s)
/-- CLUSTER_STATUS, opcode 0x0B03. -/
def execClusterStatus (g : Goruz) (s : State) : Host.Outcome State Fault Refusal :=
  done s (serve 0x0B03 bodyClusterStatus g s)
/-- TORCH_STATUS, opcode 0x0B04. -/
def execTorchStatus (g : Goruz) (s : State) : Host.Outcome State Fault Refusal :=
  done s (serve 0x0B04 bodyTorchStatus g s)
/-- TORCH_CONTROL, opcode 0x0B05. -/
def execTorchControl (g : Goruz) (s : State) : Host.Outcome State Fault Refusal :=
  done s (serve 0x0B05 bodyTorchControl g s)
/-- TORCH_RESYNC, opcode 0x0B06. -/
def execTorchResync (g : Goruz) (s : State) : Host.Outcome State Fault Refusal :=
  done s (serve 0x0B06 bodyTorchResync g s)
/-- TRF_CLASS_CONFIG, opcode 0x0C01. -/
def execTrfClassConfig (g : Goruz) (s : State) : Host.Outcome State Fault Refusal :=
  done s (serve 0x0C01 bodyTrfClassConfig g s)
/-- TRF_PROFILE_SET, opcode 0x0C02. -/
def execTrfProfileSet (g : Goruz) (s : State) : Host.Outcome State Fault Refusal :=
  done s (serve 0x0C02 bodyTrfProfileSet g s)
/-- TRF_QUOTA_SET, opcode 0x0C03. -/
def execTrfQuotaSet (g : Goruz) (s : State) : Host.Outcome State Fault Refusal :=
  done s (serve 0x0C03 bodyTrfQuotaSet g s)
/-- TRF_POLICE_SET, opcode 0x0C04. -/
def execTrfPoliceSet (g : Goruz) (s : State) : Host.Outcome State Fault Refusal :=
  done s (serve 0x0C04 bodyTrfPoliceSet g s)
/-- TRF_SCHED_CONFIG, opcode 0x0C05. -/
def execTrfSchedConfig (g : Goruz) (s : State) : Host.Outcome State Fault Refusal :=
  done s (serve 0x0C05 bodyTrfSchedConfig g s)
/-- TRF_FLOW_SET, opcode 0x0C10. -/
def execTrfFlowSet (g : Goruz) (s : State) : Host.Outcome State Fault Refusal :=
  done s (serve 0x0C10 bodyTrfFlowSet g s)
/-- TRF_FLOW_GET, opcode 0x0C11. -/
def execTrfFlowGet (g : Goruz) (s : State) : Host.Outcome State Fault Refusal :=
  done s (serve 0x0C11 bodyTrfFlowGet g s)
/-- TRF_HIST_GET, opcode 0x0C12. -/
def execTrfHistGet (g : Goruz) (s : State) : Host.Outcome State Fault Refusal :=
  done s (serve 0x0C12 bodyTrfHistGet g s)
/-- TRF_STATUS, opcode 0x0C13. -/
def execTrfStatus (g : Goruz) (s : State) : Host.Outcome State Fault Refusal :=
  done s (serve 0x0C13 bodyTrfStatus g s)

/-- The bodies of the commands, by opcode: part 0 (R126). -/
def bodyTable0 (op : Nat) : Option (Goruz → State → Res) :=
  match op with
  | 0x0101 => some bodySysInfo
  | 0x0102 => some bodySysReset
  | 0x0103 => some bodySysEcho
  | 0x0104 => some bodySysLaneStatus
  | 0x0105 => some bodySysLaneConfig
  | 0x0106 => some bodySysEventFetch
  | 0x0120 => some bodyCfgCommit
  | 0x0121 => some bodyCfgDiscard
  | 0x0122 => some bodyCfgStatus
  | 0x0123 => some bodyCfgImageSave
  | 0x0124 => some bodyCfgImageWrite
  | 0x0125 => some bodyCfgImageFinish
  | 0x0126 => some bodySysGateStatus
  | 0x0127 => some bodySysGateOpen
  | 0x0128 => some bodySysGateClose
  | 0x0140 => some bodyEthConfig
  | 0x0141 => some bodyEthGwSet
  | 0x0142 => some bodyEthStatus
  | 0x0143 => some bodyEthMdio
  | 0x0144 => some bodyRedundConfig
  | 0x0145 => some bodyDdrConfig
  | 0x0146 => some bodyDdrStatus
  | 0x0147 => some bodyHostConfig
  | 0x0201 => some bodyUpdBegin
  | 0x0202 => some bodyUpdWrite
  | 0x0203 => some bodyUpdFinish
  | 0x0204 => some bodyUpdActivate
  | 0x0205 => some bodyUpdStatus
  | 0x0206 => some bodyUpdAbort
  | 0x0301 => some bodyPwrStatus
  | 0x0302 => some bodyPwrSleepSetDefine
  | 0x0303 => some bodyPwrSleepEnter
  | 0x0304 => some bodyPwrSleepExit
  | 0x0305 => some bodyPwrWake
  | 0x0306 => some bodyPwrWakeSource
  | _ => none

/-- The bodies of the commands, by opcode: part 1 (R126). -/
def bodyTable1 (op : Nat) : Option (Goruz → State → Res) :=
  match op with
  | 0x0307 => some bodyPwrDomainRetry
  | 0x0308 => some bodyPwrRefResume
  | 0x0401 => some bodyRfPortConfig
  | 0x0402 => some bodyRfPortStatus
  | 0x0403 => some bodyRfRampSet
  | 0x0404 => some bodyRfFemSet
  | 0x0405 => some bodyRfGainSet
  | 0x0406 => some bodyRfTrimSet
  | 0x0407 => some bodyRfTrimGet
  | 0x0408 => some bodyRfSynthCal
  | 0x0409 => some bodyRfTunerSearch
  | 0x040A => some bodyRfTestTone
  | 0x0420 => some bodyPlanListenerSet
  | 0x0421 => some bodyPlanEmitterBind
  | 0x0422 => some bodyPlanChannelsSet
  | 0x0423 => some bodyPlanStatus
  | 0x0424 => some bodyPlanCheck
  | 0x0425 => some bodyPlanReach
  | 0x0426 => some bodyLstStatus
  | 0x0440 => some bodyPhyGtConfig
  | 0x0441 => some bodyPhyTsTrimSet
  | 0x0442 => some bodyPhyTsCorrGet
  | 0x0443 => some bodyPhyFskConfig
  | 0x0444 => some bodyGtLinkSet
  | 0x0445 => some bodyGtMapGet
  | 0x0446 => some bodyGtStatus
  | 0x0501 => some bodySchTemplateSet
  | 0x0502 => some bodySchHopSet
  | 0x0503 => some bodySchSlotframeSet
  | 0x0504 => some bodySchSyncConfig
  | 0x0505 => some bodySchTimingConfig
  | 0x0506 => some bodySchLanternConfig
  | 0x0510 => some bodySchCellAdd
  | 0x0511 => some bodySchCellDelete
  | 0x0512 => some bodySchCellQuery
  | _ => none

/-- The bodies of the commands, by opcode: part 2 (R126). -/
def bodyTable2 (op : Nat) : Option (Goruz → State → Res) :=
  match op with
  | 0x0513 => some bodySchNbrTimingSet
  | 0x0514 => some bodySchNbrTimingGet
  | 0x0515 => some bodySchAsnSet
  | 0x0516 => some bodySchRescan
  | 0x0517 => some bodySchStatus
  | 0x0601 => some bodyNbrAdd
  | 0x0602 => some bodyNbrRemove
  | 0x0603 => some bodyNbrSet
  | 0x0604 => some bodyNbrGet
  | 0x0605 => some bodyNbrFind
  | 0x0606 => some bodyNbrStats
  | 0x0607 => some bodyNbrRestore
  | 0x0608 => some bodyNbrPin
  | 0x0609 => some bodyStoreConfig
  | 0x060A => some bodyStoreStatus
  | 0x06C0 => some bodyMacConfig
  | 0x06C1 => some bodyMacStatus
  | 0x06C2 => some bodyMacFtqStatus
  | 0x0701 => some bodyKeyConfig
  | 0x0702 => some bodyKeyIngressWrite
  | 0x0703 => some bodyKeyIngressClear
  | 0x0704 => some bodyKeyParcelSubmit
  | 0x0705 => some bodyKeyStatus
  | 0x0706 => some bodyKeyInfo
  | 0x0707 => some bodyTamperStatus
  | 0x0708 => some bodyCipherStatus
  | 0x0801 => some bodyFwdConfig
  | 0x0802 => some bodyFwdDscpMap
  | 0x0803 => some bodyFwdContextSet
  | 0x0810 => some bodyFwdRouteAdd
  | 0x0811 => some bodyFwdRouteDelete
  | 0x0812 => some bodyFwdRouteGet
  | 0x0813 => some bodyFwdRouteFlush
  | 0x0820 => some bodyFwdPrefixAdd
  | 0x0821 => some bodyFwdPrefixDelete
  | _ => none

/-- The bodies of the commands, by opcode: part 3 (R126). -/
def bodyTable3 (op : Nat) : Option (Goruz → State → Res) :=
  match op with
  | 0x0822 => some bodyFwdPrefixGet
  | 0x0823 => some bodyFwdLookup
  | 0x0830 => some bodyFwdStatus
  | 0x0901 => some bodyTimeConfig
  | 0x0902 => some bodyTimeStatus
  | 0x0903 => some bodyTimeSet
  | 0x0904 => some bodyTimeOffset
  | 0x0905 => some bodyTimeAccept
  | 0x0906 => some bodyTimeTsqFetch
  | 0x0907 => some bodyTimeRegRead
  | 0x0908 => some bodyTimeRegWrite
  | 0x0909 => some bodyAadcTrimSet
  | 0x090A => some bodyAadcTrimGet
  | 0x0A01 => some bodyDiagLaneTest
  | 0x0A10 => some bodyLogStatus
  | 0x0A11 => some bodyLogCountersGet
  | 0x0A12 => some bodyLogHistGet
  | 0x0A13 => some bodyLogClassGet
  | 0x0A14 => some bodyLogJournalGet
  | 0x0A15 => some bodyLogFlush
  | 0x0B01 => some bodyClusterConfig
  | 0x0B02 => some bodyTorchConfig
  | 0x0B03 => some bodyClusterStatus
  | 0x0B04 => some bodyTorchStatus
  | 0x0B05 => some bodyTorchControl
  | 0x0B06 => some bodyTorchResync
  | 0x0C01 => some bodyTrfClassConfig
  | 0x0C02 => some bodyTrfProfileSet
  | 0x0C03 => some bodyTrfQuotaSet
  | 0x0C04 => some bodyTrfPoliceSet
  | 0x0C05 => some bodyTrfSchedConfig
  | 0x0C10 => some bodyTrfFlowSet
  | 0x0C11 => some bodyTrfFlowGet
  | 0x0C12 => some bodyTrfHistGet
  | 0x0C13 => some bodyTrfStatus
  | _ => none

/-- The body of the command that owns an opcode (R126). -/
def bodyOf (op : Nat) : Option (Goruz → State → Res) :=
  bodyTable0 op <|> bodyTable1 op <|> bodyTable2 op <|> bodyTable3 op

end Sys2Proof.Machine
end

