-- ==== Sys2Proof/Machine/Taken.lean ====
section
/-! DEFINITION. The control processor takes complete commands from the lanes (R122, R125, R127, R128). -/

namespace Sys2Proof.Machine
open Sys2Proof

/-- A lane whose complete command can start: nothing executes on it, and the response of the latest command is written (R120, R127). -/
def canStart (s : State) (n : Nat) : Bool :=
  let l := lane s n
  laneServed n s && !activating s && l.ex.isNone && respWritten l && l.ready.isSome

/-- The command that waits on a lane starts (R125). One whose words stopped arriving is answered with GZ_BAD_LENGTH (R123). -/
def startCommand (env : Env) (n : Fin 4) (s : State) : State :=
  match (lane s n).ready with
  | none => s
  | some ws =>
    let s := setLane n { lane s n with ready := none } s
    let w := wAt ws 0
    let tag : Byte := BitVec.ofNat 8 (fieldOf w 31 24)
    let op := fieldOf w 15 0
    if ws.length != fieldOf w 23 16 + 1 then respond n tag .badLength [] s
    else match bodyOf op with
      | some f => runCommand op f { lane := n, tag := tag, words := ws.drop 1, env := env } s
      | none => respond n tag .badOpcode [] { s with lastLane := n.val }

/-- COMMAND_TAKEN (R128): round-robin, starting after the lane taken last. -/
def execCommandTaken (env : Env) (s : State) : Host.Outcome State Fault Refusal :=
  let s1 := [0, 1, 2, 3].foldl (fun s n => drain n s) s
  let order := ([1, 2, 3, 4] : List Nat).map (fun i => (⟨(s1.lastLane + i) % 4, Nat.mod_lt _ (by decide)⟩ : Fin 4))
  match order.find? (fun (n : Fin 4) => canStart s1 n.val) with
  | none => done s s1
  | some n =>
    let s2 := startCommand env n (wake (laneWakeSrc n) 1 s1)
    done s (drain n s2)

end Sys2Proof.Machine
end

