-- ==== Sys2Proof/Machine/Dispatch.lean ====
section
/-! DEFINITION. One arm per command: the direct call of its meaning. -/

namespace Sys2Proof.Machine
open Sys2Proof

/-- The effect of a command on everything but the queue. -/
def exec (i : Instr) (s : State) : Host.Outcome State Fault Refusal :=
  match i with
  | .resetNFall lowNs => Sys2Proof.Machine.execResetNFall lowNs s
  | .startSequence e => Sys2Proof.Machine.execStartSequence e s
  | .watchdogExpiry ms => Sys2Proof.Machine.execWatchdogExpiry ms s
  | .supplyWarning r => Sys2Proof.Machine.execSupplyWarning r s
  | .supplyRecovered r minMv => Sys2Proof.Machine.execSupplyRecovered r minMv s
  | .txHoldEnd => Sys2Proof.Machine.execTxHoldEnd s
  | .supplyResetThreshold r => Sys2Proof.Machine.execSupplyResetThreshold r s
  | .vddAonPowerOnReset => Sys2Proof.Machine.execVddAonPowerOnReset s
  | .bankIsolated => Sys2Proof.Machine.execBankIsolated s
  | .bankRestored => Sys2Proof.Machine.execBankRestored s
  | .ddrRailLoss r => Sys2Proof.Machine.execDdrRailLoss r s
  | .ddrRailRecovery r wakes => Sys2Proof.Machine.execDdrRailRecovery r wakes s
  | .wickBrownout => Sys2Proof.Machine.execWickBrownout s
  | .referenceLost => Sys2Proof.Machine.execReferenceLost s
  | .referenceRestored => Sys2Proof.Machine.execReferenceRestored s
  | .xtal32Fail => Sys2Proof.Machine.execXtal32Fail s
  | .domainWake d src => Sys2Proof.Machine.execDomainWake d src s
  | .wakeStepTimeout d st src => Sys2Proof.Machine.execWakeStepTimeout d st src s
  | .wakeRetry d => Sys2Proof.Machine.execWakeRetry d s
  | .pllLockTimeout p src => Sys2Proof.Machine.execPllLockTimeout p src s
  | .domainStop d => Sys2Proof.Machine.execDomainStop d s
  | .quiesceNoAnswer d => Sys2Proof.Machine.execQuiesceNoAnswer d s
  | .idleHoldExpiry d => Sys2Proof.Machine.execIdleHoldExpiry d s
  | .pwrStatus g => Sys2Proof.Machine.execPwrStatus g s
  | .pwrSleepSetDefine g => Sys2Proof.Machine.execPwrSleepSetDefine g s
  | .pwrSleepEnter g => Sys2Proof.Machine.execPwrSleepEnter g s
  | .pwrSleepExit g => Sys2Proof.Machine.execPwrSleepExit g s
  | .pwrWake g => Sys2Proof.Machine.execPwrWake g s
  | .pwrWakeSource g => Sys2Proof.Machine.execPwrWakeSource g s
  | .pwrDomainRetry g => Sys2Proof.Machine.execPwrDomainRetry g s
  | .pwrRefResume g => Sys2Proof.Machine.execPwrRefResume g s
  | .cfgCommit g => Sys2Proof.Machine.execCfgCommit g s
  | .commitInstant => Sys2Proof.Machine.execCommitInstant s
  | .cfgDiscard g => Sys2Proof.Machine.execCfgDiscard g s
  | .cfgStatus g => Sys2Proof.Machine.execCfgStatus g s
  | .cfgImageSave g => Sys2Proof.Machine.execCfgImageSave g s
  | .cfgImageWrite g => Sys2Proof.Machine.execCfgImageWrite g s
  | .cfgImageFinish g => Sys2Proof.Machine.execCfgImageFinish g s
  | .sysGateStatus g => Sys2Proof.Machine.execSysGateStatus g s
  | .sysGateOpen g => Sys2Proof.Machine.execSysGateOpen g s
  | .sysGateClose g => Sys2Proof.Machine.execSysGateClose g s
  | .sysInfo g => Sys2Proof.Machine.execSysInfo g s
  | .sysReset g => Sys2Proof.Machine.execSysReset g s
  | .sysEcho g => Sys2Proof.Machine.execSysEcho g s
  | .sysLaneStatus g => Sys2Proof.Machine.execSysLaneStatus g s
  | .sysLaneConfig g => Sys2Proof.Machine.execSysLaneConfig g s
  | .sysEventFetch g => Sys2Proof.Machine.execSysEventFetch g s
  | .diagLaneTest g => Sys2Proof.Machine.execDiagLaneTest g s
  | .laneCommandPush n ws => Sys2Proof.Machine.execLaneCommandPush n ws s
  | .laneResponsePop n es => Sys2Proof.Machine.execLaneResponsePop n es s
  | .laneMark n => Sys2Proof.Machine.execLaneMark n s
  | .laneRewind n => Sys2Proof.Machine.execLaneRewind n s
  | .laneRelease n => Sys2Proof.Machine.execLaneRelease n s
  | .laneResync n => Sys2Proof.Machine.execLaneResync n s
  | .commandAssemblyTimeout n => Sys2Proof.Machine.execCommandAssemblyTimeout n s
  | .commandTaken env => Sys2Proof.Machine.execCommandTaken env s
  | .ftqPatternTest n resp bad => Sys2Proof.Machine.execFtqPatternTest n resp bad s
  | .spiCsFall => Sys2Proof.Machine.execSpiCsFall s
  | .writeCmd count ws => Sys2Proof.Machine.execWriteCmd count ws s
  | .readResp count es => Sys2Proof.Machine.execReadResp count es s
  | .readStat count => Sys2Proof.Machine.execReadStat count s
  | .writeCtrl count w => Sys2Proof.Machine.execWriteCtrl count w s
  | .spiBadType type count => Sys2Proof.Machine.execSpiBadType type count s
  | .registerWrite addr w be => Sys2Proof.Machine.execRegisterWrite addr w be s
  | .rcRegisterRead addr => Sys2Proof.Machine.execRcRegisterRead addr s
  | .latchedPairRead addr => Sys2Proof.Machine.execLatchedPairRead addr s
  | .rfPortConfig g => Sys2Proof.Machine.execRfPortConfig g s
  | .rfPortStatus g => Sys2Proof.Machine.execRfPortStatus g s
  | .rfRampSet g => Sys2Proof.Machine.execRfRampSet g s
  | .rfFemSet g => Sys2Proof.Machine.execRfFemSet g s
  | .rfGainSet g => Sys2Proof.Machine.execRfGainSet g s
  | .rfTrimSet g => Sys2Proof.Machine.execRfTrimSet g s
  | .rfTrimGet g => Sys2Proof.Machine.execRfTrimGet g s
  | .rfSynthCal g => Sys2Proof.Machine.execRfSynthCal g s
  | .rfTunerSearch g => Sys2Proof.Machine.execRfTunerSearch g s
  | .rfTestTone g => Sys2Proof.Machine.execRfTestTone g s
  | .testToneEnd e => Sys2Proof.Machine.execTestToneEnd e s
  | .gainStepDown p above => Sys2Proof.Machine.execGainStepDown p above s
  | .gainStepUp p lowNs => Sys2Proof.Machine.execGainStepUp p lowNs s
  | .portTempReading p temp => Sys2Proof.Machine.execPortTempReading p temp s
  | .calibrationStart p => Sys2Proof.Machine.execCalibrationStart p s
  | .calibrationForce p => Sys2Proof.Machine.execCalibrationForce p s
  | .synthLock p temp => Sys2Proof.Machine.execSynthLock p temp s
  | .synthLockTimeout p => Sys2Proof.Machine.execSynthLockTimeout p s
  | .synthUnlock p => Sys2Proof.Machine.execSynthUnlock p s
  | .vswrMeasurement e vswr => Sys2Proof.Machine.execVswrMeasurement e vswr s
  | .tunerSearchRun p reads => Sys2Proof.Machine.execTunerSearchRun p reads s
  | .txPreparationPoint r => Sys2Proof.Machine.execTxPreparationPoint r s
  | .femSwitchToTx e => Sys2Proof.Machine.execFemSwitchToTx e s
  | .rampUpStart e => Sys2Proof.Machine.execRampUpStart e s
  | .firstChip e => Sys2Proof.Machine.execFirstChip e s
  | .lastChip e => Sys2Proof.Machine.execLastChip e s
  | .driverSilent e => Sys2Proof.Machine.execDriverSilent e s
  | .ackWindowExpiry => Sys2Proof.Machine.execAckWindowExpiry s
  | .ackReceived n ok0 ok1 => Sys2Proof.Machine.execAckReceived n ok0 ok1 s
  | .preambleDetection n slot own ago => Sys2Proof.Machine.execPreambleDetection n slot own ago s
  | .captureTest n level => Sys2Proof.Machine.execCaptureTest n level s
  | .sfdNotFound n c => Sys2Proof.Machine.execSfdNotFound n c s
  | .sfdTimestamp n c coded level afc => Sys2Proof.Machine.execSfdTimestamp n c coded level afc s
  | .phrCheck n c h => Sys2Proof.Machine.execPhrCheck n c h s
  | .frameEnd n c fcsOk => Sys2Proof.Machine.execFrameEnd n c fcsOk s
  | .sicStart n => Sys2Proof.Machine.execSicStart n s
  | .sicCatchUp n => Sys2Proof.Machine.execSicCatchUp n s
  | .sicDeadline n => Sys2Proof.Machine.execSicDeadline n s
  | .checkpointSave n => Sys2Proof.Machine.execCheckpointSave n s
  | .blankingStart n => Sys2Proof.Machine.execBlankingStart n s
  | .blankingEnd n => Sys2Proof.Machine.execBlankingEnd n s
  | .listenerRetune => Sys2Proof.Machine.execListenerRetune s
  | .retuneLatestStart n => Sys2Proof.Machine.execRetuneLatestStart n s
  | .contextStuck n c => Sys2Proof.Machine.execContextStuck n c s
  | .mhrParse n f => Sys2Proof.Machine.execMhrParse n f s
  | .residencyLimit n => Sys2Proof.Machine.execResidencyLimit n s
  | .parkedRecordResume n => Sys2Proof.Machine.execParkedRecordResume n s
  | .lateExpired n => Sys2Proof.Machine.execLateExpired n s
  | .recordTrailer n lqi snr dev => Sys2Proof.Machine.execRecordTrailer n lqi snr dev s
  | .micVerified n ok0 ok1 => Sys2Proof.Machine.execMicVerified n ok0 ok1 s
  | .ackPreparationPoint n => Sys2Proof.Machine.execAckPreparationPoint n s
  | .cipherJobResume n => Sys2Proof.Machine.execCipherJobResume n s
  | .slotBoundary => Sys2Proof.Machine.execSlotBoundary s
  | .lookaheadEntry => Sys2Proof.Machine.execLookaheadEntry s
  | .cellOffer => Sys2Proof.Machine.execCellOffer s
  | .txAdmission => Sys2Proof.Machine.execTxAdmission s
  | .channelAssignment => Sys2Proof.Machine.execChannelAssignment s
  | .contactPlacement => Sys2Proof.Machine.execContactPlacement s
  | .wakeupSequenceStart h => Sys2Proof.Machine.execWakeupSequenceStart h s
  | .rendezvous h => Sys2Proof.Machine.execRendezvous h s
  | .ebMissed => Sys2Proof.Machine.execEbMissed s
  | .scheduleRebase => Sys2Proof.Machine.execScheduleRebase s
  | .schTemplateSet g => Sys2Proof.Machine.execSchTemplateSet g s
  | .schHopSet g => Sys2Proof.Machine.execSchHopSet g s
  | .schSlotframeSet g => Sys2Proof.Machine.execSchSlotframeSet g s
  | .schSyncConfig g => Sys2Proof.Machine.execSchSyncConfig g s
  | .schTimingConfig g => Sys2Proof.Machine.execSchTimingConfig g s
  | .schLanternConfig g => Sys2Proof.Machine.execSchLanternConfig g s
  | .schCellAdd g => Sys2Proof.Machine.execSchCellAdd g s
  | .schCellDelete g => Sys2Proof.Machine.execSchCellDelete g s
  | .schCellQuery g => Sys2Proof.Machine.execSchCellQuery g s
  | .schNbrTimingSet g => Sys2Proof.Machine.execSchNbrTimingSet g s
  | .schNbrTimingGet g => Sys2Proof.Machine.execSchNbrTimingGet g s
  | .schAsnSet g => Sys2Proof.Machine.execSchAsnSet g s
  | .schRescan g => Sys2Proof.Machine.execSchRescan g s
  | .schStatus g => Sys2Proof.Machine.execSchStatus g s
  | .planListenerSet g => Sys2Proof.Machine.execPlanListenerSet g s
  | .planEmitterBind g => Sys2Proof.Machine.execPlanEmitterBind g s
  | .planChannelsSet g => Sys2Proof.Machine.execPlanChannelsSet g s
  | .planStatus g => Sys2Proof.Machine.execPlanStatus g s
  | .planCheck g => Sys2Proof.Machine.execPlanCheck g s
  | .planReach g => Sys2Proof.Machine.execPlanReach g s
  | .lstStatus g => Sys2Proof.Machine.execLstStatus g s
  | .phyGtConfig g => Sys2Proof.Machine.execPhyGtConfig g s
  | .phyTsTrimSet g => Sys2Proof.Machine.execPhyTsTrimSet g s
  | .phyTsCorrGet g => Sys2Proof.Machine.execPhyTsCorrGet g s
  | .phyFskConfig g => Sys2Proof.Machine.execPhyFskConfig g s
  | .gtLinkSet g => Sys2Proof.Machine.execGtLinkSet g s
  | .gtMapGet g => Sys2Proof.Machine.execGtMapGet g s
  | .gtStatus g => Sys2Proof.Machine.execGtStatus g s
  | .mapTableEntryFree id check => Sys2Proof.Machine.execMapTableEntryFree id check s
  | .macConfig g => Sys2Proof.Machine.execMacConfig g s
  | .macStatus g => Sys2Proof.Machine.execMacStatus g s
  | .macFtqStatus g => Sys2Proof.Machine.execMacFtqStatus g s
  | .berthFetchComplete h env => Sys2Proof.Machine.execBerthFetchComplete h env s
  | .evictionSweep => Sys2Proof.Machine.execEvictionSweep s
  | .writebackComplete h => Sys2Proof.Machine.execWritebackComplete h s
  | .pageSpill => Sys2Proof.Machine.execPageSpill s
  | .pageFillComplete w poisoned => Sys2Proof.Machine.execPageFillComplete w poisoned s
  | .dmaSpilledPage r prog => Sys2Proof.Machine.execDmaSpilledPage r prog s
  | .persistIntervalWrite h => Sys2Proof.Machine.execPersistIntervalWrite h s
  | .recordPoisoned h backing lasting => Sys2Proof.Machine.execRecordPoisoned h backing lasting s
  | .ddrResetRebuild => Sys2Proof.Machine.execDdrResetRebuild s
  | .nbrAdd g => Sys2Proof.Machine.execNbrAdd g s
  | .nbrRemove g => Sys2Proof.Machine.execNbrRemove g s
  | .nbrSet g => Sys2Proof.Machine.execNbrSet g s
  | .nbrGet g => Sys2Proof.Machine.execNbrGet g s
  | .nbrFind g => Sys2Proof.Machine.execNbrFind g s
  | .nbrStats g => Sys2Proof.Machine.execNbrStats g s
  | .nbrRestore g => Sys2Proof.Machine.execNbrRestore g s
  | .nbrPin g => Sys2Proof.Machine.execNbrPin g s
  | .storeConfig g => Sys2Proof.Machine.execStoreConfig g s
  | .storeStatus g => Sys2Proof.Machine.execStoreStatus g s
  | .creditRefill => Sys2Proof.Machine.execCreditRefill s
  | .urgentEntry => Sys2Proof.Machine.execUrgentEntry s
  | .samplerVisit => Sys2Proof.Machine.execSamplerVisit s
  | .ringFillSample => Sys2Proof.Machine.execRingFillSample s
  | .dispatchItemStart core wait => Sys2Proof.Machine.execDispatchItemStart core wait s
  | .taskEventFlag item flag => Sys2Proof.Machine.execTaskEventFlag item flag s
  | .flowCoreFault core delivered => Sys2Proof.Machine.execFlowCoreFault core delivered s
  | .trfClassConfig g => Sys2Proof.Machine.execTrfClassConfig g s
  | .trfProfileSet g => Sys2Proof.Machine.execTrfProfileSet g s
  | .trfQuotaSet g => Sys2Proof.Machine.execTrfQuotaSet g s
  | .trfPoliceSet g => Sys2Proof.Machine.execTrfPoliceSet g s
  | .trfSchedConfig g => Sys2Proof.Machine.execTrfSchedConfig g s
  | .trfFlowSet g => Sys2Proof.Machine.execTrfFlowSet g s
  | .trfFlowGet g => Sys2Proof.Machine.execTrfFlowGet g s
  | .trfHistGet g => Sys2Proof.Machine.execTrfHistGet g s
  | .trfStatus g => Sys2Proof.Machine.execTrfStatus g s
  | .packetDecision noPath retry => Sys2Proof.Machine.execPacketDecision noPath retry s
  | .fragmentReceived => Sys2Proof.Machine.execFragmentReceived s
  | .reassemblyTimeout handle tag size => Sys2Proof.Machine.execReassemblyTimeout handle tag size s
  | .reassemblySpill => Sys2Proof.Machine.execReassemblySpill s
  | .agerVisit addr hit => Sys2Proof.Machine.execAgerVisit addr hit s
  | .fwdConfig g => Sys2Proof.Machine.execFwdConfig g s
  | .fwdDscpMap g => Sys2Proof.Machine.execFwdDscpMap g s
  | .fwdContextSet g => Sys2Proof.Machine.execFwdContextSet g s
  | .fwdRouteAdd g => Sys2Proof.Machine.execFwdRouteAdd g s
  | .fwdRouteDelete g => Sys2Proof.Machine.execFwdRouteDelete g s
  | .fwdRouteGet g => Sys2Proof.Machine.execFwdRouteGet g s
  | .fwdRouteFlush g => Sys2Proof.Machine.execFwdRouteFlush g s
  | .fwdPrefixAdd g => Sys2Proof.Machine.execFwdPrefixAdd g s
  | .fwdPrefixDelete g => Sys2Proof.Machine.execFwdPrefixDelete g s
  | .fwdPrefixGet g => Sys2Proof.Machine.execFwdPrefixGet g s
  | .fwdLookup g => Sys2Proof.Machine.execFwdLookup g s
  | .fwdStatus g => Sys2Proof.Machine.execFwdStatus g s
  | .keyConfig g => Sys2Proof.Machine.execKeyConfig g s
  | .keyIngressWrite g => Sys2Proof.Machine.execKeyIngressWrite g s
  | .keyIngressDataWrite w => Sys2Proof.Machine.execKeyIngressDataWrite w s
  | .keyIngressClear g => Sys2Proof.Machine.execKeyIngressClear g s
  | .keyParcelSubmit g => Sys2Proof.Machine.execKeyParcelSubmit g s
  | .keyStatus g => Sys2Proof.Machine.execKeyStatus g s
  | .keyInfo g => Sys2Proof.Machine.execKeyInfo g s
  | .tamperStatus g => Sys2Proof.Machine.execTamperStatus g s
  | .cipherStatus g => Sys2Proof.Machine.execCipherStatus g s
  | .keyCacheMiss entry => Sys2Proof.Machine.execKeyCacheMiss entry s
  | .leaseExtension entry => Sys2Proof.Machine.execLeaseExtension entry s
  | .knownAnswerTest e fails => Sys2Proof.Machine.execKnownAnswerTest e fails s
  | .tamperAlarm src => Sys2Proof.Machine.execTamperAlarm src s
  | .timeConfig g => Sys2Proof.Machine.execTimeConfig g s
  | .timeStatus g => Sys2Proof.Machine.execTimeStatus g s
  | .timeSet g => Sys2Proof.Machine.execTimeSet g s
  | .timeOffset g => Sys2Proof.Machine.execTimeOffset g s
  | .timeAccept g => Sys2Proof.Machine.execTimeAccept g s
  | .timeTsqFetch g => Sys2Proof.Machine.execTimeTsqFetch g s
  | .timeRegRead g => Sys2Proof.Machine.execTimeRegRead g s
  | .timeRegWrite g => Sys2Proof.Machine.execTimeRegWrite g s
  | .aadcTrimSet g => Sys2Proof.Machine.execAadcTrimSet g s
  | .aadcTrimGet g => Sys2Proof.Machine.execAadcTrimGet g s
  | .timeSyncEvent offset => Sys2Proof.Machine.execTimeSyncEvent offset s
  | .sourceLoss => Sys2Proof.Machine.execSourceLoss s
  | .masterChange gm => Sys2Proof.Machine.execMasterChange gm s
  | .ptpMessage m => Sys2Proof.Machine.execPtpMessage m s
  | .triggerArm k w => Sys2Proof.Machine.execTriggerArm k w s
  | .triggerDisarm k w => Sys2Proof.Machine.execTriggerDisarm k w s
  | .triggerFiring k => Sys2Proof.Machine.execTriggerFiring k s
  | .ppsInEdge => Sys2Proof.Machine.execPpsInEdge s
  | .aadcConversion n raw => Sys2Proof.Machine.execAadcConversion n raw s
  | .timerTick src => Sys2Proof.Machine.execTimerTick src s
  | .timerCapture t rising => Sys2Proof.Machine.execTimerCapture t rising s
  | .tmrCfgWrite n w => Sys2Proof.Machine.execTmrCfgWrite n w s
  | .tmrCountWrite n w => Sys2Proof.Machine.execTmrCountWrite n w s
  | .tmrReloadWrite n w => Sys2Proof.Machine.execTmrReloadWrite n w s
  | .tmrCompareWrite n c w => Sys2Proof.Machine.execTmrCompareWrite n c w s
  | .tmrQueuePop k => Sys2Proof.Machine.execTmrQueuePop k s
  | .wideCounterAccess k hi w => Sys2Proof.Machine.execWideCounterAccess k hi w s
  | .tsqPop => Sys2Proof.Machine.execTsqPop s
  | .gpioSetWrite w => Sys2Proof.Machine.execGpioSetWrite w s
  | .gpioClrWrite w => Sys2Proof.Machine.execGpioClrWrite w s
  | .gpioEdge j level => Sys2Proof.Machine.execGpioEdge j level s
  | .pcieReset cause => Sys2Proof.Machine.execPcieReset cause s
  | .pcieD3hot enter => Sys2Proof.Machine.execPcieD3hot enter s
  | .ringTailWrite r w => Sys2Proof.Machine.execRingTailWrite r w s
  | .ringEnable r w => Sys2Proof.Machine.execRingEnable r w s
  | .packetDescriptor r ws p noPath retry => Sys2Proof.Machine.execPacketDescriptor r ws p noPath retry s
  | .immediateDescriptor r ws m => Sys2Proof.Machine.execImmediateDescriptor r ws m s
  | .cipherDescriptor r ws data tagOk => Sys2Proof.Machine.execCipherDescriptor r ws data tagOk s
  | .deliveryWrite r ws => Sys2Proof.Machine.execDeliveryWrite r ws s
  | .eventRecordWrite => Sys2Proof.Machine.execEventRecordWrite s
  | .rateLimitSecondEnd event scope => Sys2Proof.Machine.execRateLimitSecondEnd event scope s
  | .dmaReadFailure r ws => Sys2Proof.Machine.execDmaReadFailure r ws s
  | .ringInterrupt r => Sys2Proof.Machine.execRingInterrupt r s
  | .ethFrameReceive e f => Sys2Proof.Machine.execEthFrameReceive e f s
  | .ethLinkChange e up speed => Sys2Proof.Machine.execEthLinkChange e up speed s
  | .ddrTraining fails mib => Sys2Proof.Machine.execDdrTraining fails mib s
  | .ddrScrubPass => Sys2Proof.Machine.execDdrScrubPass s
  | .ethConfig g => Sys2Proof.Machine.execEthConfig g s
  | .ethGwSet g => Sys2Proof.Machine.execEthGwSet g s
  | .ethStatus g => Sys2Proof.Machine.execEthStatus g s
  | .ethMdio g => Sys2Proof.Machine.execEthMdio g s
  | .redundConfig g => Sys2Proof.Machine.execRedundConfig g s
  | .ddrConfig g => Sys2Proof.Machine.execDdrConfig g s
  | .ddrStatus g => Sys2Proof.Machine.execDdrStatus g s
  | .hostConfig g => Sys2Proof.Machine.execHostConfig g s
  | .hello e rx => Sys2Proof.Machine.execHello e rx s
  | .yowiobTime e rx => Sys2Proof.Machine.execYowiobTime e rx s
  | .delayReq e rx => Sys2Proof.Machine.execDelayReq e rx s
  | .delayResp e h t2 t3 => Sys2Proof.Machine.execDelayResp e h t2 t3 s
  | .mirror rx => Sys2Proof.Machine.execMirror rx s
  | .mirrorAck h b => Sys2Proof.Machine.execMirrorAck h b s
  | .lane rx => Sys2Proof.Machine.execLane rx s
  | .laneFrameRetry => Sys2Proof.Machine.execLaneFrameRetry s
  | .mirrorTimeout => Sys2Proof.Machine.execMirrorTimeout s
  | .arbitrationRound own => Sys2Proof.Machine.execArbitrationRound own s
  | .roundEnd peer => Sys2Proof.Machine.execRoundEnd peer s
  | .takeoverInstant => Sys2Proof.Machine.execTakeoverInstant s
  | .torchPinFault => Sys2Proof.Machine.execTorchPinFault s
  | .clusterConfig g => Sys2Proof.Machine.execClusterConfig g s
  | .torchConfig g => Sys2Proof.Machine.execTorchConfig g s
  | .clusterStatus g => Sys2Proof.Machine.execClusterStatus g s
  | .torchStatus g => Sys2Proof.Machine.execTorchStatus g s
  | .torchControl g => Sys2Proof.Machine.execTorchControl g s
  | .torchResync g => Sys2Proof.Machine.execTorchResync g s
  | .errorEvent kind region index what => Sys2Proof.Machine.execErrorEvent kind region index what s
  | .selfTestStart kind index => Sys2Proof.Machine.execSelfTestStart kind index s
  | .selfTestOutcome kind index pass => Sys2Proof.Machine.execSelfTestOutcome kind index pass s
  | .regionEscalation kind index d pass => Sys2Proof.Machine.execRegionEscalation kind index d pass s
  | .logbookFullFlush => Sys2Proof.Machine.execLogbookFullFlush s
  | .logStatus g => Sys2Proof.Machine.execLogStatus g s
  | .logCountersGet g => Sys2Proof.Machine.execLogCountersGet g s
  | .logHistGet g => Sys2Proof.Machine.execLogHistGet g s
  | .logClassGet g => Sys2Proof.Machine.execLogClassGet g s
  | .logJournalGet g => Sys2Proof.Machine.execLogJournalGet g s
  | .logFlush g => Sys2Proof.Machine.execLogFlush g s
  | .updBegin g => Sys2Proof.Machine.execUpdBegin g s
  | .updWrite g => Sys2Proof.Machine.execUpdWrite g s
  | .updFinish g => Sys2Proof.Machine.execUpdFinish g s
  | .updActivate g => Sys2Proof.Machine.execUpdActivate g s
  | .activationPause dead => Sys2Proof.Machine.execActivationPause dead s
  | .updStatus g => Sys2Proof.Machine.execUpdStatus g s
  | .updAbort g => Sys2Proof.Machine.execUpdAbort g s
  | .jtagInstructionLoad j => Sys2Proof.Machine.execJtagInstructionLoad j s
  | .msixVectorUnmask v cfg => Sys2Proof.Machine.execMsixVectorUnmask v cfg s
  | .tamperAlarmConditionEnd src => Sys2Proof.Machine.execTamperAlarmConditionEnd src s
  | .supervisionFrameSend => Sys2Proof.Machine.execSupervisionFrameSend s
  | .partTemperatureMinuteCount temp => Sys2Proof.Machine.execPartTemperatureMinuteCount temp s
  | .pairSequenceTimeout => Sys2Proof.Machine.execPairSequenceTimeout s

end Sys2Proof.Machine
end

