-- ==== Sys2Proof/Safety.lean ====
section
/-! DEFINITION. What counts as a safe state and a safe step: the canonical form of the tables of registers, and the steps that end in a
next state. -/

namespace Sys2Proof.Machine
open Sys2Proof

/-- The register fields are held in canonical form: keys rising, no field listed at its reset value. -/
def State.regsWf (s : State) : Bool := tabWfN s.regs

/-- A step answers a next state. -/
def stepsOn (s : State) : Prop := ∃ t, step s = .next t

/-- The command answers a next state. -/
def completes (i : Instr) (s : State) : Prop := ∃ t, exec i s = .next t

/-- The one command that ends in a fault: a register access beyond BAR0. -/
def beyondBar0 : Instr → Bool
  | .registerWrite a _ _ => decide (0x1000000 ≤ a)
  | .rcRegisterRead a => decide (0x1000000 ≤ a)
  | .latchedPairRead a => decide (0x1000000 ≤ a)
  | _ => false

/-- The domains that `d` depends on, and those that these depend on, are on, and none of the first is blocked (R62). -/
def depsOn (d : Nat) (s : State) : Bool :=
  (Config.dom d).deps.all (fun e => domOn s e && !domDead s e && (Config.dom e).deps.all (domOn s))

/-- A domain that is off or in retention can be woken at once: it is present, what it depends on is on, no dip defers it, and neither
a rail nor the loss of the reference holds it (R54, R59, R64, R65). -/
def wakesAtOnce (d : Nat) (s : State) : Bool :=
  domPresent s d && (domState s d == 1 || domState s d == 2) && depsOn d s && !deferring s && !railsHold s d && !s.pwr.refLost

/-- The lane takes a whole command at once: it is reached and served, nothing stands before the command, no response of a resync is owed,
and KEEP_CPU is on (R110, R120, R122, R127). -/
def laneTakes (g : Goruz) (s : State) : Bool :=
  laneReached g.lane.val s && laneServed g.lane.val s && laneFree g.lane.val s && !(lane s g.lane.val).errDue
    && decide (g.words.length < 256) && domOn s 1

/-- A command with opcode `op` is taken, and steps 2 to 4 of R125 let it through. -/
def taken (op : Nat) (g : Goruz) (s : State) : Bool :=
  laneTakes g s && (judge g.lane.val op g.words.length s).isNone

/-- A command of the lane was taken last (R128). -/
def inLane (n : Nat) (s : State) : State := { s with lastLane := n }

/-- The queue and the fuse word are those of `s` (R43). -/
def atQueue (s t : State) : State := { t with pending := s.pending, fuse := s.fuse }

/-- The state with the response of a command written on its lane, which is the lane taken last (R124, R128). -/
def answered (g : Goruz) (st : Status) (ws : List Word) (s : State) : State :=
  respond g.lane.val g.tag st ws (inLane g.lane.val s)

/-- The state in which a command executes whose response comes at a later step (R127, R129). -/
def executing (op : Nat) (g : Goruz) (d : List Nat) (s : State) : State :=
  setLane g.lane.val { lane s g.lane.val with ex := some { opcode := op, tag := g.tag, data := d } }
    (inLane g.lane.val s)

end Sys2Proof.Machine
end

