-- ==== Sys2Proof/Certificates/Slice0/Obligations.lean ====
section
/-! DEFINITION. The statements about the model, for the provers. -/

namespace Sys2Proof.Claims
open Sys2Proof Sys2Proof.Machine

/-- The fuse word is one that Bryndafa issues (R43, R48): a part code with its grade, band set, listeners and emitters; as many
listener blocks and emitters present; the RF ports of the band set; and the NET resources and capacity of the grade. -/
def fuseIssued (f : Fuse) : Bool :=
  let c := bitsOf f.part 0 4
  let n := (c - 1) / 4
  let l := (c - 1) % 2
  let d := (c - 1) / 2 % 2
  decide (1 ≤ c) && decide (c ≤ 12) && bitsOf f.part 8 1 == l && bitsOf f.part 9 1 == d
    && bitsOf f.part 16 8 == 64 / 2 ^ n && bitsOf f.part 24 4 == 8 / 2 ^ n
    && (bitsSet (bitsOf f.air 0 8) 8).length == 8 / 2 ^ n && (bitsSet (bitsOf f.air 8 8) 8).length == 8 / 2 ^ n
    && bitsOf f.air 16 3 == (if d == 1 then 3 else 7)
    && bitsOf f.net 0 1 == 1 - l && bitsOf f.net 1 1 == 1 && bitsOf f.net 2 1 == 1 - l && bitsOf f.net 4 1 == 1 - l
    && bitsOf f.net 8 8 == (if l == 1 then 32 else 128)

/-- What the mark, rewind and release bits of one write make of a lane, applied as rewind, then release, then mark (R119). -/
def markBits (w : Word) (l : Lane) : Lane :=
  let a := if w.getLsbD 1 && l.mark then { l with resp := l.held ++ l.resp, held := [] } else l
  let b := if w.getLsbD 2 && a.mark then { a with held := [], mark := false } else a
  if w.getLsbD 0 then { b with mark := true, held := if b.mark then [] else b.held } else b

/-- A Goruz command `i` with opcode `op` answers at once the status, the words and the effect that `f` gives, wherever it is taken: `f`
meets the state in which its lane is the lane taken last (R125, R128), and neither the queue nor the fuse word changes. -/
def Answers (op : Nat) (i : Goruz → Instr) (f : Goruz → State → Status × List Word × State) : Prop :=
  ∀ (g : Goruz) (s : State), taken op g s = true →
    exec (i g) s = .next (atQueue s (respond g.lane.val g.tag (f g (inLane g.lane.val s)).1
      (f g (inLane g.lane.val s)).2.1 (f g (inLane g.lane.val s)).2.2))

/-- A command that may answer later: what its body comes to is answered now, or kept with the command that executes (R127, R129). -/
def Acts (op : Nat) (i : Goruz → Instr) (f : Goruz → State → Res) : Prop :=
  ∀ (g : Goruz) (s : State), taken op g s = true →
    exec (i g) s = .next (atQueue s (match f g (inLane g.lane.val s) with
      | .now st ws t => respond g.lane.val g.tag st ws t
      | .later d t => setLane g.lane.val { lane t g.lane.val with ex := some { opcode := op, tag := g.tag, data := d } } t))

/-- A command that reads: its words, or a status without words; beside its response nothing changes. -/
def Reads (op : Nat) (i : Goruz → Instr) (f : Goruz → State → Status × List Word) : Prop :=
  ∀ (g : Goruz) (s : State), taken op g s = true →
    exec (i g) s = .next (answered g (f g (inLane g.lane.val s)).1 (f g (inLane g.lane.val s)).2 s)

/-- A staged command: a resource that is absent, a word out of range and the staging of another lane turn it away in this order;
otherwise its words enter the staged copy under its parameter and resource, and its lane owns staging (R103, R104, R125). -/
def Stages (op id : Nat) (i : Goruz → Instr) (info : State → List Word → RecInfo) : Prop :=
  Answers op i (fun g s =>
    if (info s g.words).absent then (.absent, [], s)
    else if !(info s g.words).ok then (.badParam, [], s)
    else if stagingBusy g.lane.val s then (.busy, [], s)
    else (.ok, [], { s with cfg := { s.cfg with
      staged := tabPut s.cfg.staged (id + 65536 * (info s g.words).res) g.words, dirty := true, owner := some g.lane } }))

/-- The command answers a next state, of which `p` holds. -/
def Leads (i : Instr) (s : State) (p : State → Prop) : Prop := ∃ t, exec i s = .next t ∧ p t

/-- Between `s` and `t` one event was raised, at the keep time of `t`: with room its record is the last of the event queue; without
room it is lost and counted (R139, R464, R517). -/
def Raised (e : Nat × Nat) (items : List (Nat × Nat)) (s t : State) : Prop :=
  if s.evq.q.length < 256 then t.evq = { s.evq with q := s.evq.q ++ [⟨e.1, e.2, t.time.ns, packItems items % 2 ^ 96⟩] }
  else t.evq = { s.evq with lost := satAdd 16 s.evq.lost 1 }

/-- A counter advances by one, saturating at the maximum of its field, if the condition holds; otherwise it stays as it is (R202). -/
def Counts (f : Field) (i : Nat) (b : Bool) (s t : State) : Prop :=
  getF f i t = if b then satAdd f.w (getF f i s) 1 else getF f i s

/-- Every domain that the part has is on. -/
def allOn (s : State) : Bool := (List.range 26).all (fun d => !domPresent s d || domOn s d)

/-- The next value of a key's outgoing counter may be taken (R257, R404 to R408). -/
def counterReady (s : State) (e : Nat) : Bool := match takeCounter e s with
  | .got _ _ => true
  | _ => false

/-- Nothing keeps a transmission on a port from starting: its synthesiser is locked, no dip holds it, its line and the emitter gate are
open, and no domain it needs is held (R258). -/
def mayStart (s : State) (p : Nat) : Bool :=
  decide (p < 3) && getF F.airRfStatus_synth p s == 0 && !deferring s && txOpen s && emitterGate s && !([14, 15].any (heldDom s)) && !domDead s (3 + p)

/-- The servo's equations (R425) in exact numbers: the new integral term and the rate, from the old term, the offset and the time since the
previous sync in ns, and the time constant in s. -/
def servoTerms (i : Rat) (o : Int) (ns tc : Nat) : Rat × Rat :=
  let e : Rat := o / 10 ^ 9
  let j : Rat := i + e * (ns / 10 ^ 9) / (tc * tc)
  (j, max (-100 / 10 ^ 6) (min (100 / 10 ^ 6) (j + 2 * e / tc)))

/-- Every register field but those named reads the same in both states. -/
def RegsButFor (ks : List Nat) (s t : State) : Prop := ∀ (f : Field) (i : Nat), f.key i ∉ ks → getF f i t = getF f i s

/-- One record alone is in the FTQs, and it is not done. -/
def alone (s : State) (n : Nat) (r : Rec) : Prop := s.recs = [r] ∧ r.listener = n ∧ r.done = false ∧ r.freed = false

/-- A part reset with a cause (R36, R77, R82, R108, R422, R531): the cause and the count of resets are shown; of the other registers those
that a reset keeps hold, and every other reads its reset value; keep time, the fuse word, the slots, the persistent entries, the
vault, the journal and the logbook locations are as they were; the lanes, the records and what is on the air are gone. -/
def IsReset (cause : Nat) (s t : State) : Prop :=
  getF F.keepRstCause_cause 0 t = cause ∧ getF F.keepRstCause_resets 0 t = satAdd 16 (getF F.keepRstCause_resets 0 s) 1
  ∧ (∀ (f : Field) (i : Nat), resetKeeps (f.key i) = true → f.key i ≠ F.keepRstCause_resets.key 0 → getF f i t = getF f i s)
  ∧ (∀ (f : Field) (i : Nat), resetKeeps (f.key i) = false → f.key i ≠ F.keepRstCause_cause.key 0 → getF f i t = f.reset)
  ∧ t.fuse = s.fuse ∧ t.time.ns = s.time.ns ∧ t.cfg.slotA = s.cfg.slotA ∧ t.cfg.slotB = s.cfg.slotB ∧ t.cfg.committed = []
  ∧ t.persist = s.persist ∧ t.keys.vault = s.keys.vault ∧ t.diag.journal = s.diag.journal ∧ t.diag.locs = s.diag.locs
  ∧ t.lanes = [] ∧ t.recs = [] ∧ t.em = [] ∧ t.nbrs = [] ∧ t.evq.q = []

end Sys2Proof.Claims

open Sys2Proof Sys2Proof.Machine Sys2Proof.Claims

/-- Every step leaves the fuse word as it is (R43: neither firmware nor the host can change the fuses), so that an issued fuse word
stays issued; and it takes exactly the command at the front of the queue (the queue is the model's own, log 32). -/
def Obligations.FuseWordStaysIssued : Prop :=
  ∀ s t : State, fuseIssued s.fuse = true → step s = .next t →
    fuseIssued t.fuse = true ∧ t.fuse = s.fuse ∧ t.pending = s.pending.tail

/-- Right after a power-on reset the fuse word is issued, no command waits, no register differs from its reset value, keep time is
0, the gate is closed with no reason set, and the phase is boot ROM (R36, R48, R82, R108, R422).
The model's choices it rests on: logs 1, 2. -/
def Obligations.ResetStateIssued : Prop :=
  fuseIssued State.reset.fuse = true ∧ State.reset.pending = [] ∧ State.reset.regs = [] ∧ State.reset.time.ns = 0
    ∧ gateOpen State.reset = 0 ∧ gateReasons State.reset = 0 ∧ getF F.keepStart_phase 0 State.reset = 0
    ∧ (∀ d : Fin 26, getF F.keepPwrWsrc_code d.val State.reset = 1 ∧ getF F.keepPwrWsrc_seq d.val State.reset = 0)

/-- A step with a command at the front of the queue is that command on the rest (the queue is the model's own, log 32). -/
def Obligations.StepRunsTheFrontCommand : Prop :=
  ∀ (c : Instr) (q : List Instr) (s : State), step { s with pending := c :: q } = exec c { s with pending := q }

/-- With nothing waiting a step lets one cycle of PLL_CORE pass, and makes the reset of SYS_RESET when its millisecond has run (the
model's choice, log 3; R137). -/
def Obligations.EmptyQueueLetsACyclePass : Prop :=
  ∀ s : State, s.pending = [] →
    (s.start.resetDue = none → ∃ t, step s = .next t ∧ t.now = s.now + 1 ∧ t.regs = s.regs ∧ t.lanes = s.lanes) ∧
    (∀ d, s.start.resetDue = some d → s.now + 1 < d → ∃ t, step s = .next t ∧ t.now = s.now + 1 ∧ t.start = s.start) ∧
    (∀ d, s.start.resetDue = some d → d ≤ s.now + 1 → ∃ t, step s = .next t ∧ getF F.keepRstCause_cause 0 t = 6
      ∧ t.start.resetDue = none ∧ t.lanes = [])

/-- Every command of the table but a register access beyond BAR0 answers a next state; such an access faults.
The model's choices it rests on: logs 7, 9. -/
def Obligations.OnlyAccessesBeyondBar0Stop : Prop :=
  ∀ (i : Instr) (s : State), (beyondBar0 i = false → ∃ t, exec i s = .next t) ∧
    (beyondBar0 i = true → exec i s = .fault .outsideBar0)

/-- Steps 2 to 4 of R125: on a lane that takes the command, an opcode, a state or a length that they turn away gives the first
status that fails, a response without words, and no other effect. -/
def Obligations.TurnedAwayCommandHasNoEffect : Prop :=
  ∀ (i : Instr) (op : Nat) (g : Goruz) (s : State) (st : Status), i.goruz = some (op, g) → laneTakes g s = true →
    judge g.lane.val op g.words.length s = some st → exec i s = .next (answered g st [] s)

/-- What a response changes: the words of word 0 (STATUS, LEN, TAG) and of the response follow those in the response FTQ of the lane,
nothing executes on it any longer, and beside the lane only MSI-X messages are sent or held (R122, R124, R127, R130).
The model's choices it rests on: log 8. -/
def Obligations.ResponseIsAppended : Prop :=
  ∀ (g : Goruz) (st : Status) (ws : List Word) (s : State), (lane s g.lane.val).ex = none → (lane s g.lane.val).errDue = false →
    (lane (answered g st ws s) g.lane.val).resp
      = (lane s g.lane.val).resp ++ wordOf [(st.code, 0), (ws.length % 256, 16), (g.tag.toNat, 24)] :: ws
    ∧ (lane (answered g st ws s) g.lane.val).ex = none
    ∧ (∀ m, m ≠ g.lane.val → lane (answered g st ws s) m = lane s m)
    ∧ { answered g st ws s with lanes := s.lanes, lastLane := s.lastLane, outs := s.outs, net := s.net } = s

/-- Every staged command changes the staged copy alone, in the order of checks of R125, and its lane becomes the owner (R103, R104, R171,
R206, R235, R266, R305, R337, R360). -/
def Obligations.StagingCommandsChangeTheStagedCopy : Prop :=
  Stages 0x0401 0x0401 .rfPortConfig infoPortCfg
  ∧ Stages 0x0403 0x0402 .rfRampSet infoRamp
  ∧ Stages 0x0404 0x0403 .rfFemSet infoFem
  ∧ Stages 0x0405 0x0404 .rfGainSet infoGain
  ∧ Stages 0x0406 0x0405 .rfTrimSet infoTrim
  ∧ Stages 0x0420 0x0420 .planListenerSet infoListener
  ∧ Stages 0x0421 0x0421 .planEmitterBind infoEmitter
  ∧ Stages 0x0422 0x0422 .planChannelsSet infoChannels
  ∧ Stages 0x0440 0x0440 .phyGtConfig (fun _ => infoGt)
  ∧ Stages 0x0441 0x0441 .phyTsTrimSet infoTsTrim
  ∧ Stages 0x0443 0x0442 .phyFskConfig (fun _ => infoFsk)
  ∧ Stages 0x0501 0x0501 .schTemplateSet (fun _ => infoTemplate)
  ∧ Stages 0x0502 0x0502 .schHopSet (fun _ => infoHop)
  ∧ Stages 0x0503 0x0503 .schSlotframeSet (fun _ => infoSlotframe)
  ∧ Stages 0x0504 0x0504 .schSyncConfig (fun _ => infoSync)
  ∧ Stages 0x0505 0x0505 .schTimingConfig (fun _ => infoTiming)
  ∧ Stages 0x0506 0x0506 .schLanternConfig (fun _ => infoLantern)
  ∧ Stages 0x0609 0x0609 .storeConfig (fun _ => infoStore)
  ∧ Stages 0x06C0 0x06C0 .macConfig (fun _ => infoMac)
  ∧ Stages 0x0C01 0x0C01 .trfClassConfig (fun _ => infoTrfClass)
  ∧ Stages 0x0C02 0x0C02 .trfProfileSet (fun _ => infoTrfProfile)
  ∧ Stages 0x0C03 0x0C03 .trfQuotaSet (fun _ => infoTrfQuota)
  ∧ Stages 0x0C04 0x0C04 .trfPoliceSet (fun _ => infoTrfPolice)
  ∧ Stages 0x0C05 0x0C05 .trfSchedConfig (fun _ => infoTrfSched)
  ∧ Stages 0x0140 0x0140 .ethConfig infoEth
  ∧ Stages 0x0144 0x0144 .redundConfig infoRedund
  ∧ Stages 0x0145 0x0145 .ddrConfig infoDdr
  ∧ Stages 0x0147 0x0147 .hostConfig (fun _ => infoHost)
  ∧ Stages 0x0302 0x0302 .pwrSleepSetDefine infoSleepSet
  ∧ Stages 0x0701 0x0701 .keyConfig (fun _ => infoKey)
  ∧ Stages 0x0801 0x0801 .fwdConfig (fun _ => infoFwd)
  ∧ Stages 0x0802 0x0802 .fwdDscpMap (fun _ => infoDscp)
  ∧ Stages 0x0803 0x0803 .fwdContextSet (fun _ => infoContext)
  ∧ Stages 0x0901 0x0901 .timeConfig infoTime
  ∧ Stages 0x0909 0x0909 .aadcTrimSet (fun _ => infoAadc)
  ∧ Stages 0x0B01 0x0B01 .clusterConfig infoCluster
  ∧ Stages 0x0B02 0x0B02 .torchConfig infoTorch

/-- The status and read commands of system, configuration, power, radio, plan and PHY answer the registers and values they name, and
change nothing: the command's lane apart, the state is as it was. PWR_STATUS answers the masks of the domains on, in retention, off or FAILED, and
FAILED, absent domains in none of them, the supply and clock bits as the registers hold them, and the active sleep set.
The model's choices it rests on: logs 2, 70, 75, 86. -/
def Obligations.SystemPowerAndRadioReads : Prop :=
  Reads 0x0101 .sysInfo (fun _ s => (.ok, ([w32 (capPart s), w32 (capAir s), w32 (capNet s)] ++
    (if s.pwr.mramAtStart then List.replicate 12 0 else
      [w32 (s.upd.versions.getD 0 0 % 2 ^ 24), w32 s.upd.active.2, wordAt Config.serialNumber 0, wordAt Config.serialNumber 1]
        ++ (List.range 8).map (wordAt (identityHash s))))))
  ∧ Reads 0x0103 .sysEcho (fun g _ => (.ok, g.words))
  ∧ Reads 0x0104 .sysLaneStatus (fun g s =>
      if !lanePresent s (gf g 1 1 0) then (.absent, [])
      else if !onlyFields g.words [[(1, 0)]] then (.badParam, [])
      else (.ok, [laneStatW s (gf g 1 1 0), laneCtrlW s (gf g 1 1 0), laneLimitsW s (gf g 1 1 0), laneEccW s (gf g 1 1 0),
        laneOvrW s (gf g 1 1 0), laneDiscardW s (gf g 1 1 0)]))
  ∧ Reads 0x0122 .cfgStatus (fun _ s => (.ok, [startW s, cfgW s, w32 (seqInUse s),
      w32 (if (checkSlot s (slotOf s (otherSlot s)) true).valid then (checkSlot s (slotOf s (otherSlot s)) true).seq else 0)]))
  ∧ Reads 0x0126 .sysGateStatus (fun _ s => (.ok, [gateW s]))
  ∧ Reads 0x0306 .pwrWakeSource (fun g s =>
      if gf g 1 4 0 < 26 && !domPresent s (gf g 1 4 0) then (.absent, [])
      else if !onlyFields g.words [[(4, 0)]] || 25 < gf g 1 4 0 then (.badParam, [])
      else (.ok, [wordOf [(getF F.keepPwrWsrc_code (gf g 1 4 0) s, 0), (getF F.keepPwrWsrc_seq (gf g 1 4 0) s, 16)],
        w32 (getF F.keepPwrWsrcTlo_time_lo (gf g 1 4 0) s), w32 (getF F.keepPwrWsrcThi_time_hi (gf g 1 4 0) s)]))
  ∧ Reads 0x0407 .rfTrimGet (fun g s =>
      if trimNamed (gf g 1 3 0) (gf g 1 5 4) && (trimRow (gf g 1 3 0)).perPort && !portPresent s (gf g 1 5 4) then (.absent, [])
      else if !onlyFields g.words [[(3, 0), (5, 4)]] || !trimNamed (gf g 1 3 0) (gf g 1 5 4) then (.badParam, [])
      else (.ok, [i32 (rfFactory s (gf g 1 3 0) (gf g 1 5 4)), i32 (rfTrim s (gf g 1 3 0) (gf g 1 5 4)),
        i32 (rfEffective s (gf g 1 3 0) (gf g 1 5 4))]))
  ∧ Reads 0x0423 .planStatus (fun _ s => (.ok, [planPortW s 0, planPortW s 1, planPortW s 2, planCheckW s]))
  ∧ Reads 0x0426 .lstStatus (fun g s =>
      if !listenerPresent s (gf g 1 5 0) then (.absent, [])
      else if !onlyFields g.words [[(5, 0)]] then (.badParam, [])
      else (.ok, (List.range 16).map (lstWord s (gf g 1 5 0))))
  ∧ Reads 0x0442 .phyTsCorrGet (fun g s =>
      if gf g 1 1 0 < 3 && !portPresent s (gf g 1 1 0) then (.absent, [])
      else if !onlyFields g.words [[(1, 0), (15, 8)]] || 3 ≤ gf g 1 1 0 || !(gf g 1 15 8 == 0 || modeOk (gf g 1 15 8)) then (.badParam, [])
      else (.ok, [i32 (tsFactory s (gf g 1 1 0) (gf g 1 15 8)), i32 (tsTrim s (gf g 1 1 0) (gf g 1 15 8)),
        i32 (tsCorr s (gf g 1 1 0) (gf g 1 15 8))]))
  ∧ Reads 0x0446 .gtStatus (fun _ s => (.ok, (List.range 9).map (tmWord s)))
  ∧ Reads 0x0301 .pwrStatus (fun _ s => (.ok, [
      w32 (maskOf ((List.range 26).filter (fun d => domPresent s d && domState s d == 0))),
      w32 (maskOf ((List.range 26).filter (fun d => domPresent s d && domState s d == 1))),
      w32 (maskOf ((List.range 26).filter (fun d => domPresent s d && (domState s d == 2 || domState s d == 3)))),
      w32 (maskOf ((List.range 26).filter (fun d => domPresent s d && domState s d == 3))),
      wordOf [
        (getF F.keepPwrSupply_core_warn 0 s + 2 * getF F.keepPwrSupply_v18_warn 0 s + 4 * getF F.keepPwrSupply_io33_low 0 s
          + 8 * getF F.keepPwrSupply_ddr_low 0 s + 16 * getF F.keepPwrSupply_tx_hold 0 s + 256 * getF F.keepPwrSupply_core_dip_seen 0 s
          + 512 * getF F.keepPwrSupply_v18_dip_seen 0 s + 1024 * getF F.keepPwrSupply_io33_seen 0 s
          + 2048 * getF F.keepPwrSupply_ddr_seen 0 s, 0),
        (getF F.keepPwrClk_ref_ok 0 s + 2 * getF F.keepPwrClk_ref_lost 0 s + 4 * getF F.keepPwrClk_xtal32_ok 0 s
          + 8 * getF F.keepPwrClk_xtal32_fail 0 s + 16 * getF F.keepPwrClk_wick_on_rc 0 s + 32 * getF F.keepPwrClk_keep_on_rc 0 s
          + 256 * getF F.keepPwrClk_pll_core_lock 0 s + 512 * getF F.keepPwrClk_pll_air_lock 0 s
          + 1024 * getF F.keepPwrClk_pll_eth_lock 0 s + 2048 * getF F.keepPwrClk_pll_ddr_lock 0 s, 16)],
      wordOf [((s.pwr.active.map (·.1)).getD 0, 0), (b2n s.pwr.active.isSome, 3), (getF F.keepPwrWick_lp_mode 0 s, 4)]]))
  ∧ Reads 0x0402 .rfPortStatus (fun g s =>
      if gf g 1 1 0 < 3 && !portPresent s (gf g 1 1 0) then (.absent, [])
      else if !onlyFields g.words [[(1, 0)]] || 2 < gf g 1 1 0 then (.badParam, [])
      else (.ok, [rfStatusW s (gf g 1 1 0), rfVswrW s (gf g 1 1 0), rfLoW s (gf g 1 1 0),
        wordOf [(unsignedOf (roundDiv (powerCap s (gf g 1 1 0)) 5) 16, 0), ((shareBackoff s (gf g 1 1 0) / 5).toNat, 16)],
        wordOf [(maskOf (portEms s (gf g 1 1 0)), 0),
          (maskOf ((portEms s (gf g 1 1 0)).filter (fun e => getB F.airTxEmStatus_on_air e s)), 8)],
        w32 (if getB F.airRfStatus_cal_pending (gf g 1 1 0) s
          then ((rf s (gf g 1 1 0)).pendAt + 5000000000 - s.now + 999999) / 1000000 else 0)]))

/-- The status and read commands of the MAC, the schedule, traffic and forwarding, with nothing changed but a count that the command
asks to clear.
The model's choices it rests on: log 100. -/
def Obligations.MacScheduleAndForwardingReads : Prop :=
  Answers 0x06C1 .macStatus (fun g s =>
      if !onlyFields g.words [[(0, 0)]] then (.badParam, [], s)
      else (.ok, seqStatusW s :: (List.range 13).map (seqCntW s),
        if gf g 1 0 0 = 1 then seqCounters.foldl (fun s f => setF f 0 0 s) s else s))
  ∧ Reads 0x06C2 .macFtqStatus (fun g s =>
      if !listenerPresent s (gf g 1 5 0) then (.absent, [])
      else if !onlyFields g.words [[(5, 0)]] then (.badParam, [])
      else (.ok, [ftqStatW s (gf g 1 5 0)]))
  ∧ Reads 0x0517 .schStatus (fun _ s => (.ok, (List.range 4).map (slmWord s) ++ (List.range 10).map (fun i => slmWord s (32 + i))))
  ∧ Reads 0x0512 .schCellQuery (fun g s =>
      if !onlyFields g.words [[(2, 0), (31, 16)]] then (.badParam, [])
      else (.ok, w32 (s.slm.cells.filter (fun c => c.sf == gf g 1 2 0 && c.off == gf g 1 31 16)).length
        :: (s.slm.cells.filter (fun c => c.sf == gf g 1 2 0 && c.off == gf g 1 31 16)).flatMap (fun c =>
          [wordOf [(c.off, 0), (c.choff, 16), (c.sf, 24), (c.opts, 27)], w32 (c.handle.getD (2 ^ 17))])))
  ∧ Answers 0x0C12 .trfHistGet (fun g s =>
      if !onlyFields g.words [[(6, 0), (8, 8)]] || 2 < gf g 1 1 0 || (gf g 1 1 0 < 2 && 3 < gf g 1 6 2) then (.badParam, [], s)
      else (.ok, (List.range 16).map (fun j => w32 (tabGet s.trf.hist (512 * gf g 1 1 0 + 16 * gf g 1 6 2 + j) 0)),
        if gf g 1 8 8 = 1 then { s with trf := { s.trf with hist := s.trf.hist.filter (fun e =>
          decide (e.1 < 512 * gf g 1 1 0 + 16 * gf g 1 6 2) || decide (512 * gf g 1 1 0 + 16 * gf g 1 6 2 + 16 ≤ e.1)) } } else s))
  ∧ Reads 0x0C13 .trfStatus (fun _ s => (.ok, [paramW s 0x0C05 0 1, wordAt s.trf.v 0, w32 (tabGet s.time.latch 0x800008 0), schedStatusW s,
      w32 (getF F.netSchedCntOffer_offers_taken 0 s),
      wordOf [(getF F.netSchedCntUrgent_urgent_entries 0 s, 0), (getF F.netSchedCntUrgent_urgent_capped 0 s, 16)],
      wordOf [(getF F.netSchedCntRefuse_refused_quota 0 s, 0), (getF F.netSchedCntRefuse_refused_depth 0 s, 16)],
      w32 (getF F.netSchedCntPoliced_policed 0 s),
      wordOf [(getF F.netSchedCntSample_passes 0 s, 0), (getF F.netSchedCntSample_sample_skipped 0 s, 16)]]
      ++ (List.range 4).map (fun i => pbufUsedW s (i + 1))))
  ∧ Reads 0x060A .storeStatus (fun _ s => (.ok, (List.range 5).map (storeWord s) ++ (List.range 14).map (fun i => storeWord s (8 + i))))

/-- Supplies (R37, R53, R54, R56): a dip sets its warning and seen bits and tx_hold and is noted with its instant; a bank or a DRAM
rail below its threshold is shown, seen and raised; the wick returns to normal mode. The minimum and the length of a dip that ends are shown,
counted and raised; 100 µs after the last dip tx_hold ends; a bank or a DRAM rail back above its threshold is shown, and NET_DDR is woken with
source SUPPLY. The domains that the command would wake are taken as on.
The model's choices it rests on: logs 3, 25, 94. -/
def Obligations.SuppliesFallAndRecover : Prop :=
  (∀ (r : CoreRail) (s : State), serving s = true → tabFind s.pwr.dip (railCode r) = none → domOn s 2 = true →
    Leads (.supplyWarning r) s (fun t => getF (warnField r) 0 t = 1 ∧ getF (seenField r) 0 t = 1 ∧ getF F.keepPwrSupply_tx_hold 0 t = 1
      ∧ getF F.keepPwrCntDip_dips 0 t = satAdd 32 (getF F.keepPwrCntDip_dips 0 s) 1
      ∧ tabFind t.pwr.dip (railCode r) = some s.now ∧ Raised Ev.keepSupplyWarn [(railCode r, 3)] s t
      ∧ RegsButFor [(warnField r).key 0, (seenField r).key 0, F.keepPwrSupply_tx_hold.key 0, F.keepPwrCntDip_dips.key 0] s t
      ∧ t.diag.journal.getLast?.map (fun e => (e.type, e.time, e.contents)) = some (2, s.time.ns, railCode r)))
  ∧ (∀ s : State, serving s = true → getB F.keepPwrSupply_io33_low 0 s = false → domOn s 24 = false →
    Leads .bankIsolated s (fun t => getF F.keepPwrSupply_io33_low 0 t = 1 ∧ getF F.keepPwrSupply_io33_seen 0 t = 1
      ∧ Raised Ev.keepBankIsolated [(2, 3)] s t
      ∧ RegsButFor [F.keepPwrSupply_io33_low.key 0, F.keepPwrSupply_io33_seen.key 0] s t
      ∧ { t with regs := s.regs, evq := s.evq } = s))
  ∧ (∀ s : State, serving s = true → getB F.keepPwrSupply_io33_low 0 s = false → domOn s 24 = true → pcieUsed s = true →
    Leads .bankIsolated s (fun t => getF F.netPcieStatus_link_up 0 t = 0 ∧ getF F.keepPwrSupply_io33_low 0 t = 1))
  ∧ (∀ (r : DdrRail) (s : State), serving s = true → bitOf s.fuse.net 0 = true → ddrRailLow r s = false →
    Leads (.ddrRailLoss r) s (fun t => ddrRailLow r t = true ∧ getF F.keepPwrSupply_ddr_low 0 t = 1
      ∧ getF F.keepPwrSupply_ddr_seen 0 t = 1 ∧ Raised Ev.keepBankIsolated [(ddrRailCode r, 3)] s t
      ∧ (ddrPresent s = true → 2 ≤ domState t 25)))
  ∧ (∀ s : State, getB F.keepPwrWick_lp_mode 0 s = true → domOn s 1 = true →
    Leads .wickBrownout s (fun t => getF F.keepPwrWick_lp_mode 0 t = 0 ∧ getF F.keepPwrWick_brownout 0 t = 1
      ∧ getF F.keepPwrCntBrownout_brownouts 0 t = satAdd 32 (getF F.keepPwrCntBrownout_brownouts 0 s) 1
      ∧ Raised Ev.keepWickBrownout [(s.time.ns, 64)] s t
      ∧ RegsButFor [F.keepPwrWick_lp_mode.key 0, F.keepPwrWick_brownout.key 0, F.keepPwrCntBrownout_brownouts.key 0] s t))
  ∧ (∀ s : State, getB F.keepPwrClk_wick_on_rc 0 s = false →
    Leads .xtal32Fail s (fun t => getF F.keepPwrClk_xtal32_ok 0 t = 0 ∧ getF F.keepPwrClk_xtal32_fail 0 t = 1
      ∧ getF F.keepPwrClk_wick_on_rc 0 t = 1 ∧ Raised Ev.keepXtal32Fail [(s.time.ns, 64)] s t
      ∧ RegsButFor [F.keepPwrClk_xtal32_ok.key 0, F.keepPwrClk_xtal32_fail.key 0, F.keepPwrClk_wick_on_rc.key 0] s t
      ∧ { t with regs := s.regs, evq := s.evq } = s))
  ∧ (∀ (r : CoreRail) (mv t0 : Nat) (s : State), tabFind s.pwr.dip (railCode r) = some t0 →
    Leads (.supplyRecovered r mv) s (fun t => getF (warnField r) 0 t = 0 ∧ getF F.keepPwrSupply_last_dip_mv 0 t = mv % 2 ^ 12
      ∧ getF F.keepPwrDipNs_last_dip_ns 0 t = min (s.now - t0) (2 ^ 32 - 1) ∧ tabFind t.pwr.dip (railCode r) = none ∧ t.pwr.dipEnd = s.now
      ∧ Raised Ev.keepSupplyRecovered [(railCode r, 3), (mv, 32), (min (s.now - t0) (2 ^ 32 - 1), 32)] s t
      ∧ RegsButFor [(warnField r).key 0, F.keepPwrSupply_last_dip_mv.key 0, F.keepPwrDipNs_last_dip_ns.key 0] s t))
  ∧ (∀ s : State, getB F.keepPwrSupply_tx_hold 0 s = true → s.pwr.dip = [] → s.pwr.deferred = [] → s.lanes = [] →
    Leads .txHoldEnd s (fun t => getF F.keepPwrSupply_tx_hold 0 t = 0 ∧ t.now = max s.now (s.pwr.dipEnd + 100000) ∧ t.pwr = s.pwr))
  ∧ (∀ s : State, serving s = true → getB F.keepPwrSupply_io33_low 0 s = true →
    Leads .bankRestored s (fun t => getF F.keepPwrSupply_io33_low 0 t = 0 ∧ Raised Ev.keepBankIsolated [(2, 3)] s t
      ∧ (domOn s 24 = true → pcieUsed s = true → getF F.netPcieStatus_link_up 0 t = 1)
      ∧ RegsButFor [F.keepPwrSupply_io33_low.key 0, F.netPcieStatus_link_up.key 0, F.netPcieStatus_speed.key 0,
        F.netPcieStatus_width.key 0] s t))
  ∧ (∀ (r : DdrRail) (s : State), serving s = true → ddrRailLow r s = true → ddrRailLow (if r = .vddq then .vdd2 else .vddq) s = false →
    ddrPresent s = true → domState s 25 = 2 → domOn s 1 = true → domDead s 1 = false → deferring s = false → s.pwr.refLost = false →
    Leads (.ddrRailRecovery r true) s (fun t => ddrRailLow r t = false ∧ getF F.keepPwrSupply_ddr_low 0 t = 0 ∧ domOn t 25 = true
      ∧ getF F.keepPwrWsrc_code 25 t = 0x10 ∧ Raised Ev.keepBankIsolated [(ddrRailCode r, 3)] s t))

/-- The causes of a part reset: RESET_N low for at least 1 µs, the watchdog not served within its period, a supply below its reset
threshold; and the power-on reset of VDD_AON, which resets the wick's records and keep time as well (R36, R53, R77, R82, R422).
The model's choices it rests on: logs 3, 80, 94. -/
def Obligations.ResetCausesResetThePart : Prop :=
  (∀ (n : Nat) (s : State), 1000 ≤ n → Leads (.resetNFall n) s (fun t => IsReset 3 (elapse n s) t ∧ t.now = s.now + n))
  ∧ (∀ (n : Nat) (s : State), n < 1000 → exec (.resetNFall n) s = .next s)
  ∧ (∀ (ms : Nat) (s : State), serving s = true → s.start.imageStep = true → (paramW s 0x0113 0 1).toNat ≤ ms →
      Leads (.watchdogExpiry ms) s (fun t => IsReset 5 s t ∧ t.now = s.now))
  ∧ (∀ (ms : Nat) (s : State), serving s = true → s.start.imageStep = false → 500 ≤ ms →
      Leads (.watchdogExpiry ms) s (fun t => IsReset 5 s t ∧ t.now = s.now))
  ∧ (∀ (r : CoreRail) (s : State), Leads (.supplyResetThreshold r) s (fun t => IsReset 2 s t ∧ t.now = s.now))
  ∧ (∀ s : State, Leads .vddAonPowerOnReset s (fun t => getF F.keepRstCause_cause 0 t = 1 ∧ getF F.keepRstCause_resets 0 t = 1
      ∧ t.time.ns = 0 ∧ (∀ d : Fin 26, getF F.keepPwrWsrc_code d.val t = 1 ∧ getF F.keepPwrWsrc_seq d.val t = 0)
      ∧ getF F.keepPwrSupply_io33_low 0 t = getF F.keepPwrSupply_io33_low 0 s ∧ t.fuse = s.fuse ∧ t.persist = s.persist
      ∧ t.cfg.slotA = s.cfg.slotA ∧ t.cfg.slotB = s.cfg.slotB ∧ t.lanes = [] ∧ t.now = s.now))

/-- The start sequence: a part whose TEST_EN is high is held; with KEEP_CPU FAILED the part resets with cause 4; otherwise it ends with
firmware, the recovery loader or the boot ROM serving lanes, and the capability registers hold the fuse word where its copies agree
(R41, R69, R84, R86, R576).
The model's choices it rests on: logs 3, 80, 83. -/
def Obligations.StartSequenceEndsServing : Prop :=
  (∀ (e : StartEnv) (s : State), s.start.resetDue = none → s.start.testHeld = false → getF F.keepStart_phase 0 s = 0 → e.testEn = true →
    exec (.startSequence e) s = .next { s with start := { s.start with testHeld := true } })
  ∧ (∀ (e : StartEnv) (s : State), s.start.resetDue = none → s.start.testHeld = false → getF F.keepStart_phase 0 s = 0 → e.testEn = false →
    e.dead.contains 1 = false → Leads (.startSequence e) s (fun t =>
      (getF F.keepStart_phase 0 t = 6 ∨ getF F.keepStart_phase 0 t = 0xE ∨ getF F.keepStart_phase 0 t = 0xF)
      ∧ t.start.testHeld = false ∧ t.fuse = s.fuse ∧ (e.fuseAgree = true → t.start.capsRead = true)))
  ∧ (∀ (e : StartEnv) (s : State), s.start.resetDue = none → s.start.testHeld = false → getF F.keepStart_phase 0 s = 0 → e.testEn = false →
    e.dead.contains 1 = true → domState s 1 = 2 → Leads (.startSequence e) s (fun t => getF F.keepRstCause_cause 0 t = 4))

/-- The reference (R58, R59): its loss sets NO_REFERENCE, closes every line, stops the emitters, puts KEEP_CPU on its RC and every other
domain that is on into retention; its return is shown and raised, and changes nothing else.
The model's choices it rests on: logs 3, 81. -/
def Obligations.ReferenceLostAndRestored : Prop :=
  (∀ s : State, serving s = true → s.pwr.refLost = false → s.start.gateReady = true → Leads .referenceLost s (fun t => reason t 6 = true ∧ gateOpen t = 0
    ∧ getF F.keepPwrClk_keep_on_rc 0 t = 1 ∧ getF F.keepPwrClk_ref_ok 0 t = 0 ∧ getF F.keepPwrClk_ref_lost 0 t = 1
    ∧ getF F.netPcieStatus_link_up 0 t = 0 ∧ t.pwr.refLost = true ∧ t.now = s.now
    ∧ (∀ d : Fin 26, 2 < d.val → domOn s d = true → domState t d = 1 ∧ d.val ∈ t.pwr.refDoms)
    ∧ (∀ d : Fin 26, d.val ≤ 2 → domState t d = domState s d) ∧ (∀ e : Fin 8, (em t e).tx = none ∧ (em t e).tone = none)))
  ∧ (∀ s : State, s.pwr.refLost = true → getB F.keepPwrClk_ref_ok 0 s = false → Leads .referenceRestored s (fun t =>
    getF F.keepPwrClk_ref_ok 0 t = 1 ∧ Raised Ev.keepRefRestored [(s.time.ns, 64)] s t
    ∧ RegsButFor [F.keepPwrClk_ref_ok.key 0] s t ∧ { t with regs := s.regs, evq := s.evq } = s))

/-- The waking of domains (R64 to R70, R77): a domain whose dependencies are on comes on, and the wick records its source, sequence and
time; one that is on stays as it is; a step that times out is tried again, raised and counted, and after two retries the domain is
FAILED; a retry ends on; the domains that wait for a PLL share its timeout.
The model's choices it rests on: logs 3, 81. -/
def Obligations.DomainsWakeAndFail : Prop :=
  (∀ (d : Fin 26) (src : Fin 23) (s : State), 1 ≤ src.val → wakesAtOnce d s = true → Leads (.domainWake d src) s (fun t =>
    domOn t d = true ∧ getF F.keepPwrWsrc_code d t = src.val ∧ getF F.keepPwrWsrc_seq d t = (getF F.keepPwrWsrc_seq d s + 1) % 2 ^ 16
    ∧ getF F.keepPwrWsrcTlo_time_lo d t = s.time.ns % 2 ^ 32 ∧ t.now = s.now))
  ∧ (∀ (d : Fin 26) (src : Fin 23) (s : State), domOn s d = true → exec (.domainWake d src) s = .next s)
  ∧ (∀ (d : Fin 26) (st : WakeStep) (src : Fin 23) (s : State), 0 < d.val → s.start.testHeld = false → domPresent s d = true →
    domState s d = 2 → getB F.keepPwrState_waking d s = true → getF F.keepPwrState_retries d s < 2 →
    Leads (.wakeStepTimeout d st src) s (fun t => getF F.keepPwrState_retries d t = getF F.keepPwrState_retries d s + 1
      ∧ Raised Ev.keepDomainRetry [(d, 32), (wakeStepCode st, 2), (getF F.keepPwrState_retries d s + 1, 32)] s t
      ∧ getF F.keepPwrCntRetry_retries 0 t = satAdd 32 (getF F.keepPwrCntRetry_retries 0 s) 1 ∧ domState t d = 2))
  ∧ (∀ (d : Fin 26) (st : WakeStep) (src : Fin 23) (s : State), 1 < d.val → s.start.testHeld = false → domPresent s d = true →
    domState s d = 2 → getB F.keepPwrState_waking d s = true → getF F.keepPwrState_retries d s = 2 →
    Leads (.wakeStepTimeout d st src) s (fun t => domState t d = 3 ∧ getF F.keepPwrState_waking d t = 0
      ∧ Raised Ev.keepDomainFailed [(d, 32), (wakeStepCode st, 2)] s t
      ∧ getF F.keepPwrCntFailed_failed 0 t = satAdd 32 (getF F.keepPwrCntFailed_failed 0 s) 1))
  ∧ (∀ (d : Fin 26) (s : State), getB F.keepPwrState_waking d s = true → tabFind s.pwr.deferred d = none → railsHold s d = false →
    domPresent s d = true → (∀ e ∈ (Config.dom d).deps, domState s e = 0) →
    Leads (.wakeRetry d) s (fun t => domOn t d = true ∧ getF F.keepPwrState_waking d t = 0 ∧ t.now = s.now + 1000000))
  ∧ (∀ (p : Pll) (src : Fin 23) (s : State), s.start.testHeld = false →
    Leads (.pllLockTimeout p src) s (fun t => ∀ d : Fin 26, 1 < d.val → (Config.dom d).pll = pllCode p → domPresent s d = true → domState s d = 2 →
      getB F.keepPwrState_waking d s = true → tabFind s.pwr.deferred d = none → getF F.keepPwrState_retries d s < 2 →
      getF F.keepPwrState_retries d t = getF F.keepPwrState_retries d s + 1))

/-- The stopping of domains (R72 to R76): a member of the active set that accepts goes to its sleep state, in 2 µs to off and in 4 µs to
retention; one that refuses stays on, and its reason is shown, raised and counted; no answer within 10 µs is the refusal NO_ANSWER.
The model's choices it rests on: logs 3, 79. -/
def Obligations.DomainsStop : Prop :=
  (∀ (d : Fin 26) (k h : Nat) (off : Bool) (s : State), memberOn s d = some (k, off, h) → dependantOn s d = false → refusal s d off none = none →
    Leads (.domainStop d) s (fun t => domState t d = (if off then 2 else 1) ∧ t.now = s.now + (if off then 2000 else 4000)))
  ∧ (∀ (d : Fin 26) (k h r : Nat) (off : Bool) (s : State), memberOn s d = some (k, off, h) → dependantOn s d = false →
    refusal s d off none = some r → Leads (.domainStop d) s (fun t => domOn t d = true ∧ getF F.keepPwrState_last_refusal d t = r % 256
      ∧ getF F.keepPwrCntRefuse_refusals 0 t = satAdd 32 (getF F.keepPwrCntRefuse_refusals 0 s) 1
      ∧ Raised Ev.keepSleepRefused [(k, 32), (d, 32), (r, 8)] s t
      ∧ RegsButFor [F.keepPwrState_last_refusal.key d, F.keepPwrCntRefuse_refusals.key 0] s t ∧ t.now = s.now))
  ∧ (∀ (d : Fin 26) (k h : Nat) (off : Bool) (s : State), memberOn s d = some (k, off, h) → dependantOn s d = false →
    Leads (.quiesceNoAnswer d) s (fun t => domOn t d = true ∧ getF F.keepPwrState_last_refusal d t = 0x0B ∧ t.now = s.now + 10000
      ∧ RegsButFor [F.keepPwrState_last_refusal.key d, F.keepPwrCntRefuse_refusals.key 0] s t))
  ∧ (∀ (d : Fin 26) (k h : Nat) (off : Bool) (s : State), memberOn s d = some (k, off, h) → 0 < h → dependantOn s d = false →
    getB F.keepPwrState_waking d s = false → refusal s d off none = none →
    Leads (.idleHoldExpiry d) s (fun t => domState t d = (if off then 2 else 1) ∧ t.now = s.now + (if off then 2000 else 4000)))

/-- The listener is neither blanked nor idle, and shows so. -/
def Claims.hears (s : State) (n : Nat) : Bool :=
  listenerPresent s n && !mustBlank s n && !getB F.airLstStatus_blanked n s && !lstIdle s n && ctxState s n 0 != 4 && ctxState s n 1 != 4

/-- Detection and the checks before a record (R185 to R191, R208): a preamble takes a searching context into SYNC; one detected while
the primary is in SYNC drops the primary's frame as false; one detected while the primary is in PAYLOAD awaits the capture test; the
primary's own pattern is ignored; a context whose SFD is not found searches again; at the SFD the timestamp and the level are taken; a
PHR of length 0, or one that fails, discards the frame; one that passes reserves the record. Beside the listener, its registers and the
records nothing changes.
The model's choices it rests on: logs 39, 71. -/
def Obligations.PreamblesAreDetectedAndChecked : Prop :=
  (∀ (n : Fin 64) (slot : Fin 4) (own : Bool) (ago : Nat) (s : State), Claims.hears s n = true → lstMode s n slot ≠ 0 →
    (lst s n).c0 = none → (lst s n).c1 = none → ctxState s n (primary s n) = 0 → ctxSearches s n (primary s n) = true →
    (lst s n).pair = none →
    Leads (.preambleDetection n slot own ago) s (fun t => ctxState t n (primary s n) = 1 ∧ primary t n = primary s n
      ∧ ctx (lst t n) (primary s n) = some { slot := slot, mode := lstMode s n slot, detAt := s.now, sfdAt := s.now - ago }
      ∧ Counts F.airLstCntDetect_detects n true s t
      ∧ RegsButFor [(ctxField (primary s n)).key n, F.airLstCntDetect_detects.key n] s t
      ∧ { t with regs := s.regs, lst := s.lst, diag := s.diag } = s))
  ∧ (∀ (n : Fin 64) (slot : Fin 4) (ago : Nat) (s : State), Claims.hears s n = true → lstMode s n slot ≠ 0 → primary s n = 0 →
    ctxState s n 0 = 1 → (lst s n).c0.isSome = true → ctxState s n 1 = 0 → ctxSearches s n 1 = true → (lst s n).c1 = none →
    (lst s n).pair = none →
    Leads (.preambleDetection n slot false ago) s (fun t => primary t n = 1 ∧ ctxState t n 0 = 0 ∧ ctxState t n 1 = 1 ∧ (lst t n).c0 = none
      ∧ Counts F.airLstCntFalse_false_detect n true s t
      ∧ Counts F.airLstCntDetect_detects n true s t))
  ∧ (∀ (n : Fin 64) (slot : Fin 4) (ago : Nat) (s : State), Claims.hears s n = true → lstMode s n slot ≠ 0 → primary s n = 0 →
    ctxState s n 0 = 2 → (lst s n).c0.isSome = true → ctxState s n 1 = 0 → ctxSearches s n 1 = true → (lst s n).c1 = none →
    (lst s n).pair = none →
    Leads (.preambleDetection n slot false ago) s (fun t => primary t n = 0 ∧ ctxState t n 0 = 2 ∧ (lst t n).c0 = (lst s n).c0
      ∧ ctxState t n 1 = 1 ∧ (lst t n).test = true ∧ getF F.airLstCntFalse_false_detect n t = getF F.airLstCntFalse_false_detect n s))
  ∧ (∀ (n : Fin 64) (slot : Fin 4) (ago : Nat) (s : State), Claims.hears s n = true → (ctx (lst s n) (primary s n)).isSome = true →
    exec (.preambleDetection n slot true ago) s = .next s)
  ∧ (∀ (n : Fin 64) (c : Fin 2) (s : State), ctxState s n c = 1 → (ctx (lst s n) c).isSome = true → (lst s n).pair = none →
    getB F.airLstFreq_retuning n s = false →
    Leads (.sfdNotFound n c) s (fun t => ctxState t n c = 0 ∧ ctx (lst t n) c = none ∧ ctx (lst t n) (1 - c) = ctx (lst s n) (1 - c)
      ∧ Counts F.airLstCntFalse_false_detect n true s t
      ∧ { t with regs := s.regs, lst := s.lst, diag := s.diag } = s))
  ∧ (∀ (n : Fin 64) (c : Fin 2) (coded : Bool) (level afc : Int) (x : RxCtx) (s : State), ctx (lst s n) c = some x → ctxState s n c = 1 →
    x.ts = 0 → (lst s n).test = false → x.captured = false → isFsk x.mode = false ∨ sfdMode x.mode coded ∈ lstModes s n →
    Leads (.sfdTimestamp n c coded level afc) s (fun t => ctxState t n c = 1 ∧ (ctx (lst t n) c).map (fun y => (y.ts, y.level, y.afc, y.mode))
        = some (((s.time.ns : Int) - tsCorr s (lstPort s n) (sfdMode x.mode coded)).toNat, rssiOf s (lstPort s n) level, afc, sfdMode x.mode coded)
      ∧ RegsButFor [] s t ∧ { t with regs := s.regs, lst := s.lst } = s))
  ∧ (∀ (n : Fin 64) (c : Fin 2) (h : Phr) (x : RxCtx) (s : State), ctx (lst s n) c = some x → ctxState s n c = 1 → x.ts ≠ 0 → h.ok = true →
    modeOk h.mode = true → samePreamble x.mode h.mode = true → (admitSlot s n x.slot h.mode).isSome = true → h.len = 0 →
    (lst s n).pair = none → getB F.airLstFreq_retuning n s = false →
    Leads (.phrCheck n c h) s (fun t => ctxState t n c = 0 ∧ ctx (lst t n) c = none ∧ t.recs = s.recs
      ∧ Counts F.airLstCntPhrErr_phr_zero n true s t
      ∧ getF F.airLstCntPhrErr_phr_bad n t = getF F.airLstCntPhrErr_phr_bad n s))
  ∧ (∀ (n : Fin 64) (c : Fin 2) (h : Phr) (x : RxCtx) (s : State), ctx (lst s n) c = some x → ctxState s n c = 1 → x.ts ≠ 0 → h.ok = false →
    (lst s n).pair = none → getB F.airLstFreq_retuning n s = false →
    Leads (.phrCheck n c h) s (fun t => ctxState t n c = 0 ∧ ctx (lst t n) c = none ∧ t.recs = s.recs
      ∧ Counts F.airLstCntPhrErr_phr_bad n true s t))
  ∧ (∀ (n : Fin 64) (c : Fin 2) (h : Phr) (slot : Nat) (x : RxCtx) (s : State), ctx (lst s n) c = some x → ctxState s n c = 1 → x.ts ≠ 0 →
    h.ok = true → modeOk h.mode = true → isGt h.mode = false → samePreamble x.mode h.mode = true → admitSlot s n x.slot h.mode = some slot →
    h.len ≠ 0 → h.len ≤ maxPsdu h.mode → recWords h.len ≤ ftqFree s n →
    Leads (.phrCheck n c h) s (fun t => ctxState t n c = 2
      ∧ Counts F.airLstCntPhr_phr_pass n true s t ∧ t.nextRec = s.nextRec + 1
      ∧ t.recs.length = s.recs.length + 1 ∧ t.recs.take s.recs.length = s.recs
      ∧ t.recs.getLast?.map (fun r => (r.id, r.listener, r.ctx, r.mode, r.slot, r.len, r.captured, r.level))
        = some (s.nextRec, n.val, c.val, h.mode, slot, h.len, x.captured, x.level)
      ∧ t.recs.getLast?.map (fun r => (r.trailer, r.endAt)) = some (none, s.now + psduNs s h.mode h.len none)))
  ∧ (∀ (n : Fin 64) (c : Fin 2) (h : Phr) (x : RxCtx) (s : State), ctx (lst s n) c = some x → ctxState s n c = 1 → x.ts ≠ 0 →
    h.ok = true → modeOk h.mode = true → isGt h.mode = false → samePreamble x.mode h.mode = true →
    (admitSlot s n x.slot h.mode).isSome = true → h.len ≠ 0 → h.len ≤ maxPsdu h.mode → ftqFree s n < recWords h.len →
    (lst s n).pair = none → getB F.airLstFreq_retuning n s = false →
    Leads (.phrCheck n c h) s (fun t => ctxState t n c = 0 ∧ t.recs = s.recs
      ∧ Counts F.airLstCntFtqFull_ftq_full n true s t))

/-- A stronger frame over a weaker one (R191 to R195): from a level above the primary's by the margin on, the pair is captured and the
weaker record withheld; below it the shadow searches again. A frame's end writes the trailer of its record with its result, once, and
frees its context. The end of the stronger frame decides whether the pair may be cancelled; a weaker frame that has failed keeps its
record open until then. The second decode closes it with sic set, and the deadline closes it with its own result.
The model's choices it rests on: logs 3, 34. -/
def Obligations.CapturesAndCancellations : Prop :=
  (∀ (n : Fin 64) (level : Int) (a b : RxCtx) (s : State), primary s n = 0 → (lst s n).test = true → (lst s n).c0 = some a →
    (lst s n).c1 = some b → ctxState s n 1 ≠ 7 → a.level + lstMargin s n ≤ rssiOf s (lstPort s n) level →
    Leads (.captureTest n level) s (fun t => (lst t n).pair = some { o := b.sfdAt, strong := 1, weak := a.recId }
      ∧ (lst t n).c0 = some a ∧ (lst t n).c1 = some { b with level := rssiOf s (lstPort s n) level, captured := true }
      ∧ (lst t n).test = false ∧ ctxState t n 1 = 1
      ∧ (∀ r ∈ t.recs, some r.id = a.recId → r.withheld = true)
      ∧ Counts F.airLstCntCapture_captures n true s t
      ∧ { t with regs := s.regs, lst := s.lst, recs := s.recs, diag := s.diag } = s))
  ∧ (∀ (n : Fin 64) (level : Int) (a b : RxCtx) (s : State), primary s n = 0 → (lst s n).test = true → (lst s n).c0 = some a →
    (lst s n).c1 = some b → ctxState s n 1 ≠ 7 → rssiOf s (lstPort s n) level < a.level + lstMargin s n →
    Leads (.captureTest n level) s (fun t => (lst t n).pair = (lst s n).pair ∧ (lst t n).c0 = some a ∧ (lst t n).c1 = none
      ∧ ctxState t n 1 = 0 ∧ Counts F.airLstCntCapture_capture_below n true s t
      ∧ { t with regs := s.regs, lst := s.lst, diag := s.diag } = s))
  ∧ (∀ (n : Fin 64) (c : Fin 2) (ok : Bool) (id : Nat) (x : RxCtx) (r : Rec) (s : State), ctx (lst s n) c = some x → x.recId = some id →
    ctxState s n c = 2 → (lst s n).pair = none → (lst s n).recon = none → getB F.airLstFreq_retuning n s = false →
    findRec s id = some r → r.trailer = none → r.listener = n →
    Leads (.frameEnd n c ok) s (fun t => (findRec t id).map (·.trailer) = some (some (if ok then 1 else 2, false, r.withheld, 0))
      ∧ ctx (lst t n) c = none ∧ ctxState t n c = 0 ∧ t.now = max s.now x.endAt
      ∧ Counts F.airLstCntDelivered_delivered n ok s t
      ∧ Counts F.airLstCntFcs_fcs_fail n (!ok) s t
      ∧ getF F.airLstLevel_last_rssi_q n t = unsignedOf r.level 16))
  ∧ (∀ (n : Fin 64) (ok : Bool) (id : Nat) (x : RxCtx) (p : Pair) (s : State), (lst s n).c1 = some x → x.recId = some id → ctxState s n 1 = 2 →
    (lst s n).pair = some p → p.strong = 1 → p.weakEnded = false → p.weakOk = false → (lst s n).recon = none → (lst s n).c0.isSome = true →
    lstSic s n = true → x.endAt ≤ s.now ∨ x.endAt ≤ p.o + sicLimit → s.now ≤ p.o + sicLimit → getB F.airLstFreq_retuning n s = false →
    Leads (.frameEnd n 1 ok) s (fun t => (lst t n).pair = (if ok then some { p with strongEnd := some t.now } else none)
      ∧ (lst t n).c1 = none ∧ (lst t n).c0 = (lst s n).c0
      ∧ Counts F.airLstCntFcs_sic_skip n (!ok) s t))
  ∧ (∀ (n : Fin 64) (id : Nat) (x : RxCtx) (p : Pair) (s : State), (lst s n).c0 = some x → x.recId = some id → ctxState s n 0 = 2 →
    (lst s n).pair = some p → p.strong = 1 → p.weak = some id → (lst s n).recon = none → lstSic s n = true →
    x.endAt ≤ p.o + sicLimit → s.now ≤ p.o + sicLimit → getB F.airLstFreq_retuning n s = false →
    Leads (.frameEnd n 0 false) s (fun t => (lst t n).pair = some { p with weakEnded := true } ∧ (lst t n).c0 = none ∧ t.recs = s.recs))
  ∧ (∀ (n : Fin 64) (e id : Nat) (r : Rec) (p : Pair) (s : State), (lst s n).pair = some p → p.strong = 1 → p.weak = some id →
    p.strongEnd = some e → p.weakOk = false → e ≤ p.o + sicLimit → (lst s n).recon = none → (lst s n).c1 = none → ctxState s n 1 = 0 →
    findRec s id = some r → r.trailer = none →
    Leads (.sicStart n) s (fun t => (lst t n).recon = some 1 ∧ ctxState t n 1 = 3 ∧ (lst t n).c1.map (·.recId) = some (some id)
      ∧ primary t n = (if p.weakEnded then 1 else primary s n) ∧ t.recs = s.recs
      ∧ { t with regs := s.regs, lst := s.lst } = s))
  ∧ (∀ (n : Fin 64) (ok : Bool) (id : Nat) (x : RxCtx) (r : Rec) (p : Pair) (s : State), (lst s n).recon = some 1 → (lst s n).c1 = some x →
    x.recId = some id → ctxState s n 1 = 3 → (lst s n).pair = some p → p.weakOk = false → findRec s id = some r → r.trailer = none →
    r.listener = n → getB F.airLstFreq_retuning n s = false →
    Leads (.frameEnd n 1 ok) s (fun t => (findRec t id).map (·.trailer) = some (some (if ok then 1 else 2, true, r.withheld, 0))
      ∧ (lst t n).pair = none ∧ (lst t n).recon = none ∧ (lst t n).c1 = none ∧ t.now = s.now
      ∧ Counts F.airLstCntSic_sic_ok n ok s t
      ∧ Counts F.airLstCntSic_sic_fail n (!ok) s t))
  ∧ (∀ (n : Fin 64) (s : State), (lst s n).recon = some 1 → ctxState s n 1 = 3 → (lst s n).c0.isSome = true → ctxState s n 0 ≠ 7 →
    Leads (.sicCatchUp n) s (fun t => primary t n = 1 ∧ ctxState t n 1 = 2 ∧ ctxState t n 0 = 0 ∧ (lst t n).c0 = none
      ∧ (lst t n).c1 = (lst s n).c1 ∧ t.recs = s.recs ∧ { t with regs := s.regs, lst := s.lst } = s))
  ∧ (∀ (n : Fin 64) (id : Nat) (r : Rec) (p : Pair) (s : State), (lst s n).pair = some p → p.weakEnded = true → p.weakOk = false →
    p.weak = some id → (lst s n).recon = none → lstSic s n = true → findRec s id = some r → r.trailer = none → r.listener = n →
    Leads (.sicDeadline n) s (fun t => (findRec t id).map (·.trailer) = some (some (2, false, r.withheld, 0)) ∧ (lst t n).pair = none
      ∧ t.now = max s.now (p.o + sicLimit + 1) ∧ (lst t n).c1 = (lst s n).c1
      ∧ Counts F.airLstCntFcs_sic_skip n true s t))
  ∧ (∀ (n : Fin 64) (s : State), ctxState s n (primary s n) = 2 →
    Leads (.checkpointSave n) s (fun t => (lst t n).ckpts.head? = some s.now
      ∧ (∀ k ∈ (lst t n).ckpts, k = s.now ∨ (k ∈ (lst s n).ckpts ∧ s.now ≤ k + 8000000)) ∧ { t with lst := s.lst } = s))

/-- Retunes, blanking and failing contexts (R175, R181 to R184, R199, R226): a listener whose contexts hold nothing takes its new
channel, and one that decodes waits; at the latest start what it still holds is closed as ABANDONED and the retune made; blanking
abandons the receptions and idles both contexts, and its end counts its time and lets them search with an empty store; a context that
is stuck loses its frame and its element is queued for a self-test.
The model's choices it rests on: logs 3, 27, 35, 84. -/
def Obligations.ListenersRetuneAndBlank : Prop :=
  (∀ (n : Fin 64) (khz ch latest : Nat) (s : State), (lst s n).next = some (khz, ch, latest) → (lst s n).c0 = none → (lst s n).c1 = none →
    ctxState s n 0 ≠ 1 → ctxState s n 1 ≠ 1 →
    Leads .listenerRetune s (fun t => (lst t n).khz = khz ∧ (lst t n).next = none ∧ (lst t n).ckpts = []
      ∧ getF F.airLstFreq_channel n t = ch % 2 ^ 9 ∧ getF F.airLstFreq_retuning n t = 0 ∧ t.now = s.now))
  ∧ (∀ (n : Fin 64) (x : RxCtx) (s : State), (lst s n).next.isSome = true → (lst s n).c0 = some x → ctxState s n 0 = 2 → (lst s n).c1 = none →
    ctxState s n 1 ≠ 1 →
    Leads .listenerRetune s (fun t => lst t n = lst s n ∧ ctxState t n 0 = 2 ∧ getF F.airLstFreq_retuning n t = 1
      ∧ getF F.airLstFreq_channel n t = getF F.airLstFreq_channel n s))
  ∧ (∀ (n : Fin 64) (khz ch latest id : Nat) (x : RxCtx) (r : Rec) (s : State), (lst s n).next = some (khz, ch, latest) →
    (lst s n).c0 = some x → x.recId = some id → (lst s n).c1 = none → (lst s n).pair = none → (lst s n).recon = none →
    findRec s id = some r → r.trailer = none →
    Leads (.retuneLatestStart n) s (fun t => (findRec t id).map (·.trailer) = some (some (3, false, r.withheld, 2))
      ∧ (lst t n).c0 = none ∧ (lst t n).khz = khz ∧ (lst t n).next = none ∧ getF F.airLstFreq_channel n t = ch % 2 ^ 9
      ∧ Counts F.airLstCntAbandon_retune_cut n true s t ∧ s.now ≤ t.now))
  ∧ (∀ (n : Fin 64) (id : Nat) (x : RxCtx) (r : Rec) (s : State), mustBlank s n = true → getB F.airLstStatus_blanked n s = false →
    (lst s n).c0 = some x → x.recId = some id → (lst s n).c1 = none → (lst s n).pair = none → (lst s n).recon = none →
    findRec s id = some r → r.trailer = none → ctxState s n 0 ≠ 7 → ctxState s n 1 ≠ 7 →
    Leads (.blankingStart n) s (fun t => (findRec t id).map (·.trailer) = some (some (3, false, r.withheld, 1))
      ∧ (lst t n).c0 = none ∧ ctxState t n 0 = 4 ∧ ctxState t n 1 = 4 ∧ getF F.airLstStatus_blanked n t = 1 ∧ (lst t n).blankAt = some s.now
      ∧ Counts F.airLstCntAbandon_blank_abandon n true s t ∧ t.now = s.now))
  ∧ (∀ (n : Fin 64) (t0 : Nat) (s : State), mustBlank s n = false → getB F.airLstStatus_blanked n s = true → lstIdle s n = false →
    (lst s n).blankAt = some t0 → ctxState s n 0 = 4 → ctxState s n 1 = 4 → ctxTested s n 0 = false → ctxTested s n 1 = false →
    Leads (.blankingEnd n) s (fun t => getF F.airLstStatus_blanked n t = 0 ∧ ctxState t n 0 = 0 ∧ ctxState t n 1 = 0
      ∧ getF F.airLstCntBlank_blank_10us n t = satAdd 32 (getF F.airLstCntBlank_blank_10us n s) (((lst s n).blankNs + (s.now - t0)) / 10000)
      ∧ (lst t n).blankNs = ((lst s n).blankNs + (s.now - t0)) % 10000 ∧ (lst t n).blankAt = none
      ∧ { t with regs := s.regs, lst := s.lst, diag := s.diag } = s))
  ∧ (∀ (n : Fin 64) (c : Fin 2) (id : Nat) (x : RxCtx) (r : Rec) (s : State), ctx (lst s n) c = some x → x.recId = some id →
    (lst s n).pair = none → (lst s n).recon = none → findRec s id = some r → r.trailer = none → (testQueue (n / 8) s).length = 0 →
    getB F.airLstFreq_retuning n s = false → domOn s (6 + n / 8) = true →
    Leads (.contextStuck n c) s (fun t => (findRec t id).map (·.trailer) = some (some (3, false, r.withheld, 3)) ∧ ctx (lst t n) c = none
      ∧ (testQueue (n / 8) t).map (fun x => (x.kind, x.index, x.running)) = [(0, 2 * n.val + c.val, false)]
      ∧ t.now = max s.now (x.detAt + airtimeNs s x.mode (maxPsdu x.mode) none + 1000000)))
  ∧ (∀ (id check : Nat) (e : GtEntry) (s : State), tabFind s.gt (gtKey id check) = some e → domOn s 14 = true → s.nbrs = [] →
    Leads (.mapTableEntryFree id check) s (fun t => tabFind t.gt (gtKey id check) = none ∧ t.gt = tabDel s.gt (gtKey id check)
      ∧ t.now = max s.now (e.lastUse + gtHold s)))

/-- The header of a record and its trailer (R237 to R242, R263): at t_mhr the header is kept and its source resolved; an unconfigured
sequencer discards every record, counting nothing; at the trailer a record that failed is discarded without count, one of an
unsupported type, one for another destination and one from an unknown source are discarded and counted, and a frame that needs no
security is accepted from a neighbour that permits it.
The model's choices it rests on: logs 13, 64, 65. -/
def Obligations.HeadersAndTrailersDecideRecords : Prop :=
  (∀ (n : Fin 64) (f : Frame) (r : Rec) (s : State), Claims.alone s n r → r.frame = none → domOn s 15 = true → domOn s 17 = true →
    macOn (macFor s r.ts) = true → (∀ h ∈ srcHandle s f, resident s h = true) →
    Leads (.mhrParse n f) s (fun t => t.recs.map (fun q => (q.id, q.frame, q.handle, q.done)) = [(r.id, some f, srcHandle s f, false)]
      ∧ RegsButFor [] s t ∧ { t with recs := s.recs, nbrs := s.nbrs } = s))
  ∧ (∀ (n : Fin 64) (f : Frame) (r : Rec) (s : State), Claims.alone s n r → r.frame = none → domOn s 15 = true →
    macOn (macFor s r.ts) = false → exec (.mhrParse n f) s = .next { s with recs := [] })
  ∧ (∀ (n : Fin 64) (lqi : Nat) (snr : List Int) (dev : List Nat) (res : Nat) (r : Rec) (s : State),
    Claims.alone s n { r with trailer := some (res, false, r.withheld, 0) } → res ≠ 1 → r.closed = false → domOn s 15 = true →
    exec (.recordTrailer n lqi snr dev) s = .next { s with recs := [] })
  ∧ (∀ (n : Fin 64) (lqi : Nat) (snr : List Int) (dev : List Nat) (f : Frame) (r : Rec) (s : State), Claims.alone s n r →
    r.trailer = some (1, false, false, 0) → r.closed = false → r.frame = some f → typeOk f = false → domOn s 15 = true →
    Leads (.recordTrailer n lqi snr dev) s (fun t => t.recs = [] ∧ Counts F.linkSeqCntFilter_ftype_unsupported 0 true s t
      ∧ RegsButFor [F.linkSeqCntFilter_ftype_unsupported.key 0] s t ∧ { t with regs := s.regs, recs := s.recs, diag := s.diag } = s))
  ∧ (∀ (n : Fin 64) (lqi : Nat) (snr : List Int) (dev : List Nat) (f : Frame) (r : Rec) (s : State), Claims.alone s n r →
    r.trailer = some (1, false, false, 0) → r.closed = false → r.frame = some f → typeOk f = true → f.ftype ≠ 2 →
    filterPass (macFor s r.ts) f = false → domOn s 15 = true →
    Leads (.recordTrailer n lqi snr dev) s (fun t => t.recs = [] ∧ Counts F.linkSeqCntFilter_not_for_us 0 true s t
      ∧ RegsButFor [F.linkSeqCntFilter_not_for_us.key 0] s t ∧ { t with regs := s.regs, recs := s.recs, diag := s.diag } = s))
  ∧ (∀ (n : Fin 64) (lqi : Nat) (snr : List Int) (dev : List Nat) (f : Frame) (r : Rec) (s : State), Claims.alone s n r →
    r.trailer = some (1, false, false, 0) → r.closed = false → r.frame = some f → typeOk f = true → f.ftype ≠ 2 →
    filterPass (macFor s r.ts) f = true → r.handle = none → secLevel f ≠ 0 → domOn s 15 = true →
    Leads (.recordTrailer n lqi snr dev) s (fun t => t.recs = [] ∧ Counts F.linkSeqCntSrc_unknown_src 0 true s t
      ∧ RegsButFor [F.linkSeqCntSrc_unknown_src.key 0] s t ∧ { t with regs := s.regs, recs := s.recs, diag := s.diag, evq := s.evq } = s))
  ∧ (∀ (n : Fin 64) (lqi h : Nat) (snr : List Int) (dev : List Nat) (f : Frame) (nb : Nbr) (r : Rec) (s : State), Claims.alone s n r →
    r.trailer = some (1, false, false, 0) → r.closed = false → r.parked = false → r.acked = false → r.frame = some f → typeOk f = true →
    f.ftype = 1 → f.ie = false → f.pay = .empty → f.gt = [] → f.csl = none → wantsAck f = true → filterPass (macFor s r.ts) f = true →
    r.handle = some h → secLevel f = 0 → secOk f = true → isFsk r.mode = true → r.gtMap = none → nbr s h = some nb → nb.resident = true →
    nb.quarantined = false → nb.b.unsecuredOk = true → nb.lastRx = none → domOn s 17 = true → domOn s 15 = true →
    Leads (.recordTrailer n lqi snr dev) s (fun t => Counts F.linkSeqCntRxAccept_rx_accepted 0 true s t
      ∧ t.recs.map (fun q => (q.id, q.closed, q.done, q.verified, q.acked)) = [(r.id, true, true, true, false)]
      ∧ (nbr t h).map (fun x => (x.lastRx, x.b.lastRxDsn)) = some (f.seq.map (fun _ => s.now), f.seq.getD nb.b.lastRxDsn)))

/-- Late records and their security (R242, R243, R246 to R248, R322): a record whose berth is not resident at its limit is parked and
not acknowledged; resumed, it is processed again; one that stays late too long is discarded. A MIC that verifies over a counter above
the stored one advances that counter and accepts the frame; a counter not above it is a replay, and a MIC that fails discards.
The model's choices it rests on: logs 3, 62, 63, 65. -/
def Obligations.LateRecordsAndTheirSecurity : Prop :=
  (∀ (n : Fin 64) (h : Nat) (r : Rec) (s : State), Claims.alone s n r → r.closed = true → r.handle = some h → r.late = false →
    r.parked = false → recResident s r = false → recWants r = true → r.acked = false →
    Leads (.residencyLimit n) s (fun t => t.recs.map (fun q => (q.id, q.late, q.parked, q.acked, q.done)) = [(r.id, true, true, true, false)]
      ∧ Counts F.linkSeqCntLate_late_fault 0 true s t ∧ Counts F.linkSeqCntAckMiss_ack_not_sent 0 true s t
      ∧ getF F.linkSeqStatus_last_ack_miss 0 t = 1 ∧ t.now = max s.now (recLimit s r)))
  ∧ (∀ (n : Fin 64) (h e : Nat) (nb : Nbr) (f : Frame) (r : Rec) (s : State), Claims.alone s n r → r.closed = true → r.handle = some h →
    r.frame = some f → f.ftype ≠ 2 → secLevel f ≠ 0 → r.parked = true → r.cipherLate = false → 2 ≤ r.job → nbr s h = some nb →
    nb.resident = true → nb.quarantined = false → domOn s 17 = true → (recEntries s r).head? = some e → cached s e = true →
    Leads (.parkedRecordResume n) s (fun t => t.recs.map (fun q => (q.id, q.parked, q.job, q.done)) = [(r.id, false, 1, false)]
      ∧ RegsButFor [] s t ∧ t.now = s.now))
  ∧ (∀ (n : Fin 64) (r : Rec) (s : State), Claims.alone s n r → r.late = true →
    Leads (.lateExpired n) s (fun t => t.recs = [] ∧ Counts F.linkSeqCntLate_late_expired 0 true s t
      ∧ RegsButFor [F.linkSeqCntLate_late_expired.key 0] s t ∧ t.now = max s.now (r.endAt + maxAge (macFor s r.ts))))
  ∧ (∀ (n : Fin 64) (h e : Nat) (nb : Nbr) (f : Frame) (r : Rec) (s : State), Claims.alone s n r → r.closed = true → r.handle = some h →
    r.frame = some f → f.ftype ≠ 2 → secLevel f ≠ 0 → 2 ≤ r.job → r.parked = false → nbr s h = some nb → nb.resident = true →
    nb.quarantined = false → domOn s 17 = true → (recEntries s r).head? = some e → cached s e = true →
    Leads (.cipherJobResume n) s (fun t => t.recs = [{ r with job := 1 }] ∧ t.keys.cache.head? = some e ∧ RegsButFor [] s t
      ∧ { t with recs := s.recs, keys := s.keys } = s))
  ∧ (∀ (n : Fin 64) (h : Nat) (ok1 : Bool) (nb : Nbr) (a : Aux) (f : Frame) (r : Rec) (s : State), Claims.alone s n r → r.closed = true →
    r.job = 1 → r.acked = false → r.handle = some h → r.frame = some f → f.aux = some a → f.ftype = 1 → f.ie = false → f.pay = .empty →
    f.gt = [] → f.csl = none → wantsAck f = true → nbr s h = some nb → nb.resident = true → nb.quarantined = false → nb.lastRx = none →
    domOn s 17 = true → domOn s 16 = true → cipherDown s = false → (candidates s nb.b a).head? = some 0 →
    (nb.b.ctrValid.1 = true → nb.b.rxCtr.1 < a.ctr) →
    Leads (.micVerified n true ok1) s (fun t => Counts F.linkSeqCntRxAccept_rx_accepted 0 true s t
      ∧ (nbr t h).map (fun x => (x.b.ctrValid.1, x.b.rxCtr.1, x.b.lastRxDsn)) = some (true, a.ctr, f.seq.getD nb.b.lastRxDsn)
      ∧ t.recs.map (fun q => (q.id, q.done, q.verified, q.acked)) = [(r.id, true, true, false)]))
  ∧ (∀ (n : Fin 64) (h : Nat) (ok1 : Bool) (nb : Nbr) (a : Aux) (f : Frame) (r : Rec) (s : State), Claims.alone s n r → r.closed = true →
    r.job = 1 → r.handle = some h → r.frame = some f → f.aux = some a → f.ftype ≠ 2 → nbr s h = some nb → nb.resident = true →
    domOn s 17 = true → domOn s 16 = true → cipherDown s = false → (candidates s nb.b a).head? = some 0 → nb.b.ctrValid.1 = true →
    a.ctr ≤ nb.b.rxCtr.1 →
    Leads (.micVerified n true ok1) s (fun t => t.recs = [] ∧ Counts F.linkSeqCntReplay_replay 0 true s t ∧ t.nbrs = s.nbrs
      ∧ RegsButFor [F.linkSeqCntReplay_replay.key 0] s t))
  ∧ (∀ (n : Fin 64) (h : Nat) (nb : Nbr) (a : Aux) (f : Frame) (r : Rec) (s : State), Claims.alone s n r → r.closed = true →
    r.job = 1 → r.handle = some h → r.frame = some f → f.aux = some a → f.ftype ≠ 2 → nbr s h = some nb → nb.resident = true →
    domOn s 17 = true → domOn s 16 = true → cipherDown s = false → (candidates s nb.b a).length = 1 →
    Leads (.micVerified n false false) s (fun t => t.recs = [] ∧ Counts F.linkSeqCntSec_mic_fail 0 true s t ∧ t.nbrs = s.nbrs
      ∧ RegsButFor [F.linkSeqCntSec_mic_fail.key 0] s t))

/-- Acknowledgements (R249 to R253, R259, R260): at its preparation point the acknowledgement of a frame accepted takes an idle emitter
of the port; under a supply hold it is not sent, with reason HOLD. A record that matches an attempt ends it; a window that closes
without one consumes a retry.
The model's choices it rests on: logs 3, 40, 61. -/
def Obligations.AcknowledgementsAreSentAndAwaited : Prop :=
  (∀ (n : Fin 64) (h e : Nat) (nb : Nbr) (f : Frame) (r : Rec) (s : State), s.recs = [r] → r.listener = n → r.closed = true → r.acked = false →
    r.done = true → r.verified = true → r.handle = some h → r.frame = some f → wantsAck f = true → f.version < 2 → nbr s h = some nb →
    nb.resident = true → allOn s = true → domOn s 15 = true → domOn s 17 = true → mayStart s (lstPort s n) = true →
    heldDom s 16 = false → heldDom s 17 = false → idleEm s (lstPort s n) ((portEms s (lstPort s n)).headD 8) = some e →
    s.slm.contacts = [] → s.slm.offers = [] →
    Leads (.ackPreparationPoint n) s (fun t =>
      ((em t e).tx.map (fun x => (x.kind, x.phase, x.mode, x.khz, x.handle))) = some (1, 1, ackPhy r, lstKhz s n, h)
      ∧ ((em t e).tx.map (fun x => (x.mhr.v2, x.mhr.seq, x.mhr.sec))) = some (false, f.seq, none)
      ∧ t.now = max s.now (r.endAt + recTurn s r - prepNs s (lstPort s n))
      ∧ t.recs.filter (fun q => !q.acked) = []))
  ∧ (∀ (n : Fin 64) (h e : Nat) (nb : Nbr) (f : Frame) (r : Rec) (s : State), s.recs = [r] → r.listener = n → r.closed = true → r.acked = false →
    r.done = true → r.verified = true → r.freed = true → r.handle = some h → r.frame = some f → wantsAck f = true → nbr s h = some nb →
    nb.resident = true → allOn s = true → domOn s 15 = true → domOn s 17 = true → deferring s = true →
    Leads (.ackPreparationPoint n) s (fun t => t.recs = [] ∧ Counts F.linkSeqCntAckMiss_ack_not_sent 0 true s t
      ∧ getF F.linkSeqStatus_last_ack_miss 0 t = 3
      ∧ RegsButFor [F.linkSeqCntAckMiss_ack_not_sent.key 0, F.linkSeqStatus_last_ack_miss.key 0] s t ∧ t.em = s.em))
  ∧ (∀ (n : Fin 64) (ok0 ok1 : Bool) (x : Tx) (f : Frame) (r : Rec) (s : State), Claims.alone s n r → r.closed = true → r.frame = some f →
    f.ftype = 2 → f.version < 2 → f.secured = false → f.tc = none → f.gt = [] → f.csl = none → awaitFor s r = some x → s.awaiting = [x] →
    x.kind = 0 → x.contact = false → x.cls < 4 →
    (nbr s x.handle).all (fun nb => decide ((flowOf nb.b x.cls).frames.map (·.id)).Nodup) = true →
    Leads (.ackReceived n ok0 ok1) s (fun t => t.awaiting = [] ∧ t.recs = [] ∧ Counts F.linkSeqCntTxOk_tx_ok 0 true s t ∧ t.now = s.now))
  ∧ (∀ (x : Tx) (nb : Nbr) (q : QFrame) (s : State), s.awaiting = [x] → x.phase = 8 → x.kind = 0 → x.contact = false → x.shared = false →
    isGt x.mode = false → x.cls < 4 → nbr s x.handle = some nb → (flowOf nb.b x.cls).frames = [q] → q.id = x.frameId → q.attempts + 1 ≤ nb.b.retryLimit →
    Leads .ackWindowExpiry s (fun t => t.awaiting = [] ∧ s.now ≤ t.now ∧ t.recs = s.recs
      ∧ (nbr t x.handle).map (fun y => (flowOf y.b x.cls).frames) = some [{ q with attempts := q.attempts + 1, nacked := false }]))

/-- A downlink frame can be built: its record is resident and not quarantined, its head is on die, its key usable and a counter value
free, and its length within the mode's maximum (R254 to R258, R261). -/
def Claims.frameReady (s : State) (n : Nbr) (c : Nat) : Bool := match (flowOf n.b c).frames, txRef s n.b with
  | q :: _, some ref => n.resident && !n.quarantined && q.spilled == 0 && q.octets != 0
    && decide (psduOctets s n q ≤ maxPsdu (dataMode s n.b).1) && counterReady s ref
  | _, _ => false

/-- The steps of a transmission (R151, R157, R253 to R261, R289): judged at its preparation point it takes an idle emitter, or is not
made and consumes nothing; the lines go to TX, the PA ramps up, the first chip and the last go out, and an attempt that requests an
acknowledgement then awaits it; with the driver silent the emitter is free. A wake-up sequence is followed by its data frame.
The model's choices it rests on: logs 3, 46, 52, 58. -/
def Obligations.TransmissionsGoThroughTheirSteps : Prop :=
  (∀ (q : TxReq) (h e : Nat) (nb : Nbr) (o : SlotTx) (s : State), q.kind = 0 → emBound s q.emitter = true → macOn s = true →
    domOn s 15 = true → domOn s 16 = true → allOn s = true → offerOn s q.emitter false = some o → o.handle = some h → nbr s h = some nb →
    mayStart s o.port = true → idleEm s o.port q.emitter = some e → Claims.frameReady s nb o.cls = true →
    Leads (.txPreparationPoint q) s (fun t =>
      (em t e).tx.map (fun x => (x.kind, x.phase, x.handle, x.cls, x.khz, x.ackReq)) = some (0, 1, h, o.cls, o.khz, true)
      ∧ (em t e).tx.map (fun x => (x.mode, x.start)) = some ((dataMode s nb.b).1, t.now + prepNs s o.port)
      ∧ Counts F.linkSeqCntTxFail_tx_late 0 false s t))
  ∧ (∀ (q : TxReq) (h e : Nat) (nb : Nbr) (o : SlotTx) (s : State), q.kind = 0 → emBound s q.emitter = true → macOn s = true →
    domOn s 15 = true → domOn s 16 = true → allOn s = true → offerOn s q.emitter false = some o → o.handle = some h → nbr s h = some nb →
    deferring s = true → getF F.airRfStatus_synth o.port s = 0 → o.port < 3 → idleEm s o.port q.emitter = some e →
    Claims.frameReady s nb o.cls = true →
    Leads (.txPreparationPoint q) s (fun t => t.em = s.em ∧ t.nbrs = s.nbrs ∧ Counts F.linkSeqCntTxFail_tx_late 0 true s t
      ∧ Counts F.linkSeqCntTxSkip_hold_skip 0 true s t
      ∧ RegsButFor [F.linkSeqCntTxFail_tx_late.key 0, F.linkSeqCntTxSkip_hold_skip.key 0] s t))
  ∧ (∀ (e : Fin 8) (x : Tx) (s : State), (em s e).tx = some x → x.phase = 1 → x.mhr.sec = none →
    Leads (.femSwitchToTx e) s (fun t => (em t e).tx = some { x with phase := 2 } ∧ getF F.airTxEmStatus_on_air e t = 1
      ∧ Counts F.linkSeqCntTx_tx_attempts 0 (x.kind == 0 || x.kind == 2 || x.kind == 3) s t
      ∧ t.now = max s.now (x.rampAt - leadNs s (emPort s e)) ∧ t.nbrs = s.nbrs))
  ∧ (∀ (e : Fin 8) (l k c : Nat) (x : Tx) (s : State), (em s e).tx = some x → x.phase = 1 → x.kind = 0 → x.contact = false →
    x.mhr.sec = some (l, k, c) → cached s k = false →
    Leads (.femSwitchToTx e) s (fun t => (em t e).tx = none ∧ Counts F.linkSeqCntTxFail_tx_late 0 true s t
      ∧ Counts F.linkSeqCntTx_tx_attempts 0 false s t))
  ∧ (∀ (e : Fin 8) (x : Tx) (s : State), (em s e).tx = some x → x.phase = 2 →
    Leads (.rampUpStart e) s (fun t => (em t e).tx = some { x with phase := 3 } ∧ t.now = max s.now x.rampAt ∧ t.outs = s.outs
      ∧ t.nbrs = s.nbrs ∧ t.recs.length = s.recs.length))
  ∧ (∀ (e : Fin 8) (x : Tx) (s : State), (em s e).tx = some x → x.phase = 3 → x.kind < 4 →
    Leads (.firstChip e) s (fun t => (em t e).tx = some { x with phase := 4 } ∧ t.now = max s.now x.start
      ∧ t.outs = .mhr e x.handle x.mhr :: .air e x.mode x.khz x.len x.kind :: s.outs
      ∧ Counts F.airTxEmCntFrames_frames e true s t ∧ Counts F.linkSeqCntAck_ack_sent 0 (x.kind == 1) s t
      ∧ Counts F.linkSlmCntEb_eb_sent 0 (x.kind == 2) s t
      ∧ RegsButFor [F.airTxEmCntFrames_frames.key e, F.linkSeqCntAck_ack_sent.key 0, F.linkSlmCntEb_eb_sent.key 0] s t))
  ∧ (∀ (e : Fin 8) (x : Tx) (s : State), (em s e).tx = some x → x.phase = 4 → x.kind = 0 →
    Leads (.lastChip e) s (fun t => (em t e).tx = some { x with phase := 5 } ∧ t.awaiting = s.awaiting ++ [{ x with phase := 8 }]
      ∧ t.now = max s.now (x.start + x.air) ∧ RegsButFor [] s t))
  ∧ (∀ (e : Fin 8) (x : Tx) (s : State), (em s e).tx = some x → x.phase = 4 → x.kind = 2 →
    Leads (.lastChip e) s (fun t => (em t e).tx = some { x with phase := 5 } ∧ t.awaiting = s.awaiting
      ∧ t.now = max s.now (x.start + x.air) ∧ Counts F.linkSeqCntTxOk_tx_ok 0 true s t ∧ RegsButFor [F.linkSeqCntTxOk_tx_ok.key 0] s t))
  ∧ (∀ (e : Fin 8) (x : Tx) (s : State), (em s e).tx = some x → x.phase = 5 → x.kind ≠ 4 →
    Leads (.driverSilent e) s (fun t => (em t e).tx = none ∧ getF F.airTxEmStatus_on_air e t = 0
      ∧ t.now = max s.now (x.start + x.air + rampNs s (emPort s e)) + settleNs s (emPort s e) ∧ t.nbrs = s.nbrs ∧ t.awaiting = s.awaiting))
  ∧ (∀ (h : Nat) (c : Contact) (x : Tx) (s : State), s.slm.contacts = [c] → c.handle = h → c.stage = 0 → (em s c.emitter).tx = some x →
    x.kind = 5 → x.phase = 3 →
    Leads (.wakeupSequenceStart h) s (fun t => (em t c.emitter).tx = some { x with phase := 4 } ∧ t.now = max s.now x.start
      ∧ Counts F.linkSlmCntCsl_wakeups 0 true s t ∧ Counts F.linkSlmCntCsl_full_wakeups 0 x.full s t ∧ t.slm = s.slm))
  ∧ (∀ (h : Nat) (c : Contact) (nb : Nbr) (x : Tx) (s : State), s.slm.contacts = [c] → c.handle = h → c.stage = 0 →
    (em s c.emitter).tx = some x → x.kind = 5 → x.phase = 4 → nbr s h = some nb → Claims.frameReady s nb c.cls = true →
    Leads (.rendezvous h) s (fun t =>
      (em t c.emitter).tx.map (fun y => (y.kind, y.phase, y.handle, y.cls, y.khz, y.ackReq)) = some (0, 4, h, c.cls, c.khz, true)
      ∧ t.slm.contacts = [{ c with stage := 2 }] ∧ t.now = max s.now (x.start + x.air)
      ∧ Counts F.linkSeqCntTx_tx_attempts 0 true s t ∧ Counts F.airTxEmCntFrames_frames c.emitter true s t))

/-- The commands of the system, of the Ethernet ports, of DRAM and of the lane test: what they answer and what they change, in the order of checks of R125 (R49, R137 to R140, R479, R480).
The model's choices it rests on: logs 3, 11, 68. -/
def Obligations.SystemAndHostCommands : Prop :=
  Answers 0x0102 .sysReset (fun g s =>
      if gw g 1 != 0x52530001 then (.badParam, [], s)
      else
        let s := fullFlush 0x14 s
        (.ok, [], { s with start := { s.start with resetDue := some (s.now + 1000000) } }))
  ∧ Answers 0x0105 .sysLaneConfig (fun g s =>
      let n := gf g 1 1 0
      if !lanePresent s n then (.absent, [], s)
      else if !onlyBits (gw g 1) [(1, 0)] || !laneWordsOk n (gw g 2) (gw g 3) then (.badParam, [], s)
      else if stagingBusy g.lane.val s then (.busy, [], s)
      else
        let ws := stagedParam s 0x0114 0
        (.ok, [], (stage g.lane 0x0114 0 (ws.take (2 * n) ++ [gw g 2, gw g 3] ++ ws.drop (2 * n + 2)) s)))
  ∧ Answers 0x0106 .sysEventFetch (fun g s =>
      let k := gf g 1 4 0
      if !onlyFields g.words [[(4, 0)]] || k == 0 then (.badParam, [], s)
      else
        let lost := s.evq.lost
        let (rs, s) := fetchEvents k s
        (.ok, (wordOf [(rs.length, 0), (min lost 65535, 16)] :: rs.flatten), { s with evq := { s.evq with lost := 0 } }))
  ∧ Answers 0x0141 .ethGwSet (fun g s =>
      let i := infoGateway s g.words
      if i.absent then (.absent, [], s)
      else if !i.ok then (.badParam, [], s)
      else if ethGateway s i.res = ofWords (g.words.drop 1) then (.okAlready, [], s)
      else
        let k := cfgKey 0x0141 i.res
        (.ok, [], { s with cfg := { s.cfg with
          committed := tabPut s.cfg.committed k g.words
          staged := tabPut s.cfg.staged k g.words } }))
  ∧ Reads 0x0142 .ethStatus (fun g s =>
      match ethRefused s g [[(0, 0)]] with
      | some st => (st, [])
      | none => (.ok, ([0, 4, 5, 6, 7, 8, 9].map (ethWord s (gf g 1 0 0)))))
  ∧ Answers 0x0143 .ethMdio (fun g s =>
      match ethRefused s g [[(11, 0)], [(15, 0)]] with
      | some st => (st, [], s)
      | none =>
        let e := gf g 1 0 0
        let write := gf g 1 1 1 = 1
        if !write && gf g 2 15 0 != 0 then (.badParam, [], s)
        else
          let data := if write then gf g 2 15 0 else (g.env.mdio.getD 0xFFFF) % 65536
          (.ok, [w32 data], (put (.mdio e ((gw g 1).toNat + 65536 * gf g 2 15 0)) s)))
  ∧ Reads 0x0146 .ddrStatus (fun _ s =>
      if !ddrPresent s then (.absent, []) else (.ok, ((List.range 4).map (ddrWord s))))
  ∧ Answers 0x0A01 .diagLaneTest (fun g s =>
      let n := gf g 1 1 0
      let l := lane s n
      if !lanePresent s n then (.absent, [], s)
      else if !onlyFields g.words [[(1, 0)]] || n == g.lane.val then (.badParam, [], s)
      else if l.ex.isSome || !l.resp.isEmpty || !l.held.isEmpty then (.busy, [], s)
      else
        let s := patternTest n true g.env.badStages.2 (patternTest n false g.env.badStages.1 s)
        (.ok, [wordOf [(getF F.keepGzEcc_spares_used n s, 0), (getF F.keepGzStat_failed n s, 2)]], s))

/-- The commands of staging, of the image slots and of the output gate (R90, R95, R99 to R107, R109).
The model's choices it rests on: logs 10, 36, 70, 72, 75, 76. -/
def Obligations.ConfigurationAndGateCommands : Prop :=
  Acts 0x0120 .cfgCommit (fun g s =>
      if stagingBusy g.lane.val s then .now .busy [] s
      else if !s.cfg.dirty then .now .okAlready (commitWords s) s
      else
        let new := underCfg s.cfg.staged s
        let s := loadPlanCheck (planCheck (fun id r => param new id r) new) s
        match wholeCheck s new with
        | some p => .now .badParam [w32 p] s
        | none =>
          if slmRunning s then
            .later [] { s with cfg := { s.cfg with pending := some (g.lane.val, s.time.ns + 1000000) } }
          else
            let s := applyCommit s.cfg.staged s
            .now .ok (commitWords s) s)
  ∧ Answers 0x0121 .cfgDiscard (fun g s =>
      let force := gf g 1 0 0 == 1
      if !onlyFields g.words [[(0, 0)]] then (.badParam, [], s)
      else if s.cfg.pending.isSome then (.busy, [], s)
      else if !s.cfg.dirty then (.okAlready, [], s)
      else if stagingBusy g.lane.val s && !force then (.busy, [], s)
      else (.ok, [], (unstage s)))
  ∧ Answers 0x0123 .cfgImageSave (fun _ s =>
      if s.cfg.dirty then (.notCommitted, [], s)
      else if s.keys.requireSigned then (.authFail, [], s)
      else if domDead s 2 then (.domainFailed, [], s)
      else
        let s := withMram s
        let k := otherSlot s
        let seq := seqInUse s + 1
        let l := writeMarker seq (writeWords 0 (imageWords s seq) [])
        (.ok, [w32 k, w32 seq], (selectSlot k (setSlot k l s))))
  ∧ Answers 0x0124 .cfgImageWrite (fun g s =>
      let off := gf g 1 18 0
      let ws := g.words.drop 1
      if !onlyBits (gw g 1) [(18, 0)] || off % 4 != 0 || 0x6FFF0 < off + 4 * ws.length then (.badParam, [], s)
      else if domDead s 2 then (.domainFailed, [], s)
      else
        let s := withMram s
        let k := otherSlot s
        (.ok, [], (setSlot k (writeWords (off / 4) ws (eraseMarker (slotOf s k))) s)))
  ∧ Answers 0x0125 .cfgImageFinish (fun g s =>
      if domDead s 2 then (.domainFailed, [], s)
      else
        let s := withMram s
        let k := otherSlot s
        let c := checkSlot s (slotOf s k) false
        let ws (p : Nat) : List Word := [w32 k, slotW (slotOf s k) 2, w32 p]
        if c.empty then (.badParam, ws 0, s)
        else if c.reason == some 4 then (.authFail, ws c.param, s)
        else if !c.valid then (.badParam, ws c.param, s)
        else if c.seq ≤ seqInUse s then (.replay, ws 0, s)
        else
          let held := heldByImage s
          let s := selectSlot k (setSlot k (writeMarker c.seq (slotOf s k)) s)
          let s := clearReasons [1, 2, 3, 4] s
          (.ok, ws 0, (if held then startFromImage (s.now - 5366000) g.env.start.dead s else blankRefresh s)))
  ∧ Answers 0x0127 .sysGateOpen (fun _ s =>
      let clears := 11 :: (if domainsReturned s then [10] else [])
      let left := clears.foldl (fun m i => setBit m i false) (gateReasons s)
      if left != 0 then (.outputsHeld, [w32 (gateReasons s)], s)
      else if gateReasons s = 0 then (.okAlready, [0], s)
      else
        (.ok, [0], (blankRefresh (clearReasons clears
          { s with start := { s.start with holdLines := 0 }, pwr := { s.pwr with escalated := [] } }))))
  ∧ Answers 0x0128 .sysGateClose (fun g s =>
      let m := gf g 1 3 0
      if !onlyFields g.words [[(3, 0)]] || m == 0 then (.badParam, [], s)
      else
        let was := if reason s 11 then s.start.holdLines else 0
        let added := (List.range 4).any (fun i => bitOf m i && !bitOf was i)
        let s1 := setF F.keepGate_reasons 0 (setBit (gateReasons s) 11 true) { s with start := { s.start with holdLines := m } }
        let s2 := gateApply false s1
        let s3 := if added then raiseHeld s2 else s2
        (.ok, [w32 (gateOpen s3)], (blankRefresh s3)))

/-- The update commands (R530 to R534, R541).
The model's choices it rests on: logs 72, 77, 78. -/
def Obligations.UpdateCommands : Prop :=
  Answers 0x0201 .updBegin (fun g s =>
      let len := gf g 1 21 0
      let dig := ofWords (g.words.drop 1)
      if !onlyBits (gw g 1) [(21, 0)] || len < 256 || 2097152 < len then (.badParam, [], s)
      else if updBusy s || 3 ≤ s.upd.staging then (.busy, [], s)
      else
        let s := withMram s
        if (s.upd.staging == 1 || s.upd.staging == 2) && s.upd.len == len && s.upd.digest == dig then
          (.okAlready, [w32 s.upd.persisted], s)
        else (.ok, [0], (setUpd { s.upd with staging := 1, len := len, digest := dig, data := [], persisted := 0 } s)))
  ∧ Answers 0x0202 .updWrite (fun g s =>
      let off := gf g 1 21 0
      let ws := g.words.drop 1
      if !onlyBits (gw g 1) [(21, 0)] || off % 4 != 0 || (s.upd.staging != 0 && 4 * updWords s.upd.len < off + 4 * ws.length)
      then (.badParam, [], s)
      else if s.upd.staging != 1 then (.notPermitted, [], s)
      else if updBusy s then (.busy, [], s)
      else
        let s := withMram s
        let d := ws.zipIdx.foldl (fun d x => tabPut d (off / 4 + x.2) x.1) s.upd.data
        (.ok, [], (setUpd (persistPrefix { s.upd with data := d }) s)))
  ∧ Answers 0x0203 .updFinish (fun _ s =>
      if s.upd.staging != 1 && s.upd.staging != 2 then (.notPermitted, [], s)
      else if updBusy s then (.busy, [], s)
      else if s.upd.staging == 2 then (.okAlready, [w32 (bundleVersion s), 0xFF], s)
      else
        let s := withMram s
        match checkBundle s with
        | some (st, e) => (st, [w32 (bundleVersion s), w32 e], (setF F.keepUpdState_fail_entry 0 e s))
        | none => (.ok, [w32 (bundleVersion s), 0xFF], (setF F.keepUpdState_fail_entry 0 0xFF (setUpd { s.upd with staging := 2 } s))))
  ∧ Acts 0x0204 .updActivate (fun g s =>
      if !onlyFields g.words [[(0, 0)]] then .now .badParam [] s
      else if gf g 1 0 0 = 0 then activateOwn g.lane.val s
      else if s.upd.staging != 2 || !torchOn s || !holdsTorch s || !bundlePair s then .now .notPermitted [] s
      else if updBusy s || s.torch.pair.isSome then .now .busy [] s
      else .later [] { s with torch := { s.torch with pair := some { lane := g.lane.val } } })
  ∧ Reads 0x0205 .updStatus (fun _ s =>
      (.ok, ([updStateW s, updProgressW s] ++ (List.range 5).map (fun k => w32 (updCtr s k))
        ++ [if s.upd.staging = 0 then 0 else w32 (bundleVersion s)])))
  ∧ Answers 0x0206 .updAbort (fun _ s =>
      if 3 ≤ s.upd.staging then (.notPermitted, [], s)
      else if updBusy s then (.busy, [], s)
      else if s.upd.staging == 0 then (.okAlready, [], s)
      else (.ok, [], (setUpd { s.upd with staging := 0, len := 0, digest := 0, data := [], persisted := 0 } (withMram s))))

/-- The power commands that wake and stop domains (R68, R71 to R76, R80, R81).
The model's choices it rests on: log 79. -/
def Obligations.PowerCommands : Prop :=
  Acts 0x0303 .pwrSleepEnter (fun g s =>
      let k := (gw g 1).toNat % 256
      let partial' := gf g 1 8 8 == 1
      if !onlyBits (gw g 1) [(8, 0)] || 7 < k then .now .badParam [] s
      else match paramOpt s 0x0302 k with
        | none => .now .notCommitted [] s
        | some ws =>
          if powerBusy s then .now .busy [] s
          else
            let m := maskOf ((List.range 26).filter (fun d => domPresent s d && bitOf (fieldOf (wAt ws 1) 25 0) d))
            let o := fieldOf (wAt ws 2) 25 0
            let h := fieldOf (wAt ws 3) 23 0
            let old := match s.pwr.active with
              | some (j, m', _, _) => if j = k then 0 else m'
              | none => 0
            let leave := (List.range 26).filter (fun d => bitOf old d && !bitOf m d)
            let order := (maskDomains m).reverse
            if !order.any (needsStop s o) && !leave.any (fun d => domPresent s d && domState s d != 0 && !domDead s d) then
              .now .okAlready (sleepWords { s with pwr := { s.pwr with active := some (k, m, o, h) } } 0xFF 0) s
            else
              let s := wakeAllBut 0x16 g.env.dead leave s
              let s := setMembers m { s with pwr := { s.pwr with active := some (k, m, o, h) } }
              match stopMembers k o g.env.quiet (some g.lane.val) order s [] with
              | (s, _, none) => .now .ok (sleepWords s 0xFF 0) s
              | (s, stopped, some (d, why)) =>
                if partial' then .now .sleepRefused (sleepWords s d why) s
                else
                  let s := wakeAllBut 0x0E g.env.dead stopped s
                  if stopped.any (fun e => (tabFind s.pwr.deferred e).isSome) then .later [d, why] s
                  else .now .sleepRefused (sleepWords s d why) s)
  ∧ Acts 0x0304 .pwrSleepExit (fun g s =>
      match s.pwr.active with
      | none => .now .okAlready [0] s
      | some (_, m, _, _) =>
        if powerBusy s then .now .busy [] s
        else
          let s := setMembers 0 { s with pwr := { s.pwr with active := none } }
          answerWake 0x0304 m (wakeAllBut 0x16 g.env.dead (maskDomains m) s))
  ∧ Acts 0x0305 .pwrWake (fun g s =>
      let m := gf g 1 25 0
      if namesAbsent s m then .now .absent [] s
      else if !onlyFields g.words [[(25, 0)]] then .now .badParam [] s
      else if powerBusy s then .now .busy [] s
      else answerWake 0x0305 m (wakeAllBut 0x03 g.env.dead (maskDomains m) s))
  ∧ Acts 0x0307 .pwrDomainRetry (fun g s =>
      let d := gf g 1 4 0
      if d < 26 && !domPresent s d then .now .absent [] s
      else if !onlyFields g.words [[(4, 0)]] || 25 < d then .now .badParam [] s
      else if domState s d != 3 then .now .okAlready [w32 (domState s d)] s
      else if powerBusy s then .now .busy [] s
      else
        let s := setF F.keepPwrState_retries d 0 (setF F.keepPwrState_state d 2 s)
        if g.env.dead.contains d then .now .ok [3] (blankRefresh (wakeFails 0x03 d 0 s))
        else
          let s := blankRefresh (wakeBlocked g.env.dead d (wake 0x03 d s))
          if d = 2 && s.pwr.mramAtStart && domOn s 2 then
            .now .ok [w32 (domState s d)] (startFromTamper (s.now - 166000) g.env.start
              { s with pwr := { s.pwr with mramAtStart := false } })
          else answerWake 0x0307 d s)
  ∧ Answers 0x0308 .pwrRefResume (fun g s =>
      if !getB F.keepPwrClk_ref_ok 0 s then (.noReference, [], s)
      else if !s.pwr.refLost then (.okAlready, [], s)
      else
        let ds := s.pwr.refDoms
        let s := { s with pwr := { s.pwr with refLost := false, refDoms := [] }, time := { s.time with onRc := false } }
        let s := setF F.keepPwrClk_keep_on_rc 0 0 s
        (.ok, [], (pllRefresh (wakeAllBut 0x13 g.env.dead ds s) |> clearReasons [6])))

/-- The commands that calibrate, search, put out a tone, check the plan and set the map exchange of a neighbour (R171, R179, R207, R236).
The model's choices it rests on: logs 17, 33, 36. -/
def Obligations.RadioAndPlanCommands : Prop :=
  Acts 0x0408 .rfSynthCal (fun g s =>
      let p := gf g 1 1 0
      match portRefused g s [(1, 0), (8, 8)] with
      | some st => .now st [] s
      | none =>
        if !portEnabled s p then .now .notCommitted [] s
        else if domDead s (3 + p) then .now .domainFailed [] s
        else if getF F.airRfStatus_synth p s == 2 || (rf s p).searching then .now .busy [] s
        else
          let s := wakePort p s
          let s := if getF F.airRfStatus_synth p s == 2 then s
            else if gf g 1 8 8 = 1 then setRf p { rf s p with forceCal := true } s else calPend p s
          .later [p] s)
  ∧ Acts 0x0409 .rfTunerSearch (fun g s =>
      let p := gf g 1 1 0
      match portRefused g s [(1, 0), (8, 8)] with
      | some st => .now st [] s
      | none =>
        if !portEnabled s p then .now .notCommitted [] s
        else if domDead s (3 + p) then .now .domainFailed [] s
        else if !txOpen s then .now .outputsHeld [] s
        else if getF F.airRfStatus_synth p s == 2 || (rf s p).searching then .now .busy [] s
        else
          let s := wakePort p s
          let s := if gf g 1 8 8 = 1 then setRf p { rf s p with forceSearch := true } s
            else setRf p { rf s p with searchFrom := s.now } (setF F.airRfStatus_search_pending p 1 s)
          .later [p] s)
  ∧ Acts 0x040A .rfTestTone (fun g s =>
      let e := gf g 1 2 0
      let p := emPort s e
      let off := signedOf (gf g 2 23 0) 24
      let ms := gf g 3 31 16
      let khz := ((loKhz s p : Int) + off).toNat
      if !emitterPresent s e then .now .absent [] s
      else if !onlyFields g.words [[(2, 0)], [(23, 0)], [(31, 0)]] || 60000 < ms then .now .badParam [] s
      else if !emBound s e || !portEnabled s p then .now .notCommitted [] s
      else if ms = 0 then (if (em s e).tone.isSome then .now .ok [] (toneStop e s) else .now .okAlready [] s)
      else if !bandOk (loKhz s p) p (2 * khz) 0 then .now .badParam [] s
      else if !txOpen s then .now .outputsHeld [] s
      else if (em s e).tone.isSome then .now .busy [] s
      else
        .later [e] (setEm e { em s e with tone := some ⟨some g.lane.val, ms, off, 5 * signedOf (gf g 3 15 0) 16, 0⟩ } s))
  ∧ Answers 0x0424 .planCheck (fun _ s =>
      if !s.cfg.dirty then (.okAlready, [planCheckW s], s)
      else
        let x := planCheck (fun id r => stagedParam s id r) s
        ((if x.isNone then .ok else .badParam), [planWord x], (loadPlanCheck x s)))
  ∧ Reads 0x0425 .planReach (fun g s =>
      let k := gf g 1 3 0
      let pl := gf g 1 10 8
      let n := planCount s pl
      if !onlyFields g.words [[(3, 0), (10, 8)]] then (.badParam, [])
      else match (List.range 64).find? (fun l => lstKind s l == 2 && lstPool s l == k) with
        | none => (.notFound, [])
        | some l =>
          let p := planPort s pl
          if n = 0 then (.notFound, [])
          else if lstPort s l != p then (.badParam, [])
          else
            let cls := (List.range n).map (fun c => chanClass s p (chanKhz s pl c) (lstWidth s l))
            let num (v : Nat) : Nat := (cls.filter (· == v)).length
            let map := maskOf ((List.range n).filter (fun c => cls.getD c 1 == 0))
            (.ok, (wordOf [(num 0, 0), (num 1, 10), (num 2, 20)] :: (List.range 16).map (wordAt map))))
  ∧ Answers 0x0444 .gtLinkSet (fun g s =>
      let h := gf g 1 16 0
      let a := gf g 1 24 24 = 1
      let r := gf g 1 25 25 = 1
      if !onlyFields g.words [[(16, 0), (25, 24)]] then (.badParam, [], s)
      else match nbr s h with
        | none => (.notFound, [], s)
        | some n =>
          if n.b.gtAllowed == a && !r then (.okAlready, [], s)
          else
            let s := modBerth h (fun b => { b with gtAllowed := a }) s
            let s := if r then modNbr h (fun n => { n with newTx := none, mapDue := (false, false), rxConfirmed := false
                                                           b := { n.b with txMap := none, rxMap := none, oldRx := none, txConfirmed := false } }) s else s
            (.ok, [], s))
  ∧ Acts 0x0445 .gtMapGet (fun g s =>
      let h := gf g 1 16 0
      if !onlyFields g.words [[(16, 0), (24, 24)]] then .now .badParam [] s
      else match nbr s h with
        | none => .now .notFound [] s
        | some n =>
          if !n.resident then waitBerth g h s
          else
            let tx := gf g 1 24 24 = 0
            match (if tx then n.b.txMap else n.b.rxMap) with
            | some m =>
              .now .ok (wordOf [(1, 0), (b2n (if tx then n.b.txConfirmed else n.rxConfirmed), 1), (m.id, 8), (m.check, 16)] :: mapWords m) s
            | none => .now .ok (List.replicate 11 0) s)

/-- The commands of cells, of neighbours timing and of the ASN (R303 to R305).
The model's choices it rests on: logs 40, 60. -/
def Obligations.ScheduleCommands : Prop :=
  Answers 0x0510 .schCellAdd (fun g s =>
      match cellArgs g s with
      | .inl st => (st, [], s)
      | .inr (cs, eff) =>
        if cs.any (fun c => match c.handle with | some h => (nbr s h).isNone | none => false) then (.notFound, [], s)
        else if cs.any (fun c => (paramOpt s 0x0503 c.sf).isNone) then (.notCommitted, [], s)
        else
          let fresh := (cs.filter (fun c => !s.slm.cells.any (cellMatch c))).eraseDups
          let all := s.slm.cells ++ fresh
          if 262144 < all.length || fresh.any (fun c => decide (64 < (all.filter (fun d => d.sf == c.sf && d.off == c.off)).length)) then (.full, [], s)
          else if fresh.isEmpty then (.okAlready, asnWords eff, s)
          else (.ok, asnWords eff, (fresh.foldl (fun s c => lookInstalled c s) { s with slm := { s.slm with cells := all } })))
  ∧ Answers 0x0511 .schCellDelete (fun g s =>
      match cellArgs g s with
      | .inl st => (st, [], s)
      | .inr (cs, eff) =>
        if cs.any (fun c => !s.slm.cells.any (cellMatch c)) then (.notFound, [], s)
        else
          let hit (d : Cell) : Bool := cs.any (fun c => cellMatch c d)
          let cells := if slmRunning s then s.slm.cells.map (fun d => if hit d then { d with until' := some eff } else d)
            else s.slm.cells.filter (fun d => !hit d)
          (.ok, asnWords eff, { s with slm := { s.slm with cells := cells } }))
  ∧ Answers 0x0513 .schNbrTimingSet (fun g s =>
      let h := gf g 1 16 0
      let sampled := gf g 1 24 24 = 1
      let p := gf g 2 13 0
      let ph := gf g 2 29 16
      match handleRefused g s h [[(16, 0), (24, 24)], [(13, 0), (29, 16)], [(2, 0), (12, 4)]] with
      | some .absent => (.absent, [], s)
      | some .badParam => (.badParam, [], s)
      | r =>
        if (p != 0 && (p < 10 || 10000 < p)) || (if p = 0 then ph != 0 else decide (p ≤ ph))
          || (sampled && !cslChannelOk s (gf g 3 2 0) (gf g 3 12 4)) then (.badParam, [], s)
        else match r, nbr s h with
          | none, some n =>
            let was := phaseLost n.b
            let change := n.b.sampled != sampled
            let s := modBerth h (fun b => { b with sampled := sampled, period := p, phase := ph, plan := gf g 3 2 0, channel := gf g 3 12 4,
                                                   timing := if sampled then 4 else 0 }) s
            let s := if change then
                { s with slm := { s.slm with
                    contacts := s.slm.contacts.filter (fun c => c.handle != h || decide (c.tnom - c.uw ≤ s.time.ns))
                    offers := s.slm.offers.filter (fun o => o.handle != some h || decide (o.asn < nextAsn s)) } }
              else s
            let anchor := n.b.period != p || n.b.phase != ph
            let s := syncEvent h s
            let s := if change then writePersist h s else if anchor then persistChange h s else s
            (.ok, [], (if was then parkFlows h false s else s))
          | _, _ => (.notFound, [], s))
  ∧ Reads 0x0514 .schNbrTimingGet (fun g s =>
      let h := gf g 1 16 0
      match handleRefused g s h [[(16, 0)]], nbr s h with
      | some st, _ => (st, [])
      | none, none => (.notFound, [])
      | none, some n =>
        let b := n.b
        let u := (if b.sampled then uSampled s b else uncertainty s b) / 1000
        (.ok, [wordOf [(b2n b.sampled, 0), (b.timing, 1), (min b.misses 15, 4)], w32 (min u (2 ^ 32 - 1)),
          wordOf [(b.period, 0), (b.phase, 16)], wordOf [(b.plan, 0), (b.channel, 4)], wordAt b.sync 0, wordAt b.sync 1]))
  ∧ Answers 0x0515 .schAsnSet (fun g s =>
      let t := ofWords [gw g 1, gw g 2]
      if !onlyBits (gw g 4) [(7, 0)] || decide (t < s.time.ns + 1000000) then (.badParam, [], s)
      else if follower s || timeSource s = 3 then (.notPermitted, [], s)
      else if slmRunning s then (.busy, [], s)
      else (.ok, [], { s with slm := { s.slm with epoch := some (t, (gw g 3).toNat + 2 ^ 32 * gf g 4 7 0), asn := none, look := none } }))
  ∧ Answers 0x0516 .schRescan (fun _ s =>
      if !follower s then (.notPermitted, [], s)
      else if syncState s = 3 then (.okAlready, [], s)
      else (.ok, [], (syncStop (setSync 3 { s with slm := { s.slm with fromLost := true } }))))

/-- The commands of the neighbour store and of flows (R309, R331 to R338, R360).
The model's choices it rests on: logs 4, 19, 23, 73. -/
def Obligations.NeighbourCommands : Prop :=
  Answers 0x0601 .nbrAdd (fun g s =>
      let auto := gf g 1 17 17 = 1
      let ext := ofWords [gw g 2, gw g 3]
      let short := gf g 4 15 0
      let pan := gf g 4 31 16
      if !auto && !isF s && 32767 < gf g 1 16 0 then (.absent, [], s)
      else if !onlyFields g.words [[(19, 0)], [(31, 0)], [(31, 0)], [(31, 0)], [(31, 0)], [(31, 0)]] || ext = 0 || ext = 2 ^ 64 - 1
        || !linkOk (gw g 5) then (.badParam, [], s)
      else if domState s 2 == 3 || domState s 17 == 3 then (.domainFailed, [], s)
      else
        let ho := if auto then (if (findExt s ext).isSome || (findShort s short pan).isSome then some (handleLimit s) else freeHandle s)
          else some (gf g 1 16 0)
        match ho with
        | none => (.full, [], s)
        | some h =>
          match nbr s h with
          | some n =>
            if n.b.ext == ext && n.b.short == short && n.b.pan == pan then (.okAlready, [w32 h], s) else (.badParam, [], s)
          | none =>
            if h = handleLimit s || addrTaken s h ext short pan then (.badParam, [], s)
            else
              let s := makeRoom (wake 0x03 17 s)
              let p : Persist := ⟨false, gf g 1 18 18 = 1, gf g 1 19 19 = 1, false, 0, ext, short, pan, (gf g 6 15 0, gf g 6 31 16), (false, false), (0, 0), 0, 0⟩
              let b := withLink { buildBerth s p with txDsn := freeNow 8 s } (gw g 5)
              (.ok, [w32 h], (writePersist h (freeNext (setNbr h { b := b, resident := decide (0 < freeBerths s) || !isF s } s)))))
  ∧ Answers 0x0602 .nbrRemove (fun g s =>
      let h := gf g 1 16 0
      match handleRefused g s h [[(16, 0)]] with
      | some st => (st, [], s)
      | none =>
        let k := match nbr s h with
          | some n => framesOf n.b
          | none => 0
        (.ok, [w32 k], (nbrRemove h s)))
  ∧ Acts 0x0603 .nbrSet (fun g s =>
      let h := gf g 1 16 0
      let sel (i : Nat) : Bool := gf g 1 i i = 1
      match handleRefused g s h [[(16, 0), (27, 24)], [(2, 0)], [(31, 0)], [(31, 0)], [(31, 0)]] with
      | some st => .now st [] s
      | none =>
        if gf g 1 27 24 = 0 || (sel 25 && !linkOk (gw g 3)) then .now .badParam [] s
        else if sel 27 && (match findShort s (gf g 5 15 0) (gf g 5 31 16) with | some k => k != h | none => false) then .now .badParam [] s
        else if !resident s h then waitBerth g h s
        else
          let f (b : Berth) : Berth :=
            let b := if sel 24 then { b with unsecuredOk := gf g 2 0 0 = 1, shortSrc := gf g 2 1 1 = 1, pendForce := gf g 2 2 2 = 1 } else b
            let b := if sel 25 then withLink b (gw g 3) else b
            let k := (gf g 4 15 0, gf g 4 31 16)
            let b := if sel 26 then { b with keyRef := k, ctrValid := (b.ctrValid.1 && k.1 == b.keyRef.1, b.ctrValid.2 && k.2 == b.keyRef.2) } else b
            if sel 27 then { b with short := gf g 5 15 0, pan := gf g 5 31 16 } else b
          let t := modBerth h f s
          .now .ok [] (match nbr s h with
            | some n => if persistOf (f n.b) == persistOf n.b then t else writePersist h t
            | none => t))
  ∧ Acts 0x0604 .nbrGet (fun g s =>
      let h := gf g 1 16 0
      match handleRefused g s h [[(16, 0)]] with
      | some st => .now st [] s
      | none =>
        match nbr s h with
        | none => .now .notFound [] s
        | some n =>
          if n.quarantined then
            .now .ok ((List.range 16).map (berthWord h (match tabFind s.persist h with | some p => buildBerth s p | none => { ext := n.b.ext }))) s
          else if !n.resident then waitBerth g h s
          else .now .ok ((List.range 16).map (berthWord h (shownBerth s n))) s)
  ∧ Reads 0x0605 .nbrFind (fun g s =>
      let short := gf g 1 0 0 = 1
      if !onlyFields g.words [[(0, 0)], [(31, 0)], [(31, 0)]] || (short && gw g 3 != 0) then (.badParam, [])
      else match (if short then findShort s (gf g 2 15 0) (gf g 2 31 16) else findExt s (ofWords [gw g 2, gw g 3])) with
        | none => (.notFound, [])
        | some h => (.ok, [wordOf [(h, 0), (b2n (!nbrLive s h), 17), (b2n (resident s h), 18)]]))
  ∧ Acts 0x0606 .nbrStats (fun g s =>
      let h := gf g 1 16 0
      if !isF s then .now .absent [] s
      else match handleRefused g s h [[(16, 0), (24, 24)]] with
        | some st => .now st [] s
        | none =>
          if !resident s h then waitBerth g h s
          else
            .now .ok ((List.range 16).map (fun i => w32 (Config.freeValue (s.freeCtr + i)))) { s with freeCtr := s.freeCtr + 16 })
  ∧ Answers 0x0607 .nbrRestore (fun g s =>
      let h := gf g 1 16 0
      match handleRefused g s h [[(16, 0)]] with
      | some st => (st, [], s)
      | none =>
        match nbr s h, tabFind s.persist h with
        | some n, some p =>
          if !n.quarantined then (.okAlready, [], s)
          else
            let s := makeRoom s
            (.ok, [], (setNbr h { b := { buildBerth s p with hostPin := n.b.hostPin }, persistedAt := n.persistedAt } s))
        | some n, none => if !n.quarantined then (.okAlready, [], s) else (.notFound, [], s)
        | none, _ => (.notFound, [], s))
  ∧ Answers 0x0608 .nbrPin (fun g s =>
      let h := gf g 1 16 0
      let v := gf g 1 24 24 = 1
      match handleRefused g s h [[(16, 0), (24, 24)]] with
      | some st => (st, [], s)
      | none =>
        match nbr s h with
        | none => (.notFound, [], s)
        | some n =>
          if n.b.hostPin == v then (.okAlready, [], s)
          else if v && 1024 ≤ hostPins s then (.full, [], s)
          else
            let s := if n.resident then s else needBerth h 2 s
            (.ok, [], (modBerth h (fun b => { b with hostPin := v }) s)))
  ∧ Acts 0x0C10 .trfFlowSet (fun g s =>
      let h := gf g 1 16 0
      let c := gf g 1 18 17
      let sw := gf g 1 19 19 = 1
      let sp := gf g 1 20 20 = 1
      match handleRefused g s h [[(20, 0), (31, 24)]] with
      | some st => .now st [] s
      | none =>
        if !sw && !sp then .now .badParam [] s
        else if !resident s h then waitBerth g h s
        else
          let f := flow s h c
          let w := if gf g 1 31 28 = 15 then 255 else 16 * gf g 1 31 28
          let p := gf g 1 27 24
          if (!sw || f.weight == w) && (!sp || f.profile == p) then .now .okAlready [] s
          else
            .now .ok [] (modFlow h c (fun f => { f with
              weight := if sw then w else f.weight
              profile := if sp then p else f.profile
              credit := if sp then min f.credit (profCeil s p) else f.credit }) s))
  ∧ Acts 0x0C11 .trfFlowGet (fun g s =>
      let h := gf g 1 16 0
      match handleRefused g s h [[(18, 0)]] with
      | some st => .now st [] s
      | none => if !resident s h then waitBerth g h s else .now .ok (flowWords s (flow s h (gf g 1 18 17))) (freeNext s))

/-- The commands of the key store (R392, R419, R420).
The model's choices it rests on: log 43. -/
def Obligations.KeyCommands : Prop :=
  Answers 0x0702 .keyIngressWrite (fun g s =>
      if 4096 < ingressWords s + g.words.length then (.full, [], s)
      else
        let s := g.words.foldl (fun s w => ingressWrite w s) s
        (.ok, [w32 (ingressWords s)], s))
  ∧ Answers 0x0703 .keyIngressClear (fun _ s =>
      (.ok, [], (ingressClear s)))
  ∧ Answers 0x0704 .keyParcelSubmit (fun g s =>
      let ovf := getB F.keepKeyIngressStat_overflow 0 s
      let held := s.keys.holdAtStart && reason s 7
      let ws := s.keys.ingress
      let s := ingressClear s
      let r : Status × List Word × State :=
        if !s.keys.general then (.domainFailed, [], s)
        else if ovf then (.badParam, [], s)
        else submitParcel ws g.env.alarm s
      let t := setF F.keepKeyIngressStat_last_status 0 r.1.code r.2.2
      let t := if held && !reason t 7 && !t.keys.erased && t.keys.nextRoot.isNone && !recovering t then
          startFromRoot (t.now - 1002000) g.env.start { t with keys := { t.keys with holdAtStart := false } }
        else t
      (r.1, r.2.1, t))
  ∧ Reads 0x0705 .keyStatus (fun _ s =>
      (.ok, ([keyStateW s, wordAt (parcelCtr s) 0, wordAt (parcelCtr s) 1, w32 (keysHeld s)]
        ++ (List.range 8).map (wordAt (commitRec s).2))))
  ∧ Reads 0x0706 .keyInfo (fun g s =>
      let e := gf g 1 12 0
      if !onlyFields g.words [[(12, 0)]] then (.badParam, [])
      else if !s.keys.rootOk then (.notPermitted, [])
      else match keyOf s e, tabFind s.keys.vault e with
        | some k, some v =>
          (.ok, [wordOf [(k.usage, 0), (k.length, 8), (k.idMode, 16), (b2n k.group, 18), (k.txLevel, 20), (k.index, 24)],
            wordAt k.source 0, wordAt k.source 1, wordAt v.next 0, wordAt v.next 1,
            wordAt (leaseBoundary v) 0, wordAt (leaseBoundary v) 1, w32 (refCount s e)])
        | _, _ => (.notFound, []))
  ∧ Reads 0x0707 .tamperStatus (fun _ s =>
      (.ok, [tampPolicyW s, tampStatusW s,
        wordOf [(getF F.keepTampCnt_alarms 0 s, 0), (getF F.keepTampCnt_snuffs 0 s, 16)]]))
  ∧ Reads 0x0708 .cipherStatus (fun _ s =>
      (.ok, [ciphStatusW s, w32 (getF F.linkCiphCntJobs_jobs 0 s), w32 (getF F.linkCiphCntJobs_jobs 1 s),
        w32 (getF F.linkCiphCntCache_cache_miss 0 s),
        wordOf [(getF F.linkCiphCntKat_kat_runs 0 s, 0), (getF F.linkCiphCntKat_kat_fail 0 s, 16)],
        w32 (getF F.linkCiphCntOverflow_overflow 0 s),
        wordOf [(getF F.linkCiphCntLease_lease_wait 0 s, 0), (getF F.linkCiphCntLease_exhausted_keys 0 s, 16)],
        wordOf [(getF F.netHciphStatus_in_service 0 s, 0), (getF F.netHciphStatus_parked 0 s, 1), (getF F.netHciphStatus_preempted 0 s, 4)],
        w32 (getF F.netHciphCntJobs_jobs 0 s), w32 (getF F.netHciphCntPreempt_preempts 0 s),
        wordOf [(getF F.netHciphCntKat_kat_runs 0 s, 0), (getF F.netHciphCntKat_kat_fail 0 s, 16)]]))

/-- The commands of the route tables (R371, R372, R384). -/
def Obligations.ForwardingCommands : Prop :=
  Answers 0x0810 .fwdRouteAdd (fun g s =>
      let i := infoRoute s g.words
      let w := (gw g 5).toNat
      if i.absent then (.absent, [], s)
      else if !i.ok then (.badParam, [], s)
      else
        let s := wakeFwd s
        match lookupRoute s i.res with
        | some r =>
          if r.static && r.entry == w then (.okAlready, [], s)
          else (.ok, [], (setRoutes (tabPut s.fwd.routes i.res ⟨w, 0, true⟩) s))
        | none =>
          if g.env.noPath || 131072 ≤ s.fwd.routes.length then (.full, [], s)
          else (.ok, [], (setRoutes (tabPut s.fwd.routes i.res ⟨w, 0, true⟩) s)))
  ∧ Answers 0x0811 .fwdRouteDelete (fun g s =>
      let s := wakeFwd s
      match lookupRoute s (gAddr g) with
      | some _ => (.ok, [], (setRoutes (tabDel s.fwd.routes (gAddr g)) s))
      | none => (.notFound, [], s))
  ∧ Answers 0x0812 .fwdRouteGet (fun g s =>
      let s := wakeFwd s
      match lookupRoute s (gAddr g) with
      | some r => (.ok, [w32 (ewShown r), w32 r.age], s)
      | none => (.notFound, [], s))
  ∧ Answers 0x0813 .fwdRouteFlush (fun g s =>
      let scope := gf g 1 1 0
      let h := gf g 1 18 2
      if !isF s && scope = 1 && 32767 < h then (.absent, [], s)
      else if !onlyFields g.words [[(18, 0)]] || scope = 3 || (scope != 1 && h != 0) then (.badParam, [], s)
      else
        let s := wakeFwd s
        let gone (r : Route) : Bool :=
          if scope = 0 then !r.static else if scope = 1 then !r.static && ewKind r.entry == 0 && ewTarget r.entry == h else r.static
        let k := (s.fwd.routes.filter (fun e => gone e.2)).length
        (.ok, [w32 k], (setRoutes (s.fwd.routes.filter (fun e => !gone e.2)) s)))
  ∧ Answers 0x0820 .fwdPrefixAdd (fun g s =>
      let i := infoPrefix s g.words
      let w := setBit (gw g 6).toNat 28 true
      if i.absent then (.absent, [], s)
      else if !i.ok then (.badParam, [], s)
      else if lpmSwitching s then (.busy, [], s)
      else
        let s := wakeFwd s
        let go : State := { s with fwd := { s.fwd with prefixes := tabPut s.fwd.prefixes i.res w } }
        match tabFind s.fwd.prefixes i.res with
        | some v => if v == w then (.okAlready, [], s) else (.ok, [], go)
        | none => if g.env.noPath || prefixCapacity (fwdF s 1 0 0) ≤ s.fwd.prefixes.length then (.full, [], s) else (.ok, [], go))
  ∧ Answers 0x0821 .fwdPrefixDelete (fun g s =>
      match gPrefix g with
      | none => (.badParam, [], s)
      | some k =>
        if lpmSwitching s then (.busy, [], s) else
        let s := wakeFwd s
        match tabFind s.fwd.prefixes k with
        | some _ => (.ok, [], { s with fwd := { s.fwd with prefixes := tabDel s.fwd.prefixes k } })
        | none => (.notFound, [], s))
  ∧ Answers 0x0822 .fwdPrefixGet (fun g s =>
      match gPrefix g with
      | none => (.badParam, [], s)
      | some k =>
        let s := wakeFwd s
        match tabFind s.fwd.prefixes k with
        | some w => (.ok, [w32 w], s)
        | none => (.notFound, [], s))
  ∧ Answers 0x0823 .fwdLookup (fun g s =>
      let s := wakeFwd s
      match lookupRoute s (gAddr g), lookupPrefix s (gAddr g) with
      | some r, _ => (.ok, [wordOf [(1, 0), (128, 8)], w32 (ewShown r), w32 r.age], s)
      | none, some (l, w) => (.ok, [wordOf [(2, 0), (l, 8)], w32 w, 0], s)
      | none, none => (.ok, [0, 0, 0], s))
  ∧ Reads 0x0830 .fwdStatus (fun _ s =>
      let two (a b : Field) : Word := wordOf [(getF a 0 s, 0), (getF b 0 s, 16)]
      let one (a : Field) : Word := w32 (getF a 0 s)
      (.ok, ((List.range 4).map (fwdTableW s) ++
        [one F.netFwdCntUp_fwd_up, one F.netFwdCntDown_fwd_down, two F.netFwdCntLearn_learned F.netFwdCntLearn_moves,
          two F.netFwdCntLearnErr_learn_full F.netFwdCntLearnErr_static_conflict, two F.netFwdCntAge_aged F.netFwdCntAge_hit_at_age,
          two F.netFwdCntMiss_no_route F.netFwdCntMiss_no_nbr, two F.netFwdCntExc_hop_limit F.netFwdCntExc_too_big,
          two F.netFwdCntDrop_gate_drop F.netFwdCntDrop_hairpin, one F.netFwdCntRetry_lookup_retry,
          two F.netFwdCntIphc_iphc_bad F.netFwdCntIphc_to_cores, two F.netFwdCntReasm_reasm_done F.netFwdCntReasm_reasm_timeout,
          two F.netFwdCntFrag_reasm_full F.netFwdCntFrag_frag_overlap, two F.netFwdCntFrag2_frag_dup F.netFwdCntFrag2_frag_abandon,
          one F.netFwdCntFrags_frags_sent])))

/-- The commands of time (R447, R448).
The model's choices it rests on: logs 2, 48, 49. -/
def Obligations.TimeCommands : Prop :=
  Reads 0x0902 .timeStatus (fun _ s =>
      (.ok, [wordAt s.time.ns 0, wordAt s.time.ns 1, timeStateW s, i32 (rateAdj s), w32 (getF F.keepTimeOffset_last_offset 0 s),
        timeCfgW s, timeCntW s 0, timeCntW s 1, timeCntW s 2, wordAt (timeMaster s) 0, wordAt (timeMaster s) 1]))
  ∧ Answers 0x0903 .timeSet (fun g s =>
      if timeSource s != 0 && timeState s != 0 then (.notPermitted, [], s)
      else
        let d : Int := (ofWords (g.words.take 2) : Nat) - (s.time.ns : Int)
        let s := stepTime d 2 s
        if timeSource s != 0 then (.ok, [], s)
        else
          let s := s |> count F.keepTimeCntSync_syncs 0 |> histAdd 16 (offsetBin 0) 1 |> setF F.keepTimeOffset_last_offset 0 0
            |> setF F.keepTimeState_source_ok 0 1
          let s := timeLock (rateAdj s) 0 s
          (.ok, [], { s with time := { s.time with lastSync := some s.time.ns, lastGlide := glideNow s } }))
  ∧ Answers 0x0904 .timeOffset (fun g s =>
      if timeSource s != 0 then (.notPermitted, [], s)
      else (.ok, [], (timeSync (signedOf (gw g 1).toNat 32) s)))
  ∧ Answers 0x0905 .timeAccept (fun _ s =>
      if glideEff s then (.notPermitted, [], s)
      else if timeState s != 4 then (.okAlready, [0, 0], s)
      else
        let o := s.time.heldOffset
        let s := timeLock (rateAdj s) o (stepTime o 1 s)
        let u := unsignedOf o 64
        (.ok, [wordAt u 0, wordAt u 1], { s with time := { s.time with lastSync := some s.time.ns, heldOffset := 0 } }))
  ∧ Answers 0x0906 .timeTsqFetch (fun g s =>
      let n := gf g 1 4 0
      if !onlyFields g.words [[(4, 0)]] || n = 0 || 16 < n then (.badParam, [], s)
      else
        let xs := s.time.tsq.take n
        let lost := min 65535 (getF F.linkTsqOvf_ovf 0 s)
        (.ok, (wordOf [(xs.length, 0), (lost, 16)] :: xs.flatMap tsqWords), (setF F.linkTsqOvf_ovf 0 0 { s with time := { s.time with tsq := s.time.tsq.drop n } })))
  ∧ Answers 0x0907 .timeRegRead (fun g s =>
      if !timeAddrOk (gw g 1).toNat then (.badParam, [], s)
      else (.ok, [(readReg (gw g 1).toNat s).1], (readReg (gw g 1).toNat s).2))
  ∧ Answers 0x0908 .timeRegWrite (fun g s =>
      if !timeAddrOk (gw g 1).toNat then (.badParam, [], s) else (.ok, [], (writeReg (gw g 1).toNat (gw g 2) s)))
  ∧ Reads 0x090A .aadcTrimGet (fun g s =>
      let n := gf g 1 1 0
      let k := gf g 1 8 8
      if !onlyFields g.words [[(1, 0), (8, 8)]] then (.badParam, [])
      else (.ok, [i32 (if k = 0 then 65536 + factoryOf s 0x10 n else factoryOf s 0x11 n), i32 (aadcTrim s n k),
        i32 (if k = 0 then aadcGain s n else aadcOffset s n)]))

/-- The commands of the logbook, of clusters and of the torch (R507, R526).
The model's choices it rests on: logs 11, 82. -/
def Obligations.LogbookClusterAndTorchCommands : Prop :=
  Reads 0x0A10 .logStatus (fun _ s =>
      (.ok, [w32 s.diag.seq, wordOf [(s.diag.lastLoc, 0), (s.diag.invalid, 2)], w32 s.diag.jseq, w32 (journalOldest s)]))
  ∧ Reads 0x0A11 .logCountersGet (fun g s =>
      let first := gf g 1 7 0
      let n := gf g 1 14 8
      if !onlyFields g.words [[(14, 0)]] || n == 0 || 256 < first + n then (.badParam, [])
      else (.ok, (wordOf [(first, 0), (n, 8)] :: (List.range n).flatMap
        (fun i => [wordAt (tabGet s.diag.life (first + i) 0) 0, wordAt (tabGet s.diag.life (first + i) 0) 1]))))
  ∧ Reads 0x0A12 .logHistGet (fun g s =>
      let h := gf g 1 4 0
      if !onlyFields g.words [[(4, 0)]] || 23 < h then (.badParam, [])
      else (.ok, ((List.range 16).map (fun b => w32 (tabGet s.diag.hist (16 * h + b) 0)))))
  ∧ Reads 0x0A13 .logClassGet (fun _ s =>
      (.ok, ((List.range 40).map (fun i => w32 (tabGet s.diag.cls i 0)))))
  ∧ Reads 0x0A14 .logJournalGet (fun g s =>
      let start := (gw g 1).toNat
      let max := gf g 2 4 0
      if !onlyFields g.words [[(31, 0)], [(4, 0)]] || max == 0 then (.badParam, [])
      else
        let from' := if start = 0 then s.diag.journal else s.diag.journal.dropWhile (fun e => e.seq != start)
        if start != 0 && from'.isEmpty then (.notFound, [])
        else
          let es := from'.take max
          (.ok, (w32 es.length :: es.flatMap journalWords)))
  ∧ Answers 0x0A15 .logFlush (fun _ s =>
      let s' := fullFlush 0x14 s
      if domDead s 2 || !domOn s' 2 then (.domainFailed, [], s) else (.ok, [w32 s'.diag.seq], s'))
  ∧ Reads 0x0B03 .clusterStatus (fun _ s =>
      (.ok, ([0, 1, 2, 3, 4, 5, 8, 9, 16, 17, 18, 19, 20].map (yowWord s))))
  ∧ Reads 0x0B04 .torchStatus (fun _ s =>
      if !torchCapable s then (.absent, []) else (.ok, ((List.range 8).map (torchWord s))))
  ∧ Answers 0x0B05 .torchControl (fun g s =>
      if !torchCapable s then (.absent, [], s)
      else if !onlyFields g.words [[(1, 0)]] || 1 < gf g 1 1 0 then (.badParam, [], s)
      else if gf g 1 1 0 = 0 then (if mayHandOver s then (.ok, [], (handOver s)) else (.notPermitted, [], s))
      else if !torchYield s then (.okAlready, [], s)
      else (.ok, [], (setF F.keepTorchStatus_yield 0 0 s)))
  ∧ Acts 0x0B06 .torchResync (fun g s =>
      if !torchCapable s then .now .absent [] s
      else if !torchOn s || !holdsTorch s || !s.torch.peerOk then .now .notPermitted [] s
      else if s.torch.resync.isSome then .now .busy [] s
      else
        .later [] { s with torch := { s.torch with
          resync := some (g.lane.val, 0, none), sent := [], sentCells := [], sentCfg := [], sentLeases := [] } })

/-- The steps of a slot (R268, R276, R278 to R284, R299): its boundary advances the ASN; 64 slots ahead it enters the look-ahead, which asks
for the berth of a dedicated cell; its TX cells are offered and then admitted with an emitter and a listener, or counted; its receive
cells place expectations on the listeners that their channels are given, or are counted unheard; after a forward step of keep time the
boundaries passed over are counted and announced, and after a backward one none is.
The model's choices it rests on: logs 3, 12, 51, 53, 54, 95. -/
def Obligations.SlotsAreProcessed : Prop :=
  (∀ (s : State), slmRunning s = true → s.slm.stepped = none → follower s = false →
    Leads .slotBoundary s (fun t => t.slm.asn = some (nextAsn s % 2 ^ 40) ∧ t.slm.epoch = s.slm.epoch
      ∧ t.time = (waitKeep (slotAt s (nextAsn s)) s).time ∧ t.lst = s.lst ∧ t.em = s.em ∧ RegsButFor [] s t))
  ∧ (∀ (n : Nat) (s : State), slmRunning s = true → s.slm.look = some (n - 1) → nextAsn s < n → installedIn s n = [] → autoTxIn s n = [] →
    autoRxIn s n = [] →
    Leads .lookaheadEntry s (fun t => t.slm.look = some n ∧ t.time = (waitKeep (slotAt s n - 64 * slotNs s) s).time
      ∧ t.nbrs = s.nbrs ∧ RegsButFor [] s t))
  ∧ (∀ (n h : Nat) (c : Cell) (nb : Nbr) (s : State), slmRunning s = true → s.slm.look = some (n - 1) → nextAsn s < n → installedIn s n = [c] →
    c.handle = some h → c.shared = false → autoTxIn s n = [] → autoRxIn s n = [] → nbr s h = some nb →
    Leads .lookaheadEntry s (fun t => t.slm.look = some n ∧ Counts F.linkSlmCntLookahead_berth_requests 0 true s t
      ∧ (nbr t h).map (·.claim) = some (some (match nb.claim with
        | some u => min u (slotAt s n)
        | none => slotAt s n))))
  ∧ (∀ (n h k : Nat) (c : Cell) (s : State), slmRunning s = true → domOn s 18 = true → nextAsn s = n → txCells s n = [c] → c.beacon = false →
    txSyncOk s c = true → s.slm.claims = [] → s.slm.offers = [] →
    (cellPick (cellReady n c (urgentRound (waitKeep (slotAt s n - 300000) s))).1 n c
      (cellReady n c (urgentRound (waitKeep (slotAt s n - 300000) s))).2).flow = some (h, k) →
    Leads .cellOffer s (fun t =>
      t.slm.offers.map (fun o => (o.asn, o.handle, o.cls, o.port, o.khz, o.emitter)) = [(n, some h, k, planPort s (cellChan s c.sf n c.choff).1,
        chanKhz s (cellChan s c.sf n c.choff).1 (cellChan s c.sf n c.choff).2, none)]
      ∧ t.slm.offers.map (fun o => (o.start, o.ackFrom)) = t.slm.offers.map (fun o => (slotAt s n + txOffset s c.sf,
        slotAt s n + txOffset s c.sf + o.air + txAckDelay s c.sf - ackWaitNs s c.sf / 2))
      ∧ Counts F.netSchedCntOffer_offers_taken 0 true s t ∧ Counts F.linkSlmCntFit_fit_skip 0 false s t))
  ∧ (∀ (e n : Nat) (o : SlotTx) (s : State), slmRunning s = true → s.slm.offers = [o] → o.asn = nextAsn s → o.port < 3 → o.emitter = none →
    o.contact = false → o.beacon = false → emReaches s o.port o.khz o.mode = true →
    freeEmitter s o.port (offerSpan s o).1 (offerSpan s o).2 = some e →
    ackListener s o.port o.khz (modeWidth o.mode) o.ackFrom o.ackTo (some (sfPool s o.sf)) (keepers s o.asn) = some n →
    blankFits s o (some n) = true →
    Leads .txAdmission s (fun t => t.slm.offers = [{ o with emitter := some e, listener := some n }]
      ∧ t.time = (waitKeep (slotAt s (nextAsn s) - 150000) s).time ∧ t.nbrs = s.nbrs ∧ RegsButFor [] s t))
  ∧ (∀ (o : SlotTx) (s : State), slmRunning s = true → s.slm.offers = [o] → o.asn = nextAsn s → o.port < 3 → o.emitter = none →
    o.contact = false → emReaches s o.port o.khz o.mode = true → freeEmitter s o.port (offerSpan s o).1 (offerSpan s o).2 = none →
    Leads .txAdmission s (fun t => t.slm.offers = [] ∧ Counts F.linkSlmCntEmitter_emitter_short 0 true s t ∧ t.nbrs = s.nbrs
      ∧ RegsButFor [F.linkSlmCntEmitter_emitter_short.key 0] s t))
  ∧ (∀ (l : Nat) (x : Expect) (s1 s : State), slmRunning s = true → s1 = waitKeep (slotAt s (nextAsn s) - 100000) s →
    demands s1 (nextAsn s) = [x] → x.rank = 2 → x.listener = none → s.slm.contacts = [] → fixedHears s x.port x.khz 1 = none →
    (List.range 64).filter (fun i => lstKind s i == 2 && !lstRetired s i) = [l] → poolFor s x.port x.khz (some (sfPool s x.sf)) = [l] →
    lstKhz s l ≠ x.khz → expectBlanked s1 x l = false →
    Leads .channelAssignment s (fun t => (lst t l).next = some (x.khz, x.channel, x.mid - x.half - 50000) ∧ (lst t l).khz = (lst s l).khz
      ∧ t.slm.expects = s.slm.expects ++ [{ x with listener := some l }] ∧ Counts F.linkSlmCntRetune_retunes 0 true s t
      ∧ t.time = s1.time ∧ RegsButFor [F.linkSlmCntRetune_retunes.key 0] s t))
  ∧ (∀ (x : Expect) (s1 s : State), slmRunning s = true → s1 = waitKeep (slotAt s (nextAsn s) - 100000) s →
    demands s1 (nextAsn s) = [x] → x.rank = 2 → x.listener = none → s.slm.contacts = [] → fixedHears s x.port x.khz 1 = none →
    (List.range 64).filter (fun i => lstKind s i == 2 && !lstRetired s i) = [] →
    Leads .channelAssignment s (fun t => t.slm.expects = s.slm.expects ∧ Counts F.linkSlmCntUnheard_rx_unheard 0 true s t
      ∧ t.lst = s.lst ∧ RegsButFor [F.linkSlmCntUnheard_rx_unheard.key 0] s t))
  ∧ (∀ (d first n : Nat) (s : State), slmRunning s = true → s.slm.stepped = some d → 0 < d → nextAsn s = first →
    asnFrom s (waitKeep (slotAt s first + d) s).time.ns = n → first < n →
    Leads .scheduleRebase s (fun t => t.slm.asn = some (n - 1) ∧ t.slm.stepped = none ∧ t.time = (waitKeep (slotAt s first + d) s).time
      ∧ getF F.linkSlmCntSkip_slots_skipped 0 t = satAdd 16 (getF F.linkSlmCntSkip_slots_skipped 0 s) (n - first)
      ∧ Raised Ev.linkSlotsSkipped [(first, 40), (n - first, 32)] s t ∧ t.nbrs = s.nbrs))
  ∧ (∀ (d : Int) (s : State), s.slm.stepped = some d → d ≤ 0 →
    Leads .scheduleRebase s (fun t => t = { s with slm := { s.slm with stepped := none } }))

/-- Contacts and missed beacons (R288 to R291, R297, R298): the contact of the head that the scheduler chooses is placed at the first
sample instant that its emitter, its listener and the receive cells allow, the instants passed over counted; a TIMEKEEPING cell without
its beacon counts a miss, and the third one ends SYNCED with LINK_SYNC_WEAK.
The model's choices it rests on: logs 3, 51, 55, 58. -/
def Obligations.ContactsArePlacedAndBeaconsMissed : Prop :=
  (∀ (h k r w : Nat) (nb : Nbr) (q : QFrame) (c : Contact) (s1 s : State), getF F.keepTimeState_source_ok 0 s = 1 → domOn s 15 = true →
    domOn s 18 = true → follower s = false → s1 = countPick (contactPick (contactReady s).1 (contactReady s).2) (contactReady s).1 →
    contactPick (contactReady s).1 (contactReady s).2 = ⟨some (h, k), false, 0⟩ → nbr s1 h = some nb → (flowOf nb.b k).frames.head? = some q →
    nb.b.sampled = true → cslTiming s1 nb.b = nb.b.timing → nb.b.timing < 6 →
    contactSearch s1 h k nb.b (frameAir s1 nb q) false
      (if nb.b.period = 0 then s1.time.ns + halfWake s1 nb.b + prepNs s1 (planPort s1 nb.b.plan)
        else nominalFrom nb.b (s1.time.ns + halfWake s1 nb.b + prepNs s1 (planPort s1 nb.b.plan)))
      (s1.time.ns + lookSpan s1) 65 = (r, some c) →
    w = getF F.linkSlmCntCslMiss_csl_defer 0 s →
    Leads .contactPlacement s (fun t => t.slm.contacts = s.slm.contacts ++ [c] ∧ c.handle = h ∧ c.cls = k
      ∧ getF F.linkSlmCntCslMiss_csl_defer 0 t = (if nb.b.period = 0 then w else satAdd 16 w r)
      ∧ Counts F.netSchedCntOffer_offers_taken 0 true s t ∧ Counts F.linkSlmCntLookahead_berth_requests 0 true s t))
  ∧ (∀ (x : Expect) (m : Nat) (s : State), follower s = true → s.slm.expects = [x] → x.keeping = true → x.listener.isSome = true →
    getF F.linkSlmStatus_missed_eb 0 s = m → m ≠ 2 → m < 255 → syncState s = 0 →
    Leads .ebMissed s (fun t => getF F.linkSlmStatus_missed_eb 0 t = m + 1 ∧ t.slm.expects = [] ∧ Counts F.linkSlmCntEb_eb_missed 0 true s t
      ∧ t.time = (waitKeep (x.mid + x.half) s).time ∧ syncState t = 0 ∧ t.evq = s.evq))
  ∧ (∀ (x : Expect) (s : State), follower s = true → s.slm.expects = [x] → x.keeping = true → x.listener.isSome = true →
    getF F.linkSlmStatus_missed_eb 0 s = 2 → syncState s = 0 → timeState s = 0 →
    2 * uSelf (setSync 1 (waitKeep (x.mid + x.half) s)) < guardMin s →
    Leads .ebMissed s (fun t => getF F.linkSlmStatus_missed_eb 0 t = 3 ∧ t.slm.expects = [] ∧ Counts F.linkSlmCntEb_eb_missed 0 true s t
      ∧ syncState t = 1
      ∧ Raised Ev.linkSyncWeak [(parentOf s, 17), (3, 8), (uSelfUs (setSync 1 (waitKeep (x.mid + x.half) s)), 32)] s t))

/-- The chairlift (R313 to R320, R323, R326 to R331): a fetch brings a berth, built from its persistent entry where it must be; below
free_reserve a clean berth that is neither pinned, claimed nor used goes at once and a dirty one is written back first; below spill_low
the pages of a neighbour with nothing in the look-ahead go to DRAM, and a fill brings them back; a poisoned record quarantines its
neighbour; a reset of NET_DDR loses what was not on die; a dirty persistent entry is written at the end of its interval.
The model's choices it rests on: logs 3, 18, 40, 73, 97. -/
def Obligations.TheChairliftMovesBerthsAndPages : Prop :=
  (∀ (h : Nat) (env : Env) (n : Nbr) (s : State), nbr s h = some n → n.fetch.isSome = true → n.built = true → domOn s 17 = true →
    ddrUp s = true → freeBerths s ≠ 0 → s.recs = [] →
    Leads (.berthFetchComplete h env) s (fun t =>
      nbr t h = some { n with resident := true, dirty := false, used := true, writing := false, fetch := none }
      ∧ t.persist = s.persist ∧ t.now = s.now ∧ RegsButFor [] s t))
  ∧ (∀ (h : Nat) (env : Env) (n : Nbr) (p : Persist) (s : State), nbr s h = some n → n.fetch.isSome = true → n.built = false →
    domOn s 17 = true → freeBerths s ≠ 0 → s.recs = [] → tabFind s.persist h = some p →
    Leads (.berthFetchComplete h env) s (fun t => (nbr t h).map (·.b) = some (buildBerth s p)
      ∧ (nbr t h).map (fun m => (m.resident, m.dirty, m.built, m.fetch)) = some (true, true, true, none)
      ∧ Counts F.linkStoreCntRebuild_rebuilds 0 true s t ∧ RegsButFor [F.linkStoreCntRebuild_rebuilds.key 0] s t))
  ∧ (∀ (h : Nat) (n : Nbr) (rest : List (Nat × Nbr)) (s : State), isF s = true → domOn s 17 = true → s.nbrs = (h, n) :: rest →
    rest.all (fun e => e.1 != h && e.2.b.hostPin && !e.2.writing) = true → freeBerths s < freeReserve s → evictable s h n = true →
    n.claim = none →
    Leads .evictionSweep s (fun t =>
      nbr t h = some (if n.used then { n with used := false }
        else if n.dirty then { n with writing := true, changed := false } else { n with resident := false, claim := none })
      ∧ Counts F.linkStoreCntEvict_evictions 0 (!n.used && !n.dirty) s t ∧ RegsButFor [F.linkStoreCntEvict_evictions.key 0] s t))
  ∧ (∀ (h : Nat) (n : Nbr) (s : State), nbr s h = some n → n.writing = true → ddrUp s = true →
    Leads (.writebackComplete h) s (fun t =>
      nbr t h = some (if n.changed then { n with writing := false, changed := false }
        else { n with writing := false, dirty := false, resident := false, claim := none })
      ∧ Counts F.linkStoreCntWriteback_writebacks 0 true s t ∧ Counts F.linkStoreCntEvict_evictions 0 (!n.changed) s t
      ∧ RegsButFor [F.linkStoreCntWriteback_writebacks.key 0, F.linkStoreCntEvict_evictions.key 0] s t))
  ∧ (∀ (h : Nat) (n : Nbr) (s : State), isF s = true → ddrUp s = true → freePages s < spillLow s → s.nbrs = [(h, n)] →
    spillable s h n.b = true → (flowOf n.b 1).busy = false →
    (flowOf n.b 1).frames.length = 1 → (flowOf n.b 1).frames.all (fun q => q.spilled == 0 && q.pages == 1 && q.group == 2) = true →
    ([0, 2, 3].all fun c => (flowOf n.b c).frames.isEmpty) = true → spilledPages s = 0 → 0 < quotaUsed s 2 →
    Leads .pageSpill s (fun t => (flow t h 1).frames = (flowOf n.b 1).frames.map (fun q => { q with spilled := 1 })
      ∧ quotaUsed t 2 = quotaUsed s 2 - 1 ∧ spilledPages t = 1 ∧ Counts F.linkStoreCntSpill_spills 0 true s t))
  ∧ (∀ (h : Nat) (q : QFrame) (s : State), ddrUp s = true → (flow s h 1).frames = [q] → q.spilled ≠ 0 → q.spilled ≤ freePages s →
    (nbr s h).isSome = true →
    Leads (.pageFillComplete (.flow h 1) false) s (fun t => (flow t h 1).frames = [{ q with spilled := 0 }]
      ∧ quotaUsed t q.group = quotaUsed s q.group + q.spilled
      ∧ getF F.linkStoreCntFill_fills 0 t = satAdd 32 (getF F.linkStoreCntFill_fills 0 s) q.spilled))
  ∧ (∀ (h : Nat) (q : QFrame) (s : State), ddrUp s = true → (flow s h 1).frames = [q] → q.spilled ≠ 0 → q.dgram = none →
    (nbr s h).isSome = true →
    Leads (.pageFillComplete (.flow h 1) true) s (fun t => (flow t h 1).frames = [] ∧ Counts F.linkStoreCntFill_fills 0 false s t))
  ∧ (∀ (r : Fin 32) (prog : Nat) (d : Delivery) (s : State), s.fwd.deliver = [d] → d.ring = r → d.spilled ≠ 0 → d.parked = false →
    Leads (.dmaSpilledPage r prog) s (fun t => t.fwd.deliver = [{ d with moved := min prog d.len / 64 * 64, parked := true }]
      ∧ Counts F.linkStoreCntMissD_miss_d 0 true s t ∧ RegsButFor [F.linkStoreCntMissD_miss_d.key 0] s t))
  ∧ (∀ (h t0 : Nat) (n : Nbr) (s : State), nbr s h = some n → n.dirtyAt.isSome = true → n.persistedAt = some t0 → domOn s 2 = true →
    Leads (.persistIntervalWrite h) s (fun t => t.persist = tabPut s.persist h (persistOf n.b)
      ∧ t.now = max s.now (t0 + 1000000000 * rxPersist s) ∧ nbr t h = some { n with persistedAt := some t.now, dirtyAt := none }))
  ∧ (∀ (h : Nat) (backing lasting : Bool) (n : Nbr) (s : State), s.nbrs = [(h, n)] → n.quarantined = false → backing = false →
    n.resident = true → s.recs = [] → s.fwd.reasm = [] → ((List.range 8).all fun e => (em s e).tx.isNone) = true → s.awaiting = [] →
    s.slm.contacts = [] →
    Leads (.recordPoisoned h backing lasting) s (fun t => (nbr t h).map (·.quarantined) = some true
      ∧ ((List.range 4).all fun c => (flow t h c).frames.isEmpty) = true ∧ t.persist = s.persist
      ∧ Counts F.linkStoreCntEcc_poisoned 0 true s t
      ∧ Raised Ev.linkNbrQuarantined [(h, 17), (b2n backing, 1), (b2n lasting, 1)] s t))
  ∧ (∀ (h : Nat) (n : Nbr) (s : State), isF s = true → s.net.ddrLost = true → s.nbrs = [(h, n)] → n.resident = false →
    Leads .ddrResetRebuild s (fun t => (nbr t h).map (·.built) = some false ∧ t.net.ddrLost = false
      ∧ ((List.range 4).all fun c => (flow t h c).frames.isEmpty) = true
      ∧ Raised Ev.linkStoreRebuild [(1, 32), (framesOf n.b, 32)] s t))

/-- The scheduler and the flow cores (R343 to R355): each millisecond the credits of resident flows rise by their rate, up to the ceiling; a
flow whose head is old enough enters the urgent tier; the sampler counts depth, age and ring fill; items start in order of class, run to
their end or wait on a flag; what a failing core held restarts or completes as failed.
The model's choices it rests on: logs 3, 21, 22, 27, 44, 100. -/
def Obligations.FlowsAreScheduledAndItemsDispatched : Prop :=
  (∀ (h : Nat) (c : Fin 4) (n : Nbr) (s : State), domOn s 18 = true → s.nbrs = [(h, n)] → n.resident = true →
    Leads .creditRefill s (fun t => t.now = max s.now (s.trf.refillAt + 1000000) ∧ t.trf.refillAt = t.now / 1000000 * 1000000
      ∧ (flow t h c).credit = (if profRate s (flowOf n.b c).profile = 1000000 then profCeil s (flowOf n.b c).profile
          else min (profCeil s (flowOf n.b c).profile) ((flowOf n.b c).credit
            + ((profRate s (flowOf n.b c).profile * (t.now / 1000000) / 1000 : Nat)
              - (profRate s (flowOf n.b c).profile * (s.trf.refillAt / 1000000) / 1000 : Nat) : Int)))
      ∧ (flow t h c).frames = (flowOf n.b c).frames ∧ RegsButFor [] s t))
  ∧ (∀ (h : Nat) (c : Fin 4) (n : Nbr) (s : State), domOn s 18 = true → s.nbrs = [(h, n)] → entersUrgent s h c = true →
    ((List.range 4).all fun k => k == c.val || !entersUrgent s h k) = true →
    Leads .urgentEntry s (fun t => (flow t h c).urgent = true ∧ (flow t h c).frames = (flowOf n.b c).frames
      ∧ ((List.range 4).all fun k => k == c.val || (flow t h k).urgent == (flowOf n.b k).urgent) = true
      ∧ Counts F.netSchedCntUrgent_urgent_entries 0 true s t ∧ RegsButFor [F.netSchedCntUrgent_urgent_entries.key 0] s t))
  ∧ (∀ (h : Nat) (c : Fin 4) (n : Nbr) (s : State), samplerEn s = true → domOn s 18 = true → s.nbrs = [(h, n)] → n.resident = true →
    s.trf.cursor = none → (flowOf n.b c).frames.isEmpty = false →
    ((List.range 4).all fun k => k == c.val || (flowOf n.b k).frames.isEmpty) = true →
    Leads .samplerVisit s (fun t => t.trf.cursor = some (4 * h + c)
      ∧ t.trf.hist = (sample 1 c (ageBin (s.time.ns - headEnq (flowOf n.b c)))
          (sample 0 c (min 11 (Nat.log2 (flowOf n.b c).frames.length)) s)).trf.hist
      ∧ t.nbrs = s.nbrs ∧ RegsButFor [] s t))
  ∧ (∀ (r : Fin 32) (s : State), samplerEn s = true → domOn s 18 = true →
    (List.range 32).filter (fun i => getB F.netRingCfg_enable i s) = [r.val] →
    Leads .ringFillSample s (fun t => t.trf.hist = tabSetN s.trf.hist (1024 + 16 * r + min 15 (16 * ringUsed s r / ringSize s r))
        (satAdd 32 (tabGet s.trf.hist (1024 + 16 * r + min 15 (16 * ringUsed s r / ringSize s r)) 0) 1)
      ∧ { t with trf := s.trf } = s))
  ∧ (∀ (core : Fin 8) (x : CoreItem) (s : State), coreOk s core = true → domOn s 20 = true → activationPauses s = false →
    s.trf.items.all (fun y => y.core != some core.val) = true → nextReady s = some x →
    Leads (.dispatchItemStart core none) s (fun t => t.trf.items = s.trf.items.filter (fun y => y.id != x.id)
      ∧ t.fwd.deliver.length = s.fwd.deliver.length + 1
      ∧ (t.fwd.deliver.getLast?).map (fun d => (d.ring, d.len, d.handle, d.pages, d.reason)) = some (steerRing s, x.len, x.handle, x.pages, x.what)
      ∧ Counts F.netCoreCnt_items core true s t ∧ Counts F.netCoreCntHost_steered 0 true s t
      ∧ RegsButFor [F.netCoreCnt_items.key core, F.netCoreCntHost_steered.key 0] s t))
  ∧ (∀ (core : Fin 8) (f : Fin 16) (x : CoreItem) (s : State), coreOk s core = true → domOn s 20 = true → activationPauses s = false →
    s.trf.items = [x] → x.core = none →
    itemRunnable x = true →
    Leads (.dispatchItemStart core (some f)) s (fun t =>
      t.trf.items = [{ x with core := some core.val, flags := setBit x.flags f false, mask := 2 ^ f.val }]
      ∧ t.fwd = s.fwd ∧ RegsButFor [] s t))
  ∧ (∀ (id : Nat) (f : Fin 16) (core : Fin 8) (x : CoreItem) (s : State), s.trf.items = [x] → x.id = id → x.core = some core.val →
    x.mask = 2 ^ f.val → x.flags = 0 →
    Leads (.taskEventFlag id f) s (fun t => t.trf.items = [] ∧ t.fwd.deliver.length = s.fwd.deliver.length + 1
      ∧ Counts F.netCoreCnt_items core true s t ∧ Counts F.netCoreCntHost_steered 0 true s t))
  ∧ (∀ (id : Nat) (f : Fin 16) (x : CoreItem) (s : State), s.trf.items = [x] → x.id = id → Nat.land (setBit x.flags f true) x.mask = 0 →
    Leads (.taskEventFlag id f) s (fun t => t.trf.items = [{ x with flags := setBit x.flags f true }] ∧ t.fwd = s.fwd ∧ RegsButFor [] s t))
  ∧ (∀ (core : Fin 8) (delivered : Bool) (x : CoreItem) (s : State), coreOk s core = true → s.trf.items = [x] → x.core = some core.val →
    (testQueue (testBlock 6 core) s).length < 8 →
    Leads (.flowCoreFault core delivered) s (fun t =>
      t.trf.items = (if delivered then [] else [{ x with core := none, flags := 1, mask := 1 }])
      ∧ Counts F.netCoreCntFail_core_failed 0 delivered s t ∧ coreOk t core = false
      ∧ quotaUsed t 7 = quotaUsed s 7 - (if delivered then x.pages else 0)))

/-- Forwarding and reassembly (R361 to R379): a packet under an entry goes to a host ring, to a backhaul port while the FWD gate line is
open, or into the flow of a neighbour, whole or refused; one that no entry names goes to miss_ring or is dropped; a fragment starts,
joins or completes its reassembly, and a duplicate is discarded; a timeout abandons it; the ager removes an entry at age_limit unless a
lookup meets it.
The model's choices it rests on: logs 3, 45, 97. -/
def Obligations.PacketsAreForwardedAndReassembled : Prop :=
  (∀ (noPath : Bool) (u : UpPkt) (r : Route) (s : State), s.fwd.up = [u] → s.fwd.reasm = [] → u.origin = 3 → isStandby s = false →
    domOn s 19 = true → isMulticast u.pkt.dst = false → isLinkLocal u.pkt.dst = false → lookupRoute s u.pkt.dst = some r →
    r.static = true → ewKind r.entry = 3 →
    Leads (.packetDecision noPath false) s (fun t => t.fwd.up = [] ∧ t.fwd.routes = s.fwd.routes
      ∧ t.fwd.deliver.length = s.fwd.deliver.length + 1
      ∧ (t.fwd.deliver.getLast?).map (fun d => (d.ring, d.len, d.pages, d.cls, d.reason)) = some (ewTarget r.entry, u.pkt.len, u.pages,
          ewClass s r.entry u.pkt, 1)
      ∧ Counts F.netFwdCntUp_fwd_up 0 true s t ∧ RegsButFor [F.netFwdCntUp_fwd_up.key 0] s t))
  ∧ (∀ (noPath : Bool) (u : UpPkt) (r : Route) (s : State), s.fwd.up = [u] → s.fwd.reasm = [] → u.origin = 3 → isStandby s = false →
    domOn s 19 = true → isMulticast u.pkt.dst = false → isLinkLocal u.pkt.dst = false → lookupRoute s u.pkt.dst = some r →
    r.static = true → ewKind r.entry = 1 → fwdOpen s = false →
    Leads (.packetDecision noPath false) s (fun t => t.fwd = { s.fwd with up := [] } ∧ t.outs = s.outs
      ∧ quotaUsed t u.group = quotaUsed s u.group - (u.pages - u.spilled) ∧ Counts F.netFwdCntDrop_gate_drop 0 true s t
      ∧ Counts F.netFwdCntUp_fwd_up 0 false s t))
  ∧ (∀ (noPath : Bool) (u : UpPkt) (r : Route) (s : State), s.fwd.up = [u] → s.fwd.reasm = [] → u.origin = 3 → isStandby s = false →
    domOn s 19 = true → isMulticast u.pkt.dst = false → isLinkLocal u.pkt.dst = false → lookupRoute s u.pkt.dst = some r →
    r.static = true → ewKind r.entry = 1 → fwdOpen s = true → 1 < u.pkt.hop → u.pkt.len ≤ ethMtu s 0 → redundMode s = 0 →
    getF F.netEthStatus_link 0 s = 1 → ethGateway s 0 ≠ 0 →
    Leads (.packetDecision noPath false) s (fun t => t.fwd = { s.fwd with up := [] } ∧ t.outs = .eth 0 0x86DD u.pkt.len :: s.outs
      ∧ Counts F.netEthCntTx_tx_frames 0 true s t ∧ Counts F.netFwdCntUp_fwd_up 0 true s t))
  ∧ (∀ (noPath : Bool) (u : UpPkt) (r : Route) (n : Nbr) (s : State), s.fwd.up = [u] → s.fwd.reasm = [] → u.origin = 3 →
    isStandby s = false → domOn s 19 = true → isMulticast u.pkt.dst = false → isLinkLocal u.pkt.dst = false →
    lookupRoute s u.pkt.dst = some r → r.static = true → ewKind r.entry = 0 → nbr s (ewTarget r.entry) = some n → n.quarantined = false →
    1 < u.pkt.hop → u.pkt.len ≤ 2047 → u.pages = 0 →
    (fragmentLens s n.b { u.pkt with hop := u.pkt.hop - 1 }).length = 1 →
    (flow s (ewTarget r.entry) (ewClass s r.entry u.pkt)).frames.length < 4095 →
    canGrant s (1 + ewClass s r.entry u.pkt) ((fragmentLens s n.b { u.pkt with hop := u.pkt.hop - 1 }).map pagesOf).sum = true →
    Leads (.packetDecision noPath false) s (fun t => t.fwd = { s.fwd with up := [] }
      ∧ (flow t (ewTarget r.entry) (ewClass s r.entry u.pkt)).frames.map (fun q => (q.octets, q.enq))
        = (flow s (ewTarget r.entry) (ewClass s r.entry u.pkt)).frames.map (fun q => (q.octets, q.enq))
          ++ (fragmentLens s n.b { u.pkt with hop := u.pkt.hop - 1 }).map (fun l => (l, s.time.ns))
      ∧ Counts F.netFwdCntDown_fwd_down 0 true s t))
  ∧ (∀ (noPath : Bool) (u : UpPkt) (s : State), s.fwd.up = [u] → s.fwd.reasm = [] → u.origin = 3 → isStandby s = false →
    domOn s 19 = true → isMulticast u.pkt.dst = false → isLinkLocal u.pkt.dst = false → lookupRoute s u.pkt.dst = none →
    lookupPrefix s u.pkt.dst = none →
    Leads (.packetDecision noPath false) s (fun t => t.fwd.up = [] ∧ Counts F.netFwdCntMiss_no_route 0 true s t
      ∧ t.fwd.deliver.length = s.fwd.deliver.length + (if fwdF s 1 3 3 = 1 then 0 else 1)))
  ∧ (∀ (f : FragIn) (s : State), s.fwd.frags = [f] → nbrLive s f.handle = true → domOn s 19 = true → s.fwd.reasm = [] →
    f.offset + f.len < f.size →
    Leads .fragmentReceived s (fun t => t.fwd.frags = []
      ∧ t.fwd.reasm.map (fun r => (r.handle, r.tag, r.size, r.parts)) = [(f.handle, f.tag, f.size, [(f.offset, f.len)])]
      ∧ t.fwd.reasm.map (fun r => (r.first, r.pages, r.complete)) = [(s.now, f.pages, false)] ∧ RegsButFor [] s t))
  ∧ (∀ (f : FragIn) (r : Reasm) (s : State), s.fwd.frags = [f] → nbrLive s f.handle = true → domOn s 19 = true → s.fwd.reasm = [r] →
    r.complete = false → r.handle = f.handle → r.tag = f.tag → r.size = f.size → r.spilled = 0 → s.fwd.up = [] →
    f.offset + f.len ≤ f.size → r.parts.any (fragOverlap (f.offset, f.len)) = false → r.parts.contains (f.offset, f.len) = false →
    (r.parts.map (·.2)).sum + f.len = f.size →
    Leads .fragmentReceived s (fun t => t.fwd.frags = [] ∧ t.fwd.reasm = []
      ∧ t.fwd.up = [{ pkt := f.pkt, origin := 0, handle := f.handle, pages := r.pages + f.pages, group := 5, ts := f.ts }]
      ∧ Counts F.netFwdCntReasm_reasm_done 0 true s t ∧ RegsButFor [F.netFwdCntReasm_reasm_done.key 0] s t))
  ∧ (∀ (f : FragIn) (r : Reasm) (s : State), s.fwd.frags = [f] → nbrLive s f.handle = true → domOn s 19 = true → s.fwd.reasm = [r] →
    r.complete = false → r.handle = f.handle → r.tag = f.tag → r.size = f.size → f.offset + f.len ≤ f.size →
    r.parts.contains (f.offset, f.len) = true →
    Leads .fragmentReceived s (fun t => t.fwd = { s.fwd with frags := [] } ∧ quotaUsed t 5 = quotaUsed s 5 - f.pages
      ∧ Counts F.netFwdCntFrag2_frag_dup 0 true s t))
  ∧ (∀ (r : Reasm) (s : State), s.fwd.reasm = [r] → r.complete = false →
    Leads (.reassemblyTimeout r.handle r.tag r.size) s (fun t => t.fwd = { s.fwd with reasm := [] }
      ∧ t.now = max s.now (r.first + reasmTimeout s) ∧ quotaUsed t 5 = quotaUsed s 5 - (r.pages - r.spilled)
      ∧ Counts F.netFwdCntReasm_reasm_timeout 0 true s t))
  ∧ (∀ (r : Reasm) (s : State), isF s = true → ddrUp s = true → s.fwd.reasm = [r] → r.complete = false → r.spilled = 0 → 0 < r.pages →
    r.latest + 1000000 * fwdF s 3 15 0 ≤ s.now → freePages s + r.pages ≤ spillLow s → spilledPages s + r.pages ≤ 262144 →
    Leads .reassemblySpill s (fun t => t.fwd.reasm = [{ r with spilled := r.pages, headDie := false }]
      ∧ quotaUsed t 5 = quotaUsed s 5 - r.pages
      ∧ getF F.linkStoreCntSpill_spills 0 t = satAdd 32 (getF F.linkStoreCntSpill_spills 0 s) r.pages))
  ∧ (∀ (a : Nat) (hit : Bool) (r : Route) (s : State), lookupRoute s a = some r → r.static = false → domOn s 19 = true →
    Leads (.agerVisit a hit) s (fun t => t.fwd.routes = (if hit then tabPut s.fwd.routes a { r with age := 0 }
        else if fwdF s 1 19 12 ≤ r.age + 1 then tabDel s.fwd.routes a else tabPut s.fwd.routes a { r with age := r.age + 1 })
      ∧ Counts F.netFwdCntAge_hit_at_age 0 hit s t ∧ Counts F.netFwdCntAge_aged 0 (!hit && decide (fwdF s 1 19 12 ≤ r.age + 1)) s t
      ∧ RegsButFor [F.netFwdCntAge_hit_at_age.key 0, F.netFwdCntAge_aged.key 0] s t))

/-- Keys, leases, cipher engines and tamper (R391, R392, R402, R403, R406, R409 to R416): a word written to the ingress buffer is appended
or lost; a missed key is cached, the least recently used making room; a counter within half a lease of its boundary gets the next one; an
engine whose test fails twice is out of service; an alarm has the effects of its source's policy, and its end shows.
The model's choices it rests on: logs 40, 42, 65. -/
def Obligations.KeysAreCachedLeasedAndSnuffed : Prop :=
  (∀ (w : Word) (s : State), pcieUsed s = true → keepUp s = true → domOn s 1 = true →
    Leads (.keyIngressDataWrite w) s (fun t =>
      t.keys.ingress = (if s.keys.ingress.length < 4096 then s.keys.ingress ++ [w] else s.keys.ingress)
      ∧ getF F.keepKeyIngressStat_overflow 0 t = (if s.keys.ingress.length < 4096 then getF F.keepKeyIngressStat_overflow 0 s else 1)
      ∧ RegsButFor [F.keepKeyIngressStat_overflow.key 0] s t ∧ { t with regs := s.regs, keys := s.keys } = s))
  ∧ (∀ (e : Fin 8192) (s : State), (keyOf s e).isSome = true → s.keys.cache.contains e.val = false → s.keys.rootOk = true →
    s.keys.debugActive = false → tamperHold s = false → domOn s 2 = true → s.keys.cache.length < 4096 →
    Leads (.keyCacheMiss e) s (fun t => t.keys = { s.keys with cache := e.val :: s.keys.cache }
      ∧ Counts F.linkCiphCntCache_cache_miss 0 true s t ∧ RegsButFor [F.linkCiphCntCache_cache_miss.key 0] s t
      ∧ { t with regs := s.regs, keys := s.keys, diag := s.diag } = s))
  ∧ (∀ (e : Fin 8192) (c : List Nat) (x : Nat) (s : State), (keyOf s e).isSome = true → s.keys.cache = c ++ [x] → c.length = 4095 →
    c.contains x = false → s.keys.cache.contains e.val = false → s.recs = [] → s.keys.rootOk = true → s.keys.debugActive = false →
    tamperHold s = false → domOn s 2 = true →
    Leads (.keyCacheMiss e) s (fun t => t.keys = { s.keys with cache := e.val :: c } ∧ Counts F.linkCiphCntCache_cache_miss 0 true s t))
  ∧ (∀ (e : Fin 8192) (v : VEntry) (k : KSlot) (s : State), tabFind s.keys.vault e = some v → keyOf s e = some k → 1 ≤ k.usage →
    k.usage ≤ 3 → getF F.keepTorchStatus_role 0 s ≠ 1 → domOn s 2 = true →
    Leads (.leaseExtension e) s (fun t => t.keys = (if leaseBoundary v ≤ v.next + leaseLen s / 2 then { s.keys with
        vault := tabPut s.keys.vault e { v with
          leases := tabPut v.leases ((leaseSeq v + 1) % 8) (leaseBoundary v + leaseLen s, leaseSeq v + 1) } } else s.keys)
      ∧ { t with keys := s.keys } = s))
  ∧ (∀ (e : Fin 4) (s : State), engineOk s e = true → domOn s (if e.val < 2 then 16 else if e.val = 2 then 21 else 1) = true →
    Leads (.knownAnswerTest e 0) s (fun t => Counts (katFields e).1 0 true s t ∧ RegsButFor [(katFields e).1.key 0] s t
      ∧ { t with regs := s.regs, diag := s.diag } = s))
  ∧ (∀ (e : Fin 4) (n : Fin 3) (s : State), engineOk s e = true → domOn s (if e.val < 2 then 16 else if e.val = 2 then 21 else 1) = true →
    n.val ≠ 0 →
    Leads (.knownAnswerTest e n) s (fun t => getF (katFields e).1 0 t = satAdd 16 (getF (katFields e).1 0 s) 2
      ∧ getF (katFields e).2 0 t = satAdd 16 (getF (katFields e).2 0 s) n
      ∧ (n.val = 2 → engineOk t e = false) ∧ t.keys.cache = s.keys.cache ∧ t.recs = s.recs))
  ∧ (∀ (src : Fin 5) (s : State), serving s = true → s.start.testHeld = false → tamperMonitored s src = true → tamperPolicy s src = 0 →
    domOn s 1 = true → domOn s 2 = true →
    Leads (.tamperAlarm src) s (fun t => bitOf (getF F.keepTampStatus_active 0 t) src = true
      ∧ bitOf (getF F.keepTampStatus_latched 0 t) src = true ∧ getF F.keepTampStatus_last_source 0 t = src
      ∧ getF F.keepTampStatus_last_situation 0 t = 1 ∧ Counts F.keepTampCnt_alarms 0 true s t
      ∧ Raised Ev.keepTamper [(src, 32), (s.keys.tamper, 10), (1, 32), (0, 1)] s t
      ∧ (t.diag.journal.getLast?).map (fun j => (j.type, j.time)) = some (5, s.time.ns)
      ∧ RegsButFor [F.keepTampStatus_active.key 0, F.keepTampStatus_latched.key 0, F.keepTampStatus_last_source.key 0,
          F.keepTampStatus_last_situation.key 0, F.keepTampCnt_alarms.key 0] s t
      ∧ { t with regs := s.regs, evq := s.evq, diag := s.diag } = s))
  ∧ (∀ (src : Fin 5) (s : State), serving s = true → s.start.testHeld = false → s.start.gateReady = true → tamperMonitored s src = true →
    tamperPolicy s src ≠ 0 → domOn s 1 = true → domOn s 2 = true →
    Leads (.tamperAlarm src) s (fun t => reason t 7 = true ∧ gateOpen t = 0 ∧ t.keys.cache = []
      ∧ Counts F.keepTampCnt_snuffs 0 true s t ∧ Counts F.keepTampCnt_alarms 0 true s t
      ∧ t.keys.vault = (if tamperPolicy s src = 2 then [] else s.keys.vault)
      ∧ t.keys.erased = (s.keys.erased || tamperPolicy s src == 2)
      ∧ t.keys.owned = s.keys.owned ∧ t.keys.ownerKey = s.keys.ownerKey ∧ t.keys.tamper = s.keys.tamper ∧ parcelCtr t = parcelCtr s
      ∧ t.nbrs.all (fun e => !e.2.resident || e.2.b.keyRef == (0, 0)) = true
      ∧ (t.recs.any (fun r => decide (2 ≤ r.job))) = false))
  ∧ (∀ (src : Fin 5) (s : State), Leads (.tamperAlarmConditionEnd src) s (fun t =>
      bitOf (getF F.keepTampStatus_active 0 t) src = false
      ∧ (∀ i : Fin 5, i ≠ src → bitOf (getF F.keepTampStatus_active 0 t) i = bitOf (getF F.keepTampStatus_active 0 s) i)
      ∧ RegsButFor [F.keepTampStatus_active.key 0] s t ∧ { t with regs := s.regs } = s))

/-- Keep time at a sync with offset o (R425, R428, R429): in UNSET it steps by o and becomes LOCKED; in LOCKED, within jump_ns, it is
corrected by rate alone, by the proportional and integral terms with the limit of 100 ppm; beyond jump_ns the offset is held under
guard, and starts a count of agreeing syncs in FREE under glide; FREE, HELD and SLEWING become LOCKED within jump_ns, eight agreeing
syncs beyond it start a slew, and an offset away from the slew's prediction ends it.
The model's choices it rests on: logs 3, 48, 49. -/
def Obligations.KeepTimeFollowsItsSource : Prop :=
  (∀ (o : Int) (s : State), timeSource s ≠ 0 → timeState s = 0 → s.slm.epoch = none → s.time.trigs = [] →
    Leads (.timeSyncEvent o) s (fun t => (t.time.ns : Int) = (s.time.ns + o) % (2 ^ 64 : Nat) ∧ timeState t = 1
      ∧ getF F.keepTimeState_source_ok 0 t = 1 ∧ Counts F.keepTimeCntEvt_steps 0 true s t ∧ Counts F.keepTimeCntSync_syncs 0 true s t
      ∧ t.time.lastSync = some t.time.ns ∧ t.now = s.now))
  ∧ (∀ (o : Int) (s : State), timeSource s ≠ 0 → timeState s = 1 → o.natAbs ≤ jumpNs s → 1 ≤ servoTc s →
    Leads (.timeSyncEvent o) s (fun t =>
      (t.time.integ : Rat) / servoUnit = (servoTerms (s.time.integ / servoUnit) o (s.time.ns - s.time.lastSync.getD s.time.ns) (servoTc s)).1
      ∧ |(rateAdj t : Rat) - (servoTerms (s.time.integ / servoUnit) o (s.time.ns - s.time.lastSync.getD s.time.ns) (servoTc s)).2 * 2 ^ 40|
          ≤ 1 / 2
      ∧ t.time.ns = s.time.ns ∧ timeState t = 1 ∧ Counts F.keepTimeCntSync_syncs 0 true s t
      ∧ getI F.keepTimeOffset_last_offset 0 t = o ∧ t.time.lastSync = some s.time.ns
      ∧ RegsButFor [F.keepTimeRate_rate_adj.key 0, F.keepTimeCntSync_syncs.key 0, F.keepTimeOffset_last_offset.key 0] s t
      ∧ { t with regs := s.regs, time := s.time, diag := s.diag } = s))
  ∧ (∀ (o : Int) (s : State), timeSource s ≠ 0 → glideNow s = false → timeState s = 1 ∨ timeState s = 2 ∨ timeState s = 4 →
    jumpNs s < o.natAbs →
    Leads (.timeSyncEvent o) s (fun t => timeState t = 4 ∧ t.time.heldOffset = o ∧ t.time.ns = s.time.ns ∧ rateAdj t = rateAdj s
      ∧ Counts F.keepTimeCntEvt_refused 0 true s t ∧ Raised Ev.keepTimeRefused [(unsignedOf o 64, 64)] s t))
  ∧ (∀ (o : Int) (s : State), timeSource s ≠ 0 → o.natAbs ≤ jumpNs s →
    (glideNow s = false ∧ (timeState s = 2 ∨ timeState s = 4)) ∨ (glideNow s = true ∧ timeState s = 3) →
    Leads (.timeSyncEvent o) s (fun t => timeState t = 1 ∧ t.time.ns = s.time.ns
      ∧ rateAdj t = clampI (-549755814) 549755814 (if timeState s = 3 then s.time.heldRate else rateAdj s)
      ∧ t.time.integ = (if timeState s = 3 then s.time.heldRate else rateAdj s) * (servoUnit / 2 ^ 40 : Nat)
      ∧ Raised Ev.keepTimeLocked [(timeSource s, 2), (unsignedOf o 32, 32)] s t))
  ∧ (∀ (o : Int) (s : State), timeSource s ≠ 0 → glideNow s = true → timeState s = 1 → jumpNs s < o.natAbs →
    Leads (.timeSyncEvent o) s (fun t => timeState t = 2 ∧ t.time.offsets = [o] ∧ getF F.keepTimeState_agree 0 t = 1
      ∧ t.time.ns = s.time.ns ∧ rateAdj t = rateAdj s ∧ Counts F.keepTimeCntFree_changes 0 true s t
      ∧ Raised Ev.keepTimeFree [(timeSource s, 2), (1, 2)] s t))
  ∧ (∀ (o : Int) (l : List Int) (s : State), timeSource s ≠ 0 → glideNow s = true → timeState s = 2 → s.time.offsets = l →
    l.length < 8 → ((o :: l).all (fun x => (o :: l).all (fun y => decide (x ≤ y + jumpNs s)))) = true →
    Leads (.timeSyncEvent o) s (fun t => t.time.ns = s.time.ns
      ∧ timeState t = (if l.length < 7 then 2 else if o.natAbs ≤ jumpNs s then 1 else 3)
      ∧ getF F.keepTimeState_agree 0 t = (if l.length < 7 then l.length + 1 else 0)
      ∧ rateAdj t = (if l.length < 7 then rateAdj s else clampI (-549755814) 549755814
          (if o.natAbs ≤ jumpNs s then rateAdj s else if 0 < o then rateAdj s + 10995116 else rateAdj s - 10995116))))
  ∧ (∀ (o : Int) (s : State), timeSource s ≠ 0 → glideNow s = true → timeState s = 3 → jumpNs s < o.natAbs → 0 < s.time.slew.1 →
    s.time.slew.2 ≤ s.time.ns → -549755814 ≤ s.time.heldRate → s.time.heldRate ≤ 549755814 →
    100000 * (jumpNs s : Int) < (100000 * o - (100000 * s.time.slew.1 - ((s.time.ns : Int) - s.time.slew.2))).natAbs →
    Leads (.timeSyncEvent o) s (fun t => timeState t = 2 ∧ rateAdj t = s.time.heldRate ∧ t.time.ns = s.time.ns
      ∧ Raised Ev.keepTimeFree [(timeSource s, 2), (2, 2)] s t))

/-- Loss and change of master, PTP and the timestamps (R424, R427, R428, R432, R435): a loss leaves keep time FREE at its last or held
rate; a change does so under glide, and is counted alone under guard; source HOST knows neither; a Sync is a sync event with the offset of
R423; a peer delay request is answered twice; a timestamp leaves its queue and is latched; an edge of PPS_IN latches keep time.
The model's choices it rests on: logs 48, 49, 50. -/
def Obligations.SourcesComeAndGo : Prop :=
  (∀ s : State, timeSource s ≠ 0 → timeState s = 1 ∨ timeState s = 3 ∨ timeState s = 4 →
    Leads .sourceLoss s (fun t => timeState t = 2 ∧ Counts F.keepTimeCntFree_losses 0 true s t ∧ t.time.ns = s.time.ns
      ∧ rateAdj t = (if timeState s = 3 then clampI (-549755814) 549755814 s.time.heldRate else rateAdj s)
      ∧ getF F.keepTimeState_source_ok 0 t = getF F.keepTimeState_source_ok 0 s
      ∧ Raised Ev.keepTimeFree [(timeSource s, 2), (0, 2)] s t))
  ∧ (∀ (gm : Nat) (s : State), timeSource s = 0 → exec .sourceLoss s = .next s ∧ exec (.masterChange gm) s = .next s)
  ∧ (∀ (gm : Nat) (s : State), timeSource s ≠ 0 → timeState s = 1 ∨ (timeState s = 3 ∧ glideEff s = true) →
    Leads (.masterChange gm) s (fun t => t.time.master = gm ∧ Counts F.keepTimeCntFree_changes 0 true s t ∧ t.time.ns = s.time.ns
      ∧ timeState t = (if glideEff s then 2 else timeState s)
      ∧ (glideEff s = true → Raised Ev.keepTimeFree [(timeSource s, 2), (1, 2)] s t) ∧ (glideEff s = false → t.evq = s.evq)))
  ∧ (∀ (q : Nat) (origin corr : Int) (s : State), timeSource s = 1 → getB F.netEthStatus_link (ptpPort s) s = true →
    exec (.ptpMessage (.sync q false origin corr)) s
      = exec (.timeSyncEvent (origin + corr + s.time.pathDelay - s.time.ns)) { s with time := { s.time with
          syncDiff := some (s.time.ns - origin - corr), syncPending := none } })
  ∧ (∀ (q rx : Nat) (origin corr : Int) (s : State), timeSource s = 1 → getB F.netEthStatus_link (ptpPort s) s = true →
    s.time.syncPending = some (q, rx) →
    exec (.ptpMessage (.followUp q origin corr)) s
      = exec (.timeSyncEvent (origin + corr + s.time.pathDelay - rx)) { s with time := { s.time with
          syncDiff := some (rx - origin - corr), syncPending := none } })
  ∧ (∀ (gm : Nat) (s : State), timeSource s = 1 → getB F.netEthStatus_link (ptpPort s) s = true → s.time.master ≠ 0 →
    gm ≠ s.time.master → glideEff s = true → timeState s = 1 →
    Leads (.ptpMessage (.announce gm true)) s (fun t => t.time.master = gm ∧ timeState t = 2
      ∧ Counts F.keepTimeCntFree_changes 0 true s t))
  ∧ (∀ s : State, timeSource s = 1 → getB F.netEthStatus_link (ptpPort s) s = true → ptpP2p s = true →
    Leads (.ptpMessage .pdelayReq) s (fun t => t.outs.length = s.outs.length + 2 ∧ { t with outs := s.outs } = s))
  ∧ (∀ (x : TsqEntry) (q : List TsqEntry) (s : State), domOn s 15 = true → s.time.tsq = x :: q → x.word < 2 ^ 31 →
    Leads .tsqPop s (fun t => t.time.tsq = q ∧ t.outs = .readData 0x404000 (x.word + 2 ^ 31) :: s.outs
      ∧ getF F.linkTsqW_word 0 t = x.ts % 2 ^ 32 ∧ getF F.linkTsqW_word 1 t = x.ts / 2 ^ 32 % 2 ^ 32
      ∧ getF F.linkTsqW_word 2 t = x.mode % 2 ^ 32))
  ∧ (∀ s : State, domOn s 15 = true → s.time.tsq = [] →
    Leads .tsqPop s (fun t => t.time.tsq = [] ∧ t.outs = .readData 0x404000 0 :: s.outs
      ∧ getF F.linkTsqW_word 0 t = 0 ∧ getF F.linkTsqW_word 1 t = 0 ∧ getF F.linkTsqW_word 2 t = 0))
  ∧ (∀ s : State, Leads .ppsInEdge s (fun t => getF F.keepTimePpsinLo_ppsin_lo 0 t = s.time.ns % 2 ^ 32
      ∧ getF F.keepTimePpsinHi_ppsin_hi 0 t = s.time.ns / 2 ^ 32 % 2 ^ 32
      ∧ getF F.keepTimePpsCfg_ppsin_seq 0 t = (getF F.keepTimePpsCfg_ppsin_seq 0 s + 1) % 256
      ∧ RegsButFor [F.keepTimePpsinLo_ppsin_lo.key 0, F.keepTimePpsinHi_ppsin_hi.key 0, F.keepTimePpsCfg_ppsin_seq.key 0] s t
      ∧ { t with regs := s.regs } = s))

/-- Time triggers and the auxiliary ADC (R433 to R436): a write arms, re-arms or disarms a trigger; it fires when keep time reaches its
time, performs its action, and takes its next time, or is done; one armed for a time past fires at once, late; a conversion writes its
trimmed result with the keep time of its sample.
The model's choices it rests on: logs 3, 57, 98, 100. -/
def Obligations.TriggersFire : Prop :=
  (∀ (i : Fin 16) (w : Word) (s : State), pcieUsed s = true → keepUp s = true → domOn s 1 = true → w.getLsbD 0 = true →
    getF F.keepTtPeriod_period i s = 0 ∨ 1000 ≤ getF F.keepTtPeriod_period i s →
    s.time.ns < getF F.keepTtTimeLo_time_lo i s + 2 ^ 32 * getF F.keepTtTimeHi_time_hi i s →
    Leads (.triggerArm i w) s (fun t => tabFind t.time.trigs i
        = some ⟨getF F.keepTtTimeLo_time_lo i s + 2 ^ 32 * getF F.keepTtTimeHi_time_hi i s, getF F.keepTtPeriod_period i s⟩
      ∧ getF F.keepTtCfg_arm i t = 1 ∧ getF F.keepTtCfg_action i t = w.toNat / 2 % 8 ∧ getF F.keepTtCfg_target i t = w.toNat / 16 % 64
      ∧ getF F.keepTtCfg_count i t = w.toNat / 2 ^ 16 ∧ getF F.keepTtCfg_reject i t = 0
      ∧ RegsButFor [F.keepTtCfg_arm.key i, F.keepTtCfg_action.key i, F.keepTtCfg_target.key i, F.keepTtCfg_count.key i,
          F.keepTtCfg_reject.key i] s t ∧ { t with regs := s.regs, time := s.time } = s))
  ∧ (∀ (i : Fin 16) (w : Word) (s : State), pcieUsed s = true → keepUp s = true → domOn s 1 = true → w.getLsbD 0 = true →
    1 ≤ getF F.keepTtPeriod_period i s → getF F.keepTtPeriod_period i s ≤ 999 →
    Leads (.triggerArm i w) s (fun t => getF F.keepTtCfg_reject i t = 1 ∧ RegsButFor [F.keepTtCfg_reject.key i] s t
      ∧ { t with regs := s.regs } = s))
  ∧ (∀ (i : Fin 16) (w : Word) (s : State), pcieUsed s = true → keepUp s = true → domOn s 1 = true → w.getLsbD 0 = true →
    fieldOf w 3 1 = 0 → getF F.keepTtPeriod_period i s = 0 →
    getF F.keepTtTimeLo_time_lo i s + 2 ^ 32 * getF F.keepTtTimeHi_time_hi i s ≤ s.time.ns →
    Leads (.triggerArm i w) s (fun t => tabFind t.time.trigs i = none ∧ getF F.keepTtCfg_arm i t = 0
      ∧ bitOf (getF F.keepTtStat_late 0 t) i = true ∧ bitOf (getF F.keepTtStat_fired 0 t) i = true ∧ t.now = s.now))
  ∧ (∀ (i : Fin 16) (w : Word) (s : State), pcieUsed s = true → keepUp s = true → domOn s 1 = true → w.getLsbD 0 = false →
    Leads (.triggerDisarm i w) s (fun t => t.time = { s.time with trigs := tabDel s.time.trigs i } ∧ getF F.keepTtCfg_arm i t = 0
      ∧ getF F.keepTtStat_fired 0 t = getF F.keepTtStat_fired 0 s))
  ∧ (∀ (i : Fin 16) (x : Trig) (s : State), tabFind s.time.trigs i = some x → getF F.keepTtCfg_action i s = 0 →
    Leads (.triggerFiring i) s (fun t => t.now = (waitKeep x.time s).now ∧ t.time.ns = (waitKeep x.time s).time.ns
      ∧ bitOf (getF F.keepTtStat_fired 0 t) i = true ∧ getF F.keepTtStat_late 0 t = getF F.keepTtStat_late 0 s
      ∧ getF F.keepTtCfg_count i t = getF F.keepTtCfg_count i s - 1
      ∧ t.time.trigs = (if x.period = 0 ∨ getF F.keepTtCfg_count i s = 1 then tabDel s.time.trigs i
          else tabPut s.time.trigs i ⟨x.time + x.period, x.period⟩)
      ∧ getF F.keepTtCfg_arm i t = (if x.period = 0 ∨ getF F.keepTtCfg_count i s = 1 then 0 else getF F.keepTtCfg_arm i s)
      ∧ RegsButFor [F.keepTtStat_fired.key 0, F.keepTtCfg_count.key i, F.keepTtCfg_arm.key i] s t))
  ∧ (∀ (i : Fin 16) (x : Trig) (s : State), tabFind s.time.trigs i = some x → 4 ≤ getF F.keepTtCfg_action i s →
    getF F.keepTtCfg_action i s ≤ 6 → getF F.keepTtCfg_target i s < 24 →
    Leads (.triggerFiring i) s (fun t => ∀ j : Fin 24, bitOf (getF F.keepGpioOut_out 0 t) j =
      (if j.val = getF F.keepTtCfg_target i s ∧ bitOf (getF F.keepGpioOe_oe 0 s) j = true then
        (if getF F.keepTtCfg_action i s = 4 then true else if getF F.keepTtCfg_action i s = 5 then false
          else !bitOf (getF F.keepGpioOut_out 0 s) j)
       else bitOf (getF F.keepGpioOut_out 0 s) j)))
  ∧ (∀ (i : Fin 16) (x : Trig) (s : State), tabFind s.time.trigs i = some x → getF F.keepTtCfg_action i s = 1 → s.time.aadc = [] →
    getF F.keepTtCfg_target i s = 10 → s.time.ns ≤ x.time →
    Leads (.triggerFiring i) s (fun t => tabFind t.time.aadc 1 = some ⟨t.time.ns, false⟩
      ∧ tabFind t.time.aadc 3 = some ⟨t.time.ns + 1500, false⟩ ∧ tabFind t.time.aadc 0 = none ∧ tabFind t.time.aadc 2 = none))
  ∧ (∀ (n : Fin 4) (raw : Nat) (x : Aadc) (s : State), tabFind s.time.aadc n = some x → raw ≤ 4095 →
    Leads (.aadcConversion n raw) s (fun t => t.now = (waitKeep (x.sample + 1500) s).now
      ∧ (getF F.keepAadcRes_value n t : Int) = clampI 0 4095 (roundDiv ((raw : Int) * aadcGain s n) 65536 + aadcOffset s n)
      ∧ getF F.keepAadcRes_seq n t = (getF F.keepAadcRes_seq n s + 1) % 2 ^ 16
      ∧ getF F.keepAadcTlo_time_lo n t = x.sample % 2 ^ 32 ∧ getF F.keepAadcThi_time_hi n t = x.sample / 2 ^ 32 % 2 ^ 32
      ∧ (tabFind t.time.aadc n).isSome = x.queued ∧ Counts F.keepAadcCnt_conversions 0 true s t
      ∧ RegsButFor [F.keepAadcRes_value.key n, F.keepAadcRes_seq.key n, F.keepAadcTlo_time_lo.key n, F.keepAadcThi_time_hi.key n,
          F.keepAadcCnt_conversions.key 0] s t))

/-- Timer elements and wide counters (R437 to R445): a tick advances a running element, or wraps it at its reload, and matches its
compares; a configuration write that names none is rejected, a count is written only while stopped, a reload waits for the wrap unless
it is unbuffered, a compare at or below the count is late; a capture writes the count and queues it, and a read takes it; a running wide
counter is not read or written.
The model's choices it rests on: logs 56, 98. -/
def Obligations.TimersCountAndCapture : Prop :=
  (∀ (n : Fin 64) (src : Fin 3) (s : State), src.val ≠ 0 → domOn s 1 = true →
    (∀ m : Fin 64, getB F.keepTmrCfg_run m s = true ↔ m = n) → (∀ k : Fin 8, getB F.keepTmrWideCfg_run k s = false) →
    getF F.keepTmrCfg_tick n s = src → getF F.keepTmrCount_count n s < (tmr s n).eff → getF F.keepTmrCount_count n s + 1 < 2 ^ 32 →
    getF F.keepTmrCmp0_cmp n s ≠ getF F.keepTmrCount_count n s + 1 → getF F.keepTmrCmp1_cmp n s ≠ getF F.keepTmrCount_count n s + 1 →
    Leads (.timerTick src) s (fun t => getF F.keepTmrCount_count n t = getF F.keepTmrCount_count n s + 1
      ∧ RegsButFor [F.keepTmrCount_count.key n] s t ∧ { t with regs := s.regs } = s))
  ∧ (∀ (n : Fin 64) (src : Fin 3) (s : State), src.val ≠ 0 → domOn s 1 = true →
    (∀ m : Fin 64, getB F.keepTmrCfg_run m s = true ↔ m = n) → (∀ k : Fin 8, getB F.keepTmrWideCfg_run k s = false) →
    getF F.keepTmrCfg_tick n s = src → 0 < (tmr s n).eff → (tmr s n).eff ≤ getF F.keepTmrCount_count n s →
    Leads (.timerTick src) s (fun t => getF F.keepTmrCount_count n t = 0 ∧ getF F.keepTmrStat_wrap n t = 1
      ∧ getF F.keepTmrStat_rl_pending n t = 0
      ∧ (tmr t n).eff = (if getB F.keepTmrStat_rl_pending n s then getF F.keepTmrReload_reload n s else (tmr s n).eff)))
  ∧ (∀ (n : Fin 64) (src : Fin 3) (s : State), src.val ≠ 0 → domOn s 1 = true →
    (∀ m : Fin 64, getB F.keepTmrCfg_run m s = true ↔ m = n) → (∀ k : Fin 8, getB F.keepTmrWideCfg_run k s = false) →
    getF F.keepTmrCfg_tick n s = src → getF F.keepTmrCount_count n s < (tmr s n).eff → getF F.keepTmrCount_count n s + 1 < 2 ^ 32 →
    getF F.keepTmrCmp0_cmp n s = getF F.keepTmrCount_count n s + 1 →
    Leads (.timerTick src) s (fun t => getF F.keepTmrCount_count n t = getF F.keepTmrCount_count n s + 1
      ∧ getF F.keepTmrStat_cmp0_hit n t = 1
      ∧ (getF F.keepTmrCmp1_cmp n s = getF F.keepTmrCmp0_cmp n s → getF F.keepTmrStat_cmp1_hit n t = 1)
      ∧ bitOf (getF F.keepTmrPend_pend (n.val / 32) t) (n.val % 32)
          = (bitOf (getF F.keepTmrPend_pend (n.val / 32) s) (n.val % 32) || getB F.keepTmrCfg_irq_en n s)
      ∧ (getF F.keepTmrCfg_cmp1_act n s = 1 → getF F.keepTmrCmp1_cmp n s = getF F.keepTmrCmp0_cmp n s → getF F.keepTmrStat_out n t = 1)
      ∧ (getF F.keepTmrCfg_cmp0_act n s = 1 → getF F.keepTmrCmp1_cmp n s ≠ getF F.keepTmrCmp0_cmp n s → getF F.keepTmrStat_out n t = 1)))
  ∧ (∀ (n : Fin 64) (w : Word) (s : State), pcieUsed s = true → keepUp s = true → domOn s 1 = true →
    getB F.keepTmrCfg_run n s = false →
    Leads (.tmrCfgWrite n w) s (fun t =>
      if fieldOf w 20 12 = 0 ∨ 256 < fieldOf w 20 12 ∨ fieldOf w 6 5 = 3 ∨ (fieldOf w 4 4 = 1 ∧ fieldOf w 2 1 = 3) then
        getF F.keepTmrStat_cfg_reject n t = 1 ∧ RegsButFor [F.keepTmrStat_cfg_reject.key n] s t ∧ { t with regs := s.regs } = s
      else getF F.keepTmrCfg_run n t = fieldOf w 0 0 ∧ getF F.keepTmrCfg_tick n t = fieldOf w 2 1
        ∧ getF F.keepTmrCfg_prescale n t = fieldOf w 20 12 ∧ getF F.keepTmrCfg_irq_en n t = fieldOf w 21 21
        ∧ getF F.keepTmrCfg_cmp0_act n t = fieldOf w 23 22 ∧ getF F.keepTmrCfg_cmp1_act n t = fieldOf w 25 24
        ∧ getF F.keepTmrStat_out n t = (if fieldOf w 0 0 = 1 then fieldOf w 26 26 else getF F.keepTmrStat_out n s)
        ∧ getF F.keepTmrCount_count n t = getF F.keepTmrCount_count n s ∧ (tmr t n).edges = 0 ∧ (tmr t n).eff = (tmr s n).eff))
  ∧ (∀ (n : Fin 64) (w : Word) (s : State), pcieUsed s = true → keepUp s = true → domOn s 1 = true →
    Leads (.tmrCountWrite n w) s (fun t =>
      getF F.keepTmrCount_count n t = (if getB F.keepTmrCfg_run n s then getF F.keepTmrCount_count n s else w.toNat)
      ∧ getF F.keepTmrStat_cfg_reject n t = (if getB F.keepTmrCfg_run n s then 1 else getF F.keepTmrStat_cfg_reject n s)
      ∧ RegsButFor [F.keepTmrCount_count.key n, F.keepTmrStat_cfg_reject.key n] s t ∧ { t with regs := s.regs } = s))
  ∧ (∀ (n : Fin 64) (w : Word) (s : State), pcieUsed s = true → keepUp s = true → domOn s 1 = true →
    Leads (.tmrReloadWrite n w) s (fun t => getF F.keepTmrReload_reload n t = w.toNat
      ∧ (tmr t n).eff = (if getB F.keepTmrCfg_rl_unbuf n s then w.toNat else (tmr s n).eff)
      ∧ getF F.keepTmrStat_rl_pending n t = (if getB F.keepTmrCfg_rl_unbuf n s then 0 else 1)
      ∧ getF F.keepTmrStat_reload_cut n t = (if getB F.keepTmrCfg_rl_unbuf n s && decide (w.toNat < getF F.keepTmrCount_count n s) then 1
          else getF F.keepTmrStat_reload_cut n s)
      ∧ getF F.keepTmrCount_count n t = getF F.keepTmrCount_count n s))
  ∧ (∀ (n : Fin 64) (c : Fin 2) (w : Word) (s : State), pcieUsed s = true → keepUp s = true → domOn s 1 = true →
    Leads (.tmrCompareWrite n c w) s (fun t =>
      getF F.keepTmrCmp0_cmp n t = (if c.val = 0 then w.toNat else getF F.keepTmrCmp0_cmp n s)
      ∧ getF F.keepTmrCmp1_cmp n t = (if c.val = 0 then getF F.keepTmrCmp1_cmp n s else w.toNat)
      ∧ getF F.keepTmrStat_cmp_late n t = (if w.toNat ≤ getF F.keepTmrCount_count n s then 1 else getF F.keepTmrStat_cmp_late n s)
      ∧ RegsButFor [F.keepTmrCmp0_cmp.key n, F.keepTmrCmp1_cmp.key n, F.keepTmrStat_cmp_late.key n] s t ∧ { t with regs := s.regs } = s))
  ∧ (∀ (i : Fin 8) (rising : Bool) (n : Nat) (s : State), domOn s 1 = true → capTarget s i = some n → n < 64 →
    getB F.keepTmrCfg_cap_en n s = true →
    getF F.keepTmrCfg_cap_edge n s = 2 ∨ getF F.keepTmrCfg_cap_edge n s = (if rising then 0 else 1) →
    getF F.keepTmrCfg_prescale n s ≤ (tmr s n).edges + 1 →
    Leads (.timerCapture i rising) s (fun t => getF F.keepTmrCap_cap n t = getF F.keepTmrCount_count n s
      ∧ getF F.keepTmrStat_cap_hit n t = 1 ∧ (tmr t n).edges = 0
      ∧ (if (tabGet s.time.caps (n / 8) []).length < 8 then
          tabGet t.time.caps (n / 8) [] = tabGet s.time.caps (n / 8) []
            ++ [⟨n, getF F.keepTmrCount_count n s, s.time.ns - getF F.keepTmrCfg_filter n s * 10000 / 384, false⟩]
         else tabGet t.time.caps (n / 8) [] = tabGet s.time.caps (n / 8) [] ∧ getF F.keepTmrStat_cap_ovf n t = 1)))
  ∧ (∀ (k : Fin 8) (x : CapEntry) (q : List CapEntry) (s : State), pcieUsed s = true → keepUp s = true → domOn s 1 = true →
    tabGet s.time.caps k [] = x :: q → x.elem < 64 →
    Leads (.tmrQueuePop k) s (fun t => tabGet t.time.caps k [] = q
      ∧ t.outs = .readData (0x4800 + 0x20 * k.val) (x.elem + 64 * b2n x.lowres + 128) :: s.outs
      ∧ getF F.keepTmrQVal_value k t = x.value % 2 ^ 32 ∧ getF F.keepTmrQTlo_time_lo k t = x.time % 2 ^ 32
      ∧ getF F.keepTmrQThi_time_hi k t = x.time / 2 ^ 32 % 2 ^ 32))
  ∧ (∀ (k : Fin 8) (hi : Bool) (s : State), pcieUsed s = true → keepUp s = true → domOn s 1 = true →
    Leads (.wideCounterAccess k hi none) s (fun t => t.outs = .readData (0x4818 + 0x20 * k.val + (if hi then 4 else 0))
        (if getB F.keepTmrWideCfg_run k s then 0xFFFFFFFF
         else getF (if hi then F.keepTmrWideHi_wide_hi else F.keepTmrWideLo_wide_lo) k s) :: s.outs
      ∧ getF F.keepTmrBlkStat_rd_running k t = (if getB F.keepTmrWideCfg_run k s then 1 else getF F.keepTmrBlkStat_rd_running k s)
      ∧ RegsButFor [F.keepTmrBlkStat_rd_running.key k] s t ∧ { t with regs := s.regs, outs := s.outs } = s))
  ∧ (∀ (k : Fin 8) (hi : Bool) (w : Word) (s : State), pcieUsed s = true → keepUp s = true → domOn s 1 = true →
    Leads (.wideCounterAccess k hi (some w)) s (fun t =>
      wideValue t k = (if getB F.keepTmrWideCfg_run k s then wideValue s k
        else if hi then wideValue s k % 2 ^ 32 + 2 ^ 32 * w.toNat else wideValue s k / 2 ^ 32 * 2 ^ 32 + w.toNat)
      ∧ getF F.keepTmrBlkStat_wr_running k t = (if getB F.keepTmrWideCfg_run k s then 1 else getF F.keepTmrBlkStat_wr_running k s)
      ∧ { t with regs := s.regs } = s))

/-- The rings (R452, R454 to R465, R574): a tail write moves TAIL, or halts the ring; a configuration write takes its fields while the ring is
disabled and is rejected while it is enabled; a descriptor of each type completes with its result, is written back with own clear, and
advances HEAD; one whose own bit is clear halts its ring; a failed read completes its descriptor or halts its ring; events and
interrupts go out in their turn.
The model's choices it rests on: logs 3, 40, 65, 66. -/
def Obligations.RingsServeTheHost : Prop :=
  (∀ (r : Fin 32) (w : Word) (s : State), domOn s 21 = true → getB F.netRingCfg_enable r s = true → getB F.netRingStat_halted r s = false →
    Leads (.ringTailWrite r w) s (fun t => getF F.netRingTail_tail r t = w.toNat % 2 ^ 17
      ∧ getF F.netRingHead_head r t = getF F.netRingHead_head r s
      ∧ getB F.netRingStat_halted r t = decide (2 ^ getF F.netRingCfg_size_log2 r s
          < (w.toNat % 2 ^ 17 + 2 ^ 17 - getF F.netRingHead_head r s) % 2 ^ 17)
      ∧ (getB F.netRingStat_halted r t = true → getF F.netRingStat_halt_reason r t = 3 ∧ Raised Ev.netRingHalted [(r, 32), (3, 2)] s t)))
  ∧ (∀ (r : Fin 32) (w : Word) (s : State), domOn s 21 = true →
    Leads (.ringEnable r w) s (fun t =>
      if getB F.netRingCfg_enable r s then
        getF F.netRingCfg_enable r t = fieldOf w 0 0 ∧ getF F.netRingCfg_size_log2 r t = getF F.netRingCfg_size_log2 r s
          ∧ getF F.netRingCfg_vector r t = getF F.netRingCfg_vector r s
          ∧ (fieldOf w 6 2 ≠ getF F.netRingCfg_size_log2 r s → getB F.netRingStat_cfg_reject r t = true)
      else getF F.netRingCfg_enable r t = fieldOf w 0 0 ∧ getF F.netRingCfg_size_log2 r t = fieldOf w 6 2
          ∧ getF F.netRingCfg_vector r t = fieldOf w 21 16 ∧ getF F.netRingCfg_irq_en r t = fieldOf w 22 22
          ∧ getF F.netRingCfg_coal_count r t = fieldOf w 31 24
          ∧ ringType t r = (if r.val < 16 then ringType s r else fieldOf w 10 8)
          ∧ (fieldOf w 0 0 = 1 → getB F.netRingStat_halted r t = false)))
  ∧ (∀ (r : Fin 32) (ws : List Word) (p : Pkt) (np rt : Bool) (e : Route) (s : State), ringLive s r = true → ringType s r = 1 →
    ringUsed s r ≠ 0 → fieldOf (wAt ws 0) 31 31 = 1 → 0 < fieldOf (wAt ws 0) 15 0 →
    onlyFields ws [[(31, 31), (15, 0)], [(31, 0)], [(31, 0)]] = true → domOn s 19 = true → isStandby s = false →
    isMulticast p.dst = false → isLinkLocal p.dst = false → rt = false → lookupRoute s p.dst = some e → e.static = true → ewKind e.entry = 3 →
    getB F.netRingCfg_irq_en r s = false →
    Leads (.packetDescriptor r ws p np rt) s (fun t => getF F.netRingHead_head r t = (getF F.netRingHead_head r s + 1) % 2 ^ 17
      ∧ t.outs.head? = some (.ring r (ringSlot s r) (wordOf [(fieldOf (wAt ws 0) 15 0, 0)] :: (ws.drop 1).take 7))
      ∧ t.fwd.deliver.length = s.fwd.deliver.length + 1 ∧ (t.fwd.deliver.getLast?).map (fun d => (d.ring, d.kind)) = some (ewTarget e.entry, 3)))
  ∧ (∀ (r : Fin 32) (ws : List Word) (p : Pkt) (np rt : Bool) (s : State), ringLive s r = true → ringType s r = 1 → ringUsed s r ≠ 0 →
    fieldOf (wAt ws 0) 31 31 = 0 →
    Leads (.packetDescriptor r ws p np rt) s (fun t => getB F.netRingStat_halted r t = true ∧ getF F.netRingStat_halt_reason r t = 1
      ∧ Raised Ev.netRingHalted [(r, 32), (1, 2)] s t ∧ { t with regs := s.regs, evq := s.evq } = s))
  ∧ (∀ (r : Fin 32) (ws : List Word) (m : ImmHdr) (s : State), ringLive s r = true → ringType s r = 2 → ringUsed s r ≠ 0 → s.net.imms = [] →
    fieldOf (wAt ws 0) 31 31 = 1 → 0 < fieldOf (wAt ws 0) 15 0 → immDescOk s ws m = true →
    canGrant s 6 (pagesOf (fieldOf (wAt ws 0) 15 0)) = true →
    Leads (.immediateDescriptor r ws m) s (fun t => t.net.imms.map (fun i => (i.id, i.ring, i.slot, i.ws, i.ackReq, i.seq, i.pages, i.attempts))
        = [(s.net.nextImm, r.val, ringSlot s r, ws, m.ackReq, m.seq, pagesOf (fieldOf (wAt ws 0) 15 0), 0)]
      ∧ quotaUsed t 6 = quotaUsed s 6 + pagesOf (fieldOf (wAt ws 0) 15 0)
      ∧ getF F.netRingHead_head r t = getF F.netRingHead_head r s))
  ∧ (∀ (r : Fin 32) (ws d : List Word) (e : Nat) (s : State) (ok : Bool) (k : KSlot), ringLive s r = true → ringType s r = 3 → ringUsed s r ≠ 0 →
    fieldOf (wAt ws 0) 31 31 = 1 → fieldOf (wAt ws 0) 25 24 = 1 → fieldOf (wAt ws 3) 28 16 = e → cipherDescOk ws = true → keyOf s e = some k →
    k.usage = 2 → engineOk s 2 = true → s.keys.rootOk = true → tamperHold s = false → s.keys.cache.contains e = true →
    domDead s 21 = false → getB F.netRingCfg_irq_en r s = false →
    Leads (.cipherDescriptor r ws d ok) s (fun t => t.outs = .ring r (ringSlot s r)
          (wordOf [(fieldOf (wAt ws 0) 15 0, 0), (if ok then 0 else 0x85, 16), (1, 24)] :: (ws.drop 1).take 7)
        :: .buffer r (descAddr ws) (if ok then Config.gcmBuffer k.key (ofWords (ws.drop 5)) (fieldOf (wAt ws 4) 15 0) (fieldOf (wAt ws 0) 15 0) d false
          else List.replicate ((fieldOf (wAt ws 0) 15 0 + 3) / 4) 0) :: s.outs
      ∧ getF F.netRingHead_head r t = (getF F.netRingHead_head r s + 1) % 2 ^ 17
      ∧ Counts F.netHciphCntJobs_jobs 0 true s t ∧ t.keys.vault = s.keys.vault))
  ∧ (∀ (r : Fin 32) (ws d : List Word) (e : Nat) (s : State) (ok : Bool) (k : KSlot) (v : VEntry), ringLive s r = true → ringType s r = 3 → ringUsed s r ≠ 0 →
    fieldOf (wAt ws 0) 31 31 = 1 → fieldOf (wAt ws 0) 25 24 = 0 → fieldOf (wAt ws 3) 28 16 = e → 0 < fieldOf (wAt ws 0) 15 0 →
    cipherDescOk ws = true → keyOf s e = some k → tabFind s.keys.vault e = some v → v.next < 2 ^ 64 - 1 → v.next < leaseBoundary v →
    k.usage = 2 → engineOk s 2 = true → s.keys.rootOk = true → tamperHold s = false → s.keys.cache.contains e = true →
    domDead s 21 = false → getB F.netRingCfg_irq_en r s = false →
    Leads (.cipherDescriptor r ws d ok) s (fun t => t.outs = .ring r (ringSlot s r)
          (wordOf [(fieldOf (wAt ws 0) 15 0, 0)] :: tagWords (Config.gcmTag k.key (gcmIv s v.next) (fieldOf (wAt ws 4) 15 0) (fieldOf (wAt ws 0) 15 0) d)
            ++ (List.range 3).map (wordAt (gcmIv s v.next)))
        :: .buffer r (descAddr ws) (Config.gcmBuffer k.key (gcmIv s v.next) (fieldOf (wAt ws 4) 15 0) (fieldOf (wAt ws 0) 15 0) d true) :: s.outs
      ∧ t.keys.vault = tabPut s.keys.vault e { v with next := v.next + 1 } ∧ Counts F.netHciphCntJobs_jobs 0 true s t))
  ∧ (∀ (r : Fin 32) (ws : List Word) (d : Delivery) (s : State), ringLive s r = true → ringType s r = 4 → ringUsed s r ≠ 0 →
    fieldOf (wAt ws 0) 31 31 = 1 → s.fwd.deliver = [d] → d.ring = r → d.spilled = 0 → d.parked = false → d.moved ≤ d.len →
    d.len - d.moved ≤ fieldOf (wAt ws 0) 15 0 → 0 < fieldOf (wAt ws 0) 15 0 → getB F.netRingCfg_irq_en r s = false → domDead s 21 = false →
    Leads (.deliveryWrite r ws) s (fun t => t.fwd.deliver = [] ∧ quotaUsed t d.group = quotaUsed s d.group - d.pages
      ∧ t.outs = .ring r (ringSlot s r) (deliverWords ws d (d.len - d.moved) false) :: s.outs
      ∧ getF F.netRingHead_head r t = (getF F.netRingHead_head r s + 1) % 2 ^ 17 ∧ Counts F.netRingCnt_completed r true s t))
  ∧ (∀ (r : Fin 32) (ws : List Word) (d : Delivery) (s : State), domOn s 21 = true → domDead s 21 = false → ringUsed s r = 0 →
    s.fwd.deliver = [d] → d.ring = r → d.spilled = 0 → d.parked = false →
    Leads (.deliveryWrite r ws) s (fun t => t.fwd.deliver = [{ d with waits := true }] ∧ Counts F.netRingStat_no_desc r (!d.waits) s t
      ∧ RegsButFor [F.netRingStat_no_desc.key r] s t ∧ { t with regs := s.regs, fwd := s.fwd, diag := s.diag } = s))
  ∧ (∀ (e : EvRec) (q : List EvRec) (s : State), eventsQueued s = false → ringLive s 15 = true → ringUsed s 15 ≠ 0 → s.evq.q = e :: q →
    getB F.netRingCfg_irq_en 15 s = false →
    Leads .eventRecordWrite s (fun t => t.evq.q = q ∧ t.evq.lost = 0 ∧ t.evq.seq = (s.evq.seq + 1) % 32768
      ∧ t.outs = .ring 15 (ringSlot s 15) [wordOf [(min s.evq.lost 65535, 0), (s.evq.seq % 32768, 16)], 0, wordOf [(e.num, 0), (e.region, 24)],
          wordAt e.time 0, wordAt e.time 1, wordAt e.contents 0, wordAt e.contents 1, wordAt e.contents 2] :: s.outs
      ∧ getF F.netRingHead_head 15 t = (getF F.netRingHead_head 15 s + 1) % 2 ^ 17))
  ∧ (∀ (r : Fin 32) (ws : List Word) (s : State), ringLive s r = true → ringUsed s r ≠ 0 → r.val ≠ 15 → getB F.netRingCfg_irq_en r s = false →
    Leads (.dmaReadFailure r (some ws)) s (fun t => Counts F.netPcieCnt_dma_errors 0 true s t
        ∧ (t.outs.head?).map (fun o => match o with | .ring q i (w :: _) => (q, i, fieldOf w 31 31, fieldOf w 23 16) | _ => (99, 0, 0, 0))
            = some (r.val, ringSlot s r, 0, 0x83)
        ∧ getF F.netRingHead_head r t = (getF F.netRingHead_head r s + 1) % 2 ^ 17 ∧ getB F.netRingStat_halted r t = false))
  ∧ (∀ (r : Fin 32) (s : State), ringLive s r = true → ringUsed s r ≠ 0 →
    Leads (.dmaReadFailure r none) s (fun t => Counts F.netPcieCnt_dma_errors 0 true s t ∧ getB F.netRingStat_halted r t = true
        ∧ getF F.netRingStat_halt_reason r t = 2 ∧ getF F.netRingHead_head r t = getF F.netRingHead_head r s
        ∧ Raised Ev.netRingHalted [(r, 32), (2, 2)] s t))
  ∧ (∀ (r : Fin 32) (n i : Nat) (s : State), tabFind s.net.irq r = some (n, i) → n ≠ 0 → domOn s 24 = true → s.net.msixEn = true →
    s.net.funcMask = false → s.net.busMaster = true → s.net.d3hot = false → getB F.netPcieStatus_link_up 0 s = true →
    bitOf (msixWord s (4 * getF F.netRingCfg_vector r s + 3)) 0 = false →
    Leads (.ringInterrupt r) s (fun t => t.now = max s.now (i + 1000 * getF F.netRingCoal_coal_us r s) ∧ tabFind t.net.irq r = none
      ∧ t.outs = .msix (getF F.netRingCfg_vector r s)
          (msixWord s (4 * getF F.netRingCfg_vector r s) + 2 ^ 32 * msixWord s (4 * getF F.netRingCfg_vector r s + 1))
          (msixWord s (4 * getF F.netRingCfg_vector r s + 2)) :: s.outs))
  ∧ (∀ (e sc : Nat) (x : RateSt) (s : State), tabFind s.evq.rate (e * 65536 + sc) = some x → 0 < x.pend → s.evq.q.length < 256 →
    Leads (.rateLimitSecondEnd e sc) s (fun t => t.now = max s.now (x.start + 1000000000)
      ∧ t.evq.q = s.evq.q ++ [⟨x.ev.1, x.ev.2, t.time.ns, packItems x.items % 2 ^ 96⟩]
      ∧ tabFind t.evq.rate (e * 65536 + sc) = some ⟨x.ev, t.now, 0, []⟩))

/-- The PCIe function, Ethernet and LPDDR4X (R453, R467, R468, R470 to R474, R557): a reset of NET_PCIE disables the rings and empties the host
lanes; D3hot is entered and left; a vector's unmasking sends what it held; a frame is taken, or counted under what it fails; a link
change shows and is raised; supervision frames go out on both ports; DRAM trains at the first rate that does, and scrub passes count.
The model's choices it rests on: logs 3, 24, 25, 26, 67, 69, 74, 88, 99. -/
def Obligations.HostLinksAndMemory : Prop :=
  (∀ (c : Fin 4) (s : State), domOn s 24 = true → pcieUsed s = true →
    Leads (.pcieReset c) s (fun t => (∀ r : Fin 32, getB F.netRingCfg_enable r t = false ∧ getF F.netRingHead_head r t = 0
        ∧ getF F.netRingTail_tail r t = 0 ∧ getB F.netRingStat_halted r t = false)
      ∧ (lane t 0).cmd = [] ∧ (lane t 0).resp = [] ∧ (lane t 1).cmd = [] ∧ (lane t 1).resp = []
      ∧ ((lane t 0).ex).map (·.opcode) = ((lane s 0).ex).map (·.opcode) ∧ lane t 2 = lane s 2
      ∧ t.net.msixEn = false ∧ t.net.busMaster = false ∧ t.net.d3hot = false ∧ t.net.msix = [] ∧ t.net.pba = 0
      ∧ Counts F.netPcieCnt_resets 0 true s t ∧ Raised Ev.netPcieReset [(c, 2)] s t ∧ t.recs = s.recs ∧ t.nbrs = s.nbrs))
  ∧ (∀ s : State, domOn s 24 = true → pcieUsed s = true →
    Leads (.pcieD3hot true) s (fun t => t.net = { s.net with d3hot := true } ∧ { t with net := s.net } = s
      ∧ (∀ r : Fin 32, ringLive t r = false)))
  ∧ (∀ (v : Fin 64) (s : State), domOn s 24 = true → pcieUsed s = true → s.net.msixEn = true → s.net.funcMask = false → s.net.busMaster = true →
    s.net.d3hot = false → getB F.netPcieStatus_link_up 0 s = true →
    Leads (.msixVectorUnmask v none) s (fun t => bitOf t.net.pba v = false ∧ msixWord t (4 * v + 3) = 0
      ∧ (∀ u : Fin 64, u ≠ v → bitOf t.net.pba u = bitOf s.net.pba u)
      ∧ t.outs = (if bitOf s.net.pba v then [.msix v (msixWord s (4 * v) + 2 ^ 32 * msixWord s (4 * v + 1)) (msixWord s (4 * v + 2))] else []) ++ s.outs))
  ∧ (∀ (v : Fin 64) (en mask master : Bool) (s : State), domOn s 24 = true → pcieUsed s = true → s.net.pba = 0 →
    Leads (.msixVectorUnmask v (some (en, mask, master))) s (fun t =>
      t.net = { s.net with msixEn := en, funcMask := mask, busMaster := master }
      ∧ getB F.netPcieStatus_msix_en 0 t = en ∧ getB F.netPcieStatus_bus_master 0 t = master ∧ t.outs = s.outs))
  ∧ (∀ (e : Fin 2) (p : Pkt) (f : EthFrame) (s : State), domOn s (22 + e) = true → getB F.netEthStatus_link e s = true → f.fcsOk = true →
    f.len ≤ ethMtu s e + 18 → f.dst = ethMac s e → ethVid s e = 0 → f.vid = none → redundMode s = 0 → f.pay = .ipv6 p →
    Leads (.ethFrameReceive e f) s (fun t => Counts F.netEthCntRx_rx_frames e true s t ∧ RegsButFor [F.netEthCntRx_rx_frames.key e] s t
      ∧ t.fwd = { s.fwd with up := s.fwd.up ++ [{ pkt := p, origin := 1 + e, handle := 0, pages := 0, ts := s.time.ns }] }))
  ∧ (∀ (e : Fin 2) (f : EthFrame) (s : State), domOn s (22 + e) = true → getB F.netEthStatus_link e s = true → ethVid s e = 0 → f.red = none →
    redundMode s = 0 → f.pay = .other →
    Leads (.ethFrameReceive e f) s (fun t => t.fwd = s.fwd ∧ Counts F.netEthCntErr_fcs_err e (!f.fcsOk) s t
      ∧ Counts F.netEthCntErr_oversize e (f.fcsOk && decide (ethMtu s e + 18 < f.len)) s t
      ∧ Counts F.netEthCntType_vid_drop e (f.fcsOk && decide (f.len ≤ ethMtu s e + 18) && ethForPart s e f && f.vid.isSome) s t
      ∧ Counts F.netEthCntType_other_type e (f.fcsOk && decide (f.len ≤ ethMtu s e + 18) && ethForPart s e f && f.vid.isNone) s t))
  ∧ (∀ (e : Fin 2) (sp : Fin 4) (s : State), domOn s (22 + e) = true → getB F.netEthStatus_link e s = false → ethEnabled s e = true →
    fwdOpen s = true → yowOn s = false → ethSpeedOk (paramF s 0x0140 e 1 3 2) sp = true →
    Leads (.ethLinkChange e true sp) s (fun t => getB F.netEthStatus_link e t = true ∧ getF F.netEthStatus_speed e t = sp
      ∧ Raised Ev.netEthLink [(e, 1), (1, 1), (sp, 2)] s t ∧ t.recs = s.recs))
  ∧ (∀ (e : Fin 2) (sp : Fin 4) (s : State), domOn s (22 + e) = true → getB F.netEthStatus_link e s = true →
    timeSource s = 1 → ptpPort s = e → timeState s = 1 →
    Leads (.ethLinkChange e false sp) s (fun t => getB F.netEthStatus_link e t = false ∧ timeState t = 2 ∧ Counts F.keepTimeCntFree_losses 0 true s t))
  ∧ (∀ s : State, redundMode s ≠ 0 → fwdOpen s = true → getB F.netEthStatus_link 0 s = true → getB F.netEthStatus_link 1 s = true →
    domOn s 22 = true → domOn s 23 = true →
    Leads .supervisionFrameSend s (fun t => t.now = max s.now (s.net.supAt + 2000000000) ∧ t.net.supAt = t.now
      ∧ Counts F.netEthCntTx_tx_frames 0 true s t ∧ Counts F.netEthCntTx_tx_frames 1 true s t
      ∧ t.net.redSeq = (s.net.redSeq + 1) % 65536))
  ∧ (∀ (n mib : Nat) (s : State), domOn s 25 = true → getB F.netDdrStatus_trained 0 s = false → n < 5 - ddrRate s → mib < 4096 →
    Leads (.ddrTraining n mib) s (fun t => getB F.netDdrStatus_trained 0 t = true
      ∧ getF F.netDdrStatus_rate 0 t = ddrRate s + (n - 1) ∧ getB F.netDdrStatus_fallback 0 t = decide (1 < n)
      ∧ getF F.netDdrStatus_device_mib 0 t = mib ∧ getF F.netDdrStatus_usable_mib 0 t = mib * 7 / 8
      ∧ Raised Ev.netDdrTrained [(ddrRate s + (n - 1), 2), (if 1 < n then 1 else 0, 1), (mib * 7 / 8, 12)] s t ∧ domOn t 25 = true))
  ∧ (∀ (n mib : Nat) (s : State), domOn s 25 = true → getB F.netDdrStatus_trained 0 s = false → 5 - ddrRate s ≤ n →
    Leads (.ddrTraining n mib) s (fun t => domState t 25 = 3 ∧ Counts F.keepPwrCntFailed_failed 0 true s t))
  ∧ (∀ s : State, isF s = true → ddrUp s = true → scrubEn s = true →
    Leads .ddrScrubPass s (fun t => t.now = max s.now (s.net.scrubAt + 3600000000000 * paramF s 0x0145 0 1 23 16)
      ∧ Counts F.netDdrScrub_passes 0 true s t ∧ RegsButFor [F.netDdrScrub_passes.key 0] s t))

/-- Yowiob clusters (R481 to R487): HELLO goes out 100 ms after the last and is learned from; a frame of another cluster is discarded, and one
not after the last accepted is counted; TIME from the upstream is a sync of the source CLUSTER, and the root sends it every interval;
the delay of a link is half the round trip less the turnaround.
The model's choices it rests on: logs 3, 88, 89. -/
def Obligations.ClustersShareTime : Prop :=
  (∀ (e : Fin 2) (x : Nat) (s : State), yowCan s e = true → yowSecure s = false → (yowLink s e).helloAt = some x →
    Leads (.hello e none) s (fun t => t.now = max s.now (x + 100000000) ∧ (yowLink t e).helloAt = some t.now
      ∧ (yowLink t e).txSeq = (yowLink s e).txSeq + 1 ∧ Counts F.netYowCntTx_tx_frames 0 true s t
      ∧ t.outs = .yowiob e 1 ([0, w32 (ownClaim s), w32 ((yowLink s e).txSeq + 1)] ++ helloWords s e) :: s.outs))
  ∧ (∀ (e : Fin 2) (h : YowHdr) (b : HelloBody) (s : State), yowUp s e = true → serving s = true → h.version = 1 → h.cluster = yowId s →
    yowSecure s = false → h.secured = false → domOn s 1 = true → domOn s 18 = true → torchOn s = false →
    tabGet (yowLink s e).seqs h.sender 0 < h.seq →
    Leads (.hello e (some (h, b))) s (fun t => (yowLink t e).peer = some ⟨h.sender, b⟩ ∧ tabGet (yowLink t e).seqs h.sender 0 = h.seq
      ∧ Counts F.netYowCntRx_rx_frames 0 true s t ∧ t.outs = s.outs ∧ t.now = s.now))
  ∧ (∀ (e : Fin 2) (h : YowHdr) (b : HelloBody) (s : State), h.version ≠ 1 ∨ h.cluster ≠ yowId s ∨ h.secured ≠ yowSecure s →
    exec (.hello e (some (h, b))) s = .next s ∧ exec (.delayReq e (some h)) s = .next s)
  ∧ (∀ (e : Fin 2) (h : YowHdr) (b : HelloBody) (s : State), yowUp s e = true → serving s = true → h.version = 1 → h.cluster = yowId s →
    yowSecure s = false → h.secured = false → domOn s 1 = true → domOn s 18 = true → h.seq ≤ tabGet (yowLink s e).seqs h.sender 0 →
    Leads (.hello e (some (h, b))) s (fun t => t.yow = s.yow ∧ Counts F.netYowCntDrop_replay 0 true s t ∧ Counts F.netYowCntRx_rx_frames 0 false s t))
  ∧ (∀ (e : Fin 2) (h : YowHdr) (b : TimeBody) (p : YowPeer) (s : State), yowPorts s = [e.val] → serving s = true → h.version = 1 →
    h.cluster = yowId s → yowSecure s = false → h.secured = false → domOn s 1 = true → domOn s 18 = true → torchOn s = false →
    tabGet (yowLink s e).seqs h.sender 0 < h.seq → (yowLink s e).peer = some p → p.hello.root = b.root → b.root ≠ Config.serialNumber →
    yowF s 1 15 8 < p.hello.priority → b.correction + (yowLink s e).delay ≤ yowBudget s → (yowLink s e).corr = none → p.hello.acc + (yowLink s e).delay ≤ yowBudget s →
    timeSource s = 3 → timeState s = 0 → s.time.trigs = [] → s.slm.epoch = none → b.slotLen = 0 → s.yow.timeRoot = none →
    b.origin + b.correction + (yowLink s e).delay < 2 ^ 64 →
    Leads (.yowiobTime e (some (h, b))) s (fun t => t.time.ns = b.origin + b.correction + (yowLink s e).delay ∧ timeState t = 1
      ∧ getF F.keepTimeState_source_ok 0 t = 1 ∧ getF F.netYowSpan_span 0 t = b.span % 2 ^ 32 ∧ t.yow.timeRoot = some b.root
      ∧ yowState t = 2 ∧ yowUpstream t = some (e.val, b.correction + (yowLink s e).delay)))
  ∧ (∀ (e : Fin 2) (x : Nat) (s : State), yowPorts s = [e.val] → yowState s = 3 → yowCan s e = true → yowSecure s = false →
    s.yow.timeAt = some x →
    Leads (.yowiobTime e none) s (fun t => t.now = max s.now (x + yowInterval s) ∧ t.yow.timeAt = some t.now
      ∧ t.outs = .yowiob e 2 ([0, w32 (ownClaim s), w32 ((yowLink s e).txSeq + 1)]
          ++ timeWords t.time.ns 0 Config.serialNumber s.slm.epoch (slotNs s) (getF F.netYowSpan_span 0 s)) :: s.outs))
  ∧ (∀ (e : Fin 2) (h : YowHdr) (s : State), yowCan s e = true → h.version = 1 → h.cluster = yowId s → yowSecure s = false →
    h.secured = false → domOn s 1 = true → domOn s 18 = true → torchOn s = false → tabGet (yowLink s e).seqs h.sender 0 < h.seq →
    Leads (.delayReq e (some h)) s (fun t => t.outs = .yowiob e 4 ([0, w32 (ownClaim s), w32 ((yowLink s e).txSeq + 1)]
          ++ [wordAt s.time.ns 0, wordAt s.time.ns 1, wordAt s.time.ns 0, wordAt s.time.ns 1]) :: s.outs ∧ t.time = s.time))
  ∧ (∀ (e : Fin 2) (x : Nat) (s : State), yowCan s e = true → yowSecure s = false → (yowLink s e).reqSent = some x →
    Leads (.delayReq e none) s (fun t => t.now = max s.now (x + 1000000000) ∧ (yowLink t e).reqSent = some t.now
      ∧ (yowLink t e).reqAt = some t.time.ns ∧ t.outs = .yowiob e 3 [0, w32 (ownClaim s), w32 ((yowLink s e).txSeq + 1)] :: s.outs))
  ∧ (∀ (e : Fin 2) (h : YowHdr) (t2 t3 t1 : Nat) (s : State), yowUp s e = true → serving s = true → h.version = 1 → h.cluster = yowId s →
    yowSecure s = false → h.secured = false → domOn s 1 = true → domOn s 18 = true → torchOn s = false →
    tabGet (yowLink s e).seqs h.sender 0 < h.seq → (yowLink s e).reqAt = some t1 →
    Leads (.delayResp e h t2 t3) s (fun t => (yowLink t e).delay = ((s.time.ns - t1) - (t3 - t2)) / 2 ∧ (yowLink t e).reqAt = none
      ∧ t.now = s.now ∧ t.outs = s.outs))

/-- The torch (R491 to R494, R499, R500): a round starts in its time with the claim in use; at its end the higher claim wins: a unit that wins
is SWITCHING and takes the torch at the takeover instant, with new counters and sequence numbers and its emitter gate open; a holder that
does not win loses it; a pin fault closes the gate of the lower claim.
The model's choices it rests on: logs 3, 29, 90, 91. -/
def Obligations.TheHigherClaimHoldsTheTorch : Prop :=
  (∀ s : State, torchOn s = true → s.torch.round = none → holdsTorch s = true →
    Leads (.arbitrationRound true) s (fun t => t.now = max s.now (s.torch.lastStart + holdPeriod s) ∧ t.torch.round = some t.now
      ∧ t.torch.lastStart = t.now ∧ ownClaim t = claimNow s % 65536
      ∧ RegsButFor [F.keepTorchClaim_own_claim.key 0] s t ∧ t.outs = s.outs))
  ∧ (∀ s : State, torchOn s = true → s.torch.round = none → holdsTorch s = false → torchMay s = true →
    Leads (.arbitrationRound true) s (fun t => t.now = max s.now (s.torch.lastStart + 3 * holdPeriod s) ∧ t.torch.round = some t.now
      ∧ ownClaim t = ((if torchYield s then 1 else claimPriority s) * 256 + torchUnitId s) % 65536))
  ∧ (∀ (peer x : Nat) (s : State), s.torch.round = some x → peer < ownClaim s → getF F.keepTorchStatus_role 0 s = 2 ∨ getF F.keepTorchStatus_role 0 s = 0 →
    s.torch.pair = none →
    Leads (.roundEnd peer) s (fun t => t.now = max s.now (x + 900000) ∧ torchWinner t = ownClaim s ∧ getF F.keepTorchStatus_role 0 t = 3
      ∧ t.torch.takeAt = takeoverAt (waitTill (x + 900000) s) ∧ t.torch.lastEnd = t.now ∧ t.torch.round = none
      ∧ getF F.keepTorchStatus_emitter_gate 0 t = getF F.keepTorchStatus_emitter_gate 0 s
      ∧ Counts F.keepTorchCntRound_rounds 0 true s t))
  ∧ (∀ (peer x : Nat) (s : State), s.torch.round = some x → ownClaim s < peer → peer < 65536 → getF F.keepTorchStatus_role 0 s = 1 →
    s.torch.pair = none → s.torch.resync = none → s.nbrs = [] →
    Leads (.roundEnd peer) s (fun t => torchWinner t = peer ∧ getF F.keepTorchStatus_role 0 t = 2
      ∧ getF F.keepTorchStatus_emitter_gate 0 t = 0 ∧ Counts F.keepTorchCnt_losses 0 true s t
      ∧ Raised Ev.keepTorchLost [(peer, 32)] s t ∧ t.torch.gpioHold.isSome = true))
  ∧ (∀ (x : Nat) (s : State), s.torch.round = some x → 0 < ownClaim s → getF F.keepTorchStatus_role 0 s = 1 → s.torch.pair = none →
    getB F.keepTorchStatus_pin_fault 0 s = false →
    Leads (.roundEnd 0) s (fun t => torchWinner t = ownClaim s ∧ getF F.keepTorchStatus_role 0 t = 1
      ∧ RegsButFor [F.keepTorchStatus_winner.key 0, F.keepTorchCntRound_rounds.key 0] s t ∧ t.nbrs = s.nbrs ∧ t.outs = s.outs))
  ∧ (∀ s : State, getF F.keepTorchStatus_role 0 s = 3 →
    Leads .takeoverInstant s (fun t => t.now = (waitKeep s.torch.takeAt s).now ∧ getF F.keepTorchStatus_role 0 t = 1
      ∧ getF F.keepTorchStatus_emitter_gate 0 t = 1 ∧ t.torch.gpioHold = none ∧ Counts F.keepTorchCnt_takeovers 0 true s t
      ∧ t.nbrs.map (fun e => e.2.b.txDsn) = s.nbrs.map (fun e => (e.2.b.txDsn + 16) % 256)
      ∧ t.keys.vault.map (fun e => e.2.next) = s.keys.vault.map (fun e => match keyOf s e.1 with
          | some k => if k.usage = 1 then (tabFind s.torch.held e.1).getD (leaseBoundary e.2)
              + (if getF F.keepTorchStatus_mirror 0 s = 1 then 64 * leaseLen s else 0) else e.2.next
          | none => e.2.next)
      ∧ getF F.keepTorchLast_switch_us 0 t = (t.now - s.torch.lastEnd) / 1000 % 2 ^ 32))
  ∧ (∀ s : State, getF F.keepTorchStatus_role 0 s ≠ 3 → s.torch.gpioHold.isSome = true →
    Leads .takeoverInstant s (fun t => t.torch = { s.torch with gpioHold := none } ∧ t.now = (waitKeep s.torch.takeAt s).now ∧ t.regs = s.regs))
  ∧ (∀ s : State, torchOn s = true → getB F.keepTorchStatus_pin_fault 0 s = false →
    Leads .torchPinFault s (fun t => getB F.keepTorchStatus_pin_fault 0 t = true ∧ Raised Ev.keepTorchConflict [(2, 2)] s t
      ∧ getF F.keepTorchStatus_emitter_gate 0 t = (if ownClaim s < s.torch.peerClaim then 0 else getF F.keepTorchStatus_emitter_gate 0 s)
      ∧ RegsButFor [F.keepTorchStatus_pin_fault.key 0, F.keepTorchStatus_emitter_gate.key 0] s t
      ∧ { t with regs := s.regs, evq := s.evq } = s))

/-- Mirroring and LANE frames of a pair (R494, R495, R497, R504, R408): the holder sends MIRROR in its time; the standby applies the items of a
frame with the winning claim and acknowledges it, and discards another; an acknowledgement moves the boundaries and frees a LANE frame; no
MIRROR in time is a lapse; words of a LANE frame reach LANE3, and a frame not acknowledged is sent again, then faults the lane.
The model's choices it rests on: logs 3, 29, 30, 89, 90, 92. -/
def Obligations.PairsMirrorAndShareALane : Prop :=
  (∀ s : State, torchOn s = true → holdsTorch s = true → yowCan s (torchPort s) = true → yowSecure s = false → itemsToSend s = [] →
    s.torch.resync = none →
    Leads (.mirror none) s (fun t => t.now = max s.now (s.torch.sentAt + mirrorNs s) ∧ t.torch.sentAt = t.now
      ∧ t.outs = .yowiob (torchPort s) 5 [0, w32 (ownClaim s), w32 ((yowLink s (torchPort s)).txSeq + 1), 0] :: s.outs))
  ∧ (∀ (h : YowHdr) (e b : Nat) (s : State), torchOn s = true → isStandby s = true → yowCan s (torchPort s) = true → h.version = 1 →
    h.cluster = yowId s → yowSecure s = false → h.secured = false → domOn s 1 = true → domOn s 18 = true →
    tabGet (yowLink s (torchPort s)).seqs h.sender 0 < h.seq → h.claim = torchWinner s → ownClaim s < h.claim → e < 8192 →
    Leads (.mirror (some (h, { items := [.lease e b] }))) s (fun t => tabGet t.torch.held e 0 = max b (tabGet s.torch.held e 0)
      ∧ t.torch.mirrorAt = s.now ∧ t.torch.mirrorSeq = h.seq ∧ Counts F.netYowCntTx_tx_frames 0 true s t
      ∧ (t.outs.head?).map (fun o => match o with | .yowiob p k _ => (p, k) | _ => (9, 9)) = some (torchPort s, 6)
      ∧ getF F.keepTorchStatus_mirror 0 t = getF F.keepTorchStatus_mirror 0 s))
  ∧ (∀ (h : YowHdr) (b : MirrorBody) (s : State), torchOn s = true → yowCan s (torchPort s) = true → h.version = 1 →
    h.cluster = yowId s → yowSecure s = false → h.secured = false → domOn s 1 = true → domOn s 18 = true →
    tabGet (yowLink s (torchPort s)).seqs h.sender 0 < h.seq → isStandby s = false ∨ h.claim ≠ torchWinner s ∨ h.claim ≤ ownClaim s →
    Leads (.mirror (some (h, b))) s (fun t => Counts F.netYowCntReject_stale_claim 0 true s t ∧ t.outs = s.outs ∧ t.nbrs = s.nbrs
      ∧ t.keys = s.keys ∧ t.cfg = s.cfg ∧ t.torch = { s.torch with peerClaim := h.claim }))
  ∧ (∀ (h : YowHdr) (b : MirrorAck) (l : LaneOut) (e : Nat × Nat) (v : VEntry) (s : State), torchOn s = true → holdsTorch s = true → yowUp s (torchPort s) = true → serving s = true →
    h.version = 1 → h.cluster = yowId s → yowSecure s = false → h.secured = false → domOn s 1 = true → domOn s 18 = true →
    tabGet (yowLink s (torchPort s)).seqs h.sender 0 < h.seq → s.torch.resync = none →
    s.torch.laneOut = some l → b.leases = [e] → tabFind s.keys.vault e.1 = some v →
    Leads (.mirrorAck h b) s (fun t => t.torch.peerMirror = some b.mirror.val
      ∧ t.torch.laneOut = (if l.seq ≤ b.seq then none else some l)
      ∧ tabFind t.keys.vault e.1 = some { v with acked := max v.acked e.2 }))
  ∧ (∀ s : State, torchOn s = true → isStandby s = true → yowUp s (torchPort s) = true → getF F.keepTorchStatus_mirror 0 s ≠ 1 →
    getF F.keepTorchStatus_mirror 0 s ≠ 2 →
    Leads .mirrorTimeout s (fun t => t.now = max s.now (s.torch.mirrorAt + mirrorTimeout s + 1) ∧ getF F.keepTorchStatus_mirror 0 t = 1
      ∧ Counts F.keepTorchCntMirror_lapses 0 true s t ∧ Raised Ev.keepTorchMirror [(1, 32), (s.torch.mirrorSeq, 32)] s t))
  ∧ (∀ (h : YowHdr) (ws : List Word) (c : Nat) (s : State), torchOn s = true → yowUp s (torchPort s) = true → serving s = true → h.version = 1 →
    h.cluster = yowId s → yowSecure s = false → h.secured = false → domOn s 1 = true → domOn s 18 = true →
    tabGet (yowLink s (torchPort s)).seqs h.sender 0 < h.seq → isStandby s = true → h.claim = torchWinner s → ownClaim s < h.claim →
    h.ackReq = false → ws ≠ [] → lane s 3 = {} → getB F.keepGzStat_resync_wait 3 s = false → laneFailed s 3 = false → ws.length ≤ 64 →
    Leads (.lane (some (h, { resp := false, credit := c, ws := ws }))) s (fun t =>
      (lane t 3).asm.length + ((lane t 3).ready.getD []).length + (lane t 3).cmd.length = ws.length ∧ t.torch.credit = c))
  ∧ (∀ (ws : List Word) (s : State), torchOn s = true → yowCan s (torchPort s) = true → yowSecure s = false → s.torch.laneOut = none →
    (lane s 3).resp = ws → ws = [] → s.torch.pair = none →
    Leads (.lane none) s (fun t => t.outs = .yowiob (torchPort s) 7 [0, w32 (ownClaim s), w32 ((yowLink s (torchPort s)).txSeq + 1),
        wordOf [(laneCredit s, 8)]] :: s.outs))
  ∧ (∀ (x : LaneOut) (s : State), s.torch.laneOut = some x → x.tries < 4 → yowCan s (torchPort s) = true →
    Leads .laneFrameRetry s (fun t => t.now = max s.now (x.sentAt + 2000000)
      ∧ t.torch = { s.torch with laneOut := some { x with sentAt := t.now, tries := x.tries + 1 } }
      ∧ Counts F.netYowCntTx_tx_frames 0 true s t ∧ t.outs.length = s.outs.length + 1))
  ∧ (∀ (x : LaneOut) (s : State), s.torch.laneOut = some x → 4 ≤ x.tries → x.resp = true →
    Leads .laneFrameRetry s (fun t => t.now = max s.now (x.sentAt + 2000000) ∧ t.torch.laneOut = none
      ∧ getB F.keepGzStat_resync_wait 3 t = true ∧ (lane t 3).cmd = []))

/-- Goruz lanes (R115 to R123): a word pushed joins the command being assembled, which is ready once it is whole; a word that finds no room
at the stall limit is lost in a lane fault, and so is a word that cannot be corrected; a lane that waits for its resync discards; a resync
answers the lane error; a word popped leaves the FTQ; an empty FTQ reads 0xFFFFFFFE; a command whose words stop
arriving is answered with GZ_BAD_LENGTH.
The model's choices it rests on: logs 3, 85. -/
def Obligations.LanesCarryWords : Prop :=
  (∀ (n : Fin 4) (w : Word) (s : State), laneUsable s n = true → laneServed n s = true → domOn s 1 = true → resyncWait s n = false →
    (lane s n).cmd = [] → (lane s n).ready = none → (lane s n).errDue = false →
    Leads (.laneCommandPush n [(w, .ok)]) s (fun t =>
      lane t n = (if ((lane s n).asm ++ [w]).length = fieldOf (wAt ((lane s n).asm ++ [w]) 0) 23 16 + 1
        then { lane s n with asm := [], ready := some ((lane s n).asm ++ [w]), asmAt := s.now }
        else { lane s n with asm := (lane s n).asm ++ [w], asmAt := s.now })
      ∧ { t with lanes := s.lanes } = s))
  ∧ (∀ (n : Fin 4) (w : Word) (s : State), n.val ≠ 2 → laneUsable s n = true → laneFailed s n = false → domOn s 1 = true →
    resyncWait s n = false → (lane s n).cmd.length = 128 → (lane s n).ready.isSome = true →
    Leads (.laneCommandPush n [(w, .ok)]) s (fun t => getF F.keepGzStat_overrun n t = 1 ∧ getF F.keepGzStat_resync_wait n t = 1
      ∧ Counts F.keepGzOvr_overruns n true s t ∧ t.now = s.now + 1000 * laneStall s n
      ∧ (lane t n).cmd = [] ∧ (lane t n).asm = [] ∧ (lane t n).discarded = (lane s n).asm.length + 128
      ∧ getF F.keepGzDiscard_words_discarded n t = satAdd 32 (getF F.keepGzDiscard_words_discarded n s) ((lane s n).asm.length + 128)
      ∧ Raised Ev.keepLaneFault [(n.val, 2), (0, 1)] s t))
  ∧ (∀ (n : Fin 4) (w : Word) (s : State), laneUsable s n = true → laneServed n s = true → domOn s 1 = true → resyncWait s n = false →
    (lane s n).cmd = [] → (lane s n).ready = none → (lane s n).errDue = false →
    Leads (.laneCommandPush n [(w, .uncorrectable)]) s (fun t => getF F.keepGzStat_resync_wait n t = 1
      ∧ Counts F.keepGzEcc_uncorrectable n true s t ∧ (lane t n).testCmd = true ∧ (lane t n).cmd = [] ∧ (lane t n).asm = []
      ∧ (lane t n).discarded = (lane s n).asm.length + 1
      ∧ getF F.keepGzDiscard_words_discarded n t = satAdd 32 (getF F.keepGzDiscard_words_discarded n s) ((lane s n).asm.length + 1)
      ∧ Raised Ev.keepLaneFault [(n.val, 2), (1, 1)] s t))
  ∧ (∀ (n : Fin 4) (ws : List (Word × Ecc)) (s : State), ws ≠ [] → serving s = true → laneUsable s n = true → laneFailed s n = false →
    domOn s 1 = true → resyncWait s n = true →
    Leads (.laneCommandPush n ws) s (fun t => lane t n = { lane s n with discarded := (lane s n).discarded + ws.length }
      ∧ getF F.keepGzDiscard_words_discarded n t = satAdd 32 (getF F.keepGzDiscard_words_discarded n s) ws.length
      ∧ RegsButFor [F.keepGzDiscard_words_discarded.key n] s t))
  ∧ (∀ (n : Fin 4) (w : Word) (ws : List Word) (s : State), n.val ≠ 3 → laneUsable s n = true → laneServed n s = true → domOn s 1 = true →
    (lane s n).resp = w :: ws → (lane s n).held.length < 128 →
    Leads (.laneResponsePop n [.ok]) s (fun t =>
      lane t n = { lane s n with resp := ws, held := (lane s n).held ++ (if (lane s n).mark then [w] else []) }
      ∧ t.outs = .laneWord n w :: s.outs ∧ { t with lanes := s.lanes, outs := s.outs } = s))
  ∧ (∀ (n : Fin 4) (e : Ecc) (s : State), n.val ≤ 1 → laneUsable s n = true → laneFailed s n = false → domOn s 1 = true →
    (lane s n).resp = [] →
    Leads (.laneResponsePop n [e]) s (fun t => t.outs = .laneWord n 0xFFFFFFFE :: s.outs ∧ getF F.keepGzStat_empty n t = 1
      ∧ Counts F.keepGzOvr_empty_reads n true s t ∧ t.now = s.now + 1000 * laneStall s n ∧ lane t n = lane s n
      ∧ RegsButFor [F.keepGzStat_empty.key n, F.keepGzOvr_empty_reads.key n] s t))
  ∧ (∀ (n : Fin 4) (s : State), laneUsable s n = true → domOn s 1 = true → resyncWait s n = true → (lane s n).ex = none →
    (lane s n).ready = none → (lane s n).cmd = [] →
    Leads (.laneResync n) s (fun t => getF F.keepGzStat_resync_wait n t = 0
      ∧ lane t n = { lane s n with
          resp := (lane s n).resp ++ response .laneError (lane s n).discTag [BitVec.ofNat 32 (lane s n).discarded]
          errDue := false, discarded := 0, discTag := 0 }))
  ∧ (∀ (n : Fin 4) (s : State), laneUsable s n = true → domOn s 1 = true → resyncWait s n = false →
    Leads (.laneResync n) s (fun t => t = s))
  ∧ (∀ (n : Fin 4) (w : Word) (ws : List Word) (s : State), laneServed n s = true → (lane s n).asm = w :: ws → (lane s n).ex = none →
    (lane s n).resp = [] → (lane s n).held = [] → (lane s n).cmd = [] →
    Leads (.commandAssemblyTimeout n) s (fun t =>
      lane t n = { lane s n with asm := [], resp := response .badLength (BitVec.ofNat 8 (fieldOf w 31 24)) [] }
      ∧ getF F.keepGzDiscard_words_discarded n t = satAdd 32 (getF F.keepGzDiscard_words_discarded n s) (ws.length + 1)
      ∧ t.now = max s.now ((lane s n).asmAt + 1000000 * laneAssembly s n + 1)))

/-- The mark of a response FTQ (R119): a word read is freed, or with a mark held, counted in resp_held, its stage occupied; a mark set over
another first releases; a rewind makes the held words unread again under the mark that stays; a release frees them and clears the mark;
without a mark both have no effect but seq_err; and of several bits in one write rewind acts first, then release, then mark. -/
def Obligations.HeldWordsFollowTheMark : Prop :=
  (∀ (n : Fin 4) (w : Word) (ws : List Word) (s : State), n.val ≠ 3 → laneUsable s n = true → laneServed n s = true → domOn s 1 = true →
    (lane s n).resp = w :: ws → (lane s n).held.length < 128 →
    Leads (.laneResponsePop n [.ok]) s (fun t =>
      lane t n = { lane s n with resp := ws, held := (lane s n).held ++ (if (lane s n).mark then [w] else []) }
      ∧ fieldOf (laneStatW t n) 23 16 = (lane t n).held.length ∧ respFill (lane t n) + (lane t n).held.length ≤ 128
      ∧ t.outs = .laneWord n w :: s.outs ∧ { t with lanes := s.lanes, outs := s.outs } = s))
  ∧ (∀ (n : Fin 4) (s : State), laneUsable s n = true → domOn s 1 = true →
    Leads (.laneMark n) s (fun t =>
      lane t n = { lane s n with mark := true, held := (if (lane s n).mark then [] else (lane s n).held) }))
  ∧ (∀ (n : Fin 4) (s : State), laneUsable s n = true → domOn s 1 = true → (lane s n).mark = true →
    Leads (.laneRewind n) s (fun t => lane t n = { lane s n with resp := (lane s n).held ++ (lane s n).resp, held := [] })
      ∧ Leads (.laneRelease n) s (fun t => lane t n = { lane s n with mark := false, held := [] }))
  ∧ (∀ (n : Fin 4) (s : State), laneUsable s n = true → domOn s 1 = true → (lane s n).mark = false →
    Leads (.laneRewind n) s (fun t => getF F.keepGzCtrl_seq_err n t = 1 ∧ RegsButFor [F.keepGzCtrl_seq_err.key n] s t
        ∧ { t with regs := s.regs } = s)
      ∧ Leads (.laneRelease n) s (fun t => getF F.keepGzCtrl_seq_err n t = 1 ∧ RegsButFor [F.keepGzCtrl_seq_err.key n] s t
        ∧ { t with regs := s.regs } = s))
  ∧ (∀ (n : Fin 4) (w : Word) (s : State), s.start.testHeld = false → pcieUsed s = true → getB F.netPcieStatus_link_up 0 s = true →
    domOn s 1 = true → lanePresent s n = true → w.getLsbD 3 = false → w.getLsbD 9 = false →
    Leads (.registerWrite (0x2004 + 0x20 * n.val) w 15) s (fun t => lane t n = markBits w (lane s n)
      ∧ getF F.keepGzCtrl_seq_err n t = (if (w.getLsbD 1 || w.getLsbD 2) && !(lane s n).mark then 1 else getF F.keepGzCtrl_seq_err n s)
      ∧ RegsButFor [F.keepGzCtrl_seq_err.key n] s t ∧ ∀ m : Fin 4, m ≠ n → lane t m = lane s m))

/-- The SPI target (R132, R133, R466): WRITE_CMD fills the command FTQ of LANE2, READ_RESP takes what its response FTQ holds, READ_STAT
returns its status, WRITE_CTRL acts on its marks in the order rewind, release, mark; a type that is not defined, and a count that is not 1
for a transaction of one word, set spi_bad_type; a falling SPI_CS_N wakes a sleeping KEEP_CPU.
The model's choices it rests on: log 3. -/
def Obligations.SpiServesLaneTwo : Prop :=
  (∀ (count : Byte) (ws : List (Word × Ecc)) (s : State), serving s = true → domOn s 1 = true → laneFailed s 2 = false →
    resyncWait s 2 = false → (lane s 2).ready.isSome = true → (lane s 2).cmd.length ≤ 128 →
    Leads (.writeCmd count ws) s (fun t => (lane t 2).cmd = ((lane s 2).cmd ++ ws.take count.toNat).take 128
      ∧ (lane t 2).asm = (lane s 2).asm ∧ (lane t 2).ready = (lane s 2).ready ∧ t.now = s.now ∧ t.regs = s.regs))
  ∧ (∀ (count : Byte) (s : State), serving s = true → domOn s 1 = true → laneFailed s 2 = false →
    (lane s 2).resp.length + (lane s 2).held.length ≤ 128 →
    Leads (.readResp count (List.replicate count.toNat .ok)) s (fun t =>
      (lane t 2).resp = (lane s 2).resp.drop count.toNat
      ∧ (lane t 2).held = (lane s 2).held ++ (if (lane s 2).mark then (lane s 2).resp.take count.toNat else [])
      ∧ t.outs = (((lane s 2).resp.take count.toNat).map (Out.laneWord 2)).reverse ++ s.outs ∧ t.regs = s.regs ∧ t.now = s.now))
  ∧ (∀ (s : State), s.start.testHeld = false → domOn s 1 = true →
    Leads (.readStat 1) s (fun t => t = { s with outs := .laneWord 2 (laneStatW s 2) :: s.outs })
      ∧ Leads (.readStat 0) s (fun t => t = s))
  ∧ (∀ (w : Word) (s : State), s.start.testHeld = false → domOn s 1 = true → (lane s 2).mark = true → resyncWait s 2 = false →
    w.getLsbD 0 = true → w.getLsbD 1 = true → w.getLsbD 2 = true →
    Leads (.writeCtrl 1 w) s (fun t => lane t 2 = { lane s 2 with resp := (lane s 2).held ++ (lane s 2).resp, held := [], mark := true }))
  ∧ (∀ (w : Word) (s : State), s.start.testHeld = false → domOn s 1 = true → w.getLsbD 9 = true → fieldOf w 3 0 = 0 →
    Leads (.writeCtrl 1 w) s (fun t => getF F.keepGzCtrl_seq_err 2 t = 0 ∧ RegsButFor [F.keepGzCtrl_seq_err.key 2] s t
      ∧ { t with regs := s.regs } = s))
  ∧ (∀ (type count : Byte) (s : State), s.start.testHeld = false → domOn s 1 = true →
    (type ≠ 1 ∧ type ≠ 2 ∧ type ≠ 3 ∧ type ≠ 4) ∨ ((type = 3 ∨ type = 4) ∧ count ≠ 0 ∧ count ≠ 1) →
    Leads (.spiBadType type count) s (fun t => getF F.keepGzStat_spi_bad_type 2 t = 1 ∧ RegsButFor [F.keepGzStat_spi_bad_type.key 2] s t
      ∧ { t with regs := s.regs } = s))
  ∧ (∀ (s : State), wakesAtOnce 1 s = true → domState s 1 = 1 →
    Leads .spiCsFall s (fun t => domOn t 1 = true ∧ getF F.keepPwrWsrc_code 1 t = 0x0B
      ∧ getF F.keepPwrWsrc_seq 1 t = (getF F.keepPwrWsrc_seq 1 s + 1) % 2 ^ 16))
  ∧ (∀ (s : State), domOn s 1 = true → Leads .spiCsFall s (fun t => t = s))

/-- Commands are taken from the lanes in turn (R122 to R128): the first lane after the one taken last that has a whole command waiting is
served; an opcode that is not one is answered GZ_BAD_OPCODE, a command that is not whole or has another length than its opcode GZ_BAD_LENGTH,
and one that passes runs its body with its words; where no command waits, nothing changes.
The model's choices it rests on: log 85. -/
def Obligations.CommandsAreTakenInTurn : Prop :=
  (∀ (env : Env) (m : Fin 4) (w : Word) (ws : List Word) (s : State),
    (lane s 0).cmd = [] → (lane s 1).cmd = [] → (lane s 2).cmd = [] → (lane s 3).cmd = [] → domOn s 1 = true →
    [(s.lastLane + 1) % 4, (s.lastLane + 2) % 4, (s.lastLane + 3) % 4, (s.lastLane + 4) % 4].find? (canStart s) = some m.val →
    (lane s m).ready = some ws → wAt ws 0 = w → ws.length = fieldOf w 23 16 + 1 → bodyOf (fieldOf w 15 0) = none → (lane s m).errDue = false →
    Leads (.commandTaken env) s (fun t => t.lastLane = m.val
      ∧ lane t m = { lane s m with ready := none, resp := (lane s m).resp ++ response .badOpcode (BitVec.ofNat 8 (fieldOf w 31 24)) [] }
      ∧ ∀ k : Fin 4, k ≠ m → lane t k = lane s k))
  ∧ (∀ (env : Env) (m : Fin 4) (w : Word) (ws : List Word) (s : State),
    (lane s 0).cmd = [] → (lane s 1).cmd = [] → (lane s 2).cmd = [] → (lane s 3).cmd = [] → domOn s 1 = true →
    [(s.lastLane + 1) % 4, (s.lastLane + 2) % 4, (s.lastLane + 3) % 4, (s.lastLane + 4) % 4].find? (canStart s) = some m.val →
    (lane s m).ready = some ws → wAt ws 0 = w → ws.length ≠ fieldOf w 23 16 + 1 → (lane s m).errDue = false →
    Leads (.commandTaken env) s (fun t =>
      lane t m = { lane s m with ready := none, resp := (lane s m).resp ++ response .badLength (BitVec.ofNat 8 (fieldOf w 31 24)) [] }
      ∧ ∀ k : Fin 4, k ≠ m → lane t k = lane s k))
  ∧ (∀ (env : Env) (m : Fin 4) (w : Word) (s : State) (ws : List Word),
    (lane s 0).cmd = [] → (lane s 1).cmd = [] → (lane s 2).cmd = [] → (lane s 3).cmd = [] → domOn s 1 = true →
    [(s.lastLane + 1) % 4, (s.lastLane + 2) % 4, (s.lastLane + 3) % 4, (s.lastLane + 4) % 4].find? (canStart s) = some m.val →
    (lane s m).ready = some (w :: ws) → fieldOf w 15 0 = 0x0103 → ws.length = fieldOf w 23 16 → judge m 0x0103 ws.length s = none →
    (lane s m).errDue = false →
    Leads (.commandTaken env) s (fun t =>
      lane t m = { lane s m with ready := none, resp := (lane s m).resp ++ response .ok (BitVec.ofNat 8 (fieldOf w 31 24)) ws }
      ∧ ∀ k : Fin 4, k ≠ m → lane t k = lane s k))
  ∧ (∀ (env : Env) (s : State),
    (lane s 0).cmd = [] → (lane s 1).cmd = [] → (lane s 2).cmd = [] → (lane s 3).cmd = [] →
    canStart s 0 = false → canStart s 1 = false → canStart s 2 = false → canStart s 3 = false →
    Leads (.commandTaken env) s (fun t => t = s))

/-- Registers, GPIO and JTAG (R5 to R7, R42, R543, R548, R551, R552, R554, R555): a write sets what is RW, clears what is W1C and
written 1, and leaves what is RO; one with partial byte enables is discarded; a read of an RC field clears it; a reserved address reads 0; the
first register of a pair latches the other, which then returns what was latched; an address beyond BAR0 does not exist. KEEP_GPIO_SET sets bits
of out and KEEP_GPIO_CLR clears them; an edge at a ball that is an input sets its edge bit and its level, a ball that is driven has none; EXTEST,
CLAMP, HIGHZ and the private instructions select BYPASS until debug authentication has succeeded.
The model's choices it rests on: logs 9, 87. -/
def Obligations.RegistersAndPinsAnswer : Prop :=
  (∀ (w : Word) (s : State), s.start.testHeld = false → pcieUsed s = true → getB F.netPcieStatus_link_up 0 s = true →
    Leads (.registerWrite 8 w 15) s (fun t => getF F.keepScratch_scratch 0 t = w.toNat ∧ RegsButFor [F.keepScratch_scratch.key 0] s t
      ∧ { t with regs := s.regs } = s))
  ∧ (∀ (a : Fin 32) (w : Word) (s : State), a.val < 8 ∨ (12 ≤ a.val ∧ a.val < 16) → a.val % 4 = 0 → s.start.testHeld = false →
    pcieUsed s = true → getB F.netPcieStatus_link_up 0 s = true → Leads (.registerWrite a w 15) s (fun t => t = s))
  ∧ (∀ (a : Nat) (be : Fin 16) (w : Word) (s : State), a < 0x1000000 → be.val ≠ 15 ∨ a % 4 ≠ 0 →
    Leads (.registerWrite a w be) s (fun t => t = s))
  ∧ (∀ (a : Nat) (be : Fin 16) (w : Word) (s : State), 0x1000000 ≤ a →
    exec (.registerWrite a w be) s = .fault .outsideBar0 ∧ exec (.rcRegisterRead a) s = .fault .outsideBar0
      ∧ exec (.latchedPairRead a) s = .fault .outsideBar0)
  ∧ (∀ (w : Word) (s : State), s.start.testHeld = false → pcieUsed s = true → getB F.netPcieStatus_link_up 0 s = true → domOn s 1 = true →
    Leads (.registerWrite 0x4D9C w 15) s (fun t =>
      (∀ j : Fin 24, bitOf (getF F.keepGpioEdge_edge 0 t) j = (bitOf (getF F.keepGpioEdge_edge 0 s) j && !w.getLsbD j))
      ∧ RegsButFor [F.keepGpioEdge_edge.key 0] s t ∧ { t with regs := s.regs } = s))
  ∧ (∀ (n : Fin 3) (s : State), s.start.testHeld = false → pcieUsed s = true → getB F.netPcieStatus_link_up 0 s = true → domOn s 1 = true →
    Leads (.rcRegisterRead (0x2010 + 0x20 * n.val)) s (fun t =>
      t.outs = .readData (0x2010 + 0x20 * n.val) ((getF F.keepGzOvr_overruns n s + 65536 * getF F.keepGzOvr_empty_reads n s) % 2 ^ 32) :: s.outs
      ∧ getF F.keepGzOvr_overruns n t = 0 ∧ getF F.keepGzOvr_empty_reads n t = 0
      ∧ RegsButFor [F.keepGzOvr_overruns.key n, F.keepGzOvr_empty_reads.key n] s t ∧ { t with regs := s.regs, outs := s.outs } = s))
  ∧ (∀ (s : State), s.start.testHeld = false → pcieUsed s = true → getB F.netPcieStatus_link_up 0 s = true → domOn s 1 = true →
    Leads (.rcRegisterRead 0x40) s (fun t => t.outs = .readData 0x40 (getF F.keepSpineCntAge_age_grant 0 s % 2 ^ 32) :: s.outs
      ∧ getF F.keepSpineCntAge_age_grant 0 t = 0 ∧ RegsButFor [F.keepSpineCntAge_age_grant.key 0] s t))
  ∧ (∀ (a : Fin 32) (s : State), a.val / 4 = 3 ∨ a.val / 4 = 7 → s.start.testHeld = false → pcieUsed s = true →
    getB F.netPcieStatus_link_up 0 s = true →
    Leads (.rcRegisterRead a) s (fun t => t = { s with outs := .readData (a.val / 4 * 4) 0 :: s.outs }))
  ∧ (∀ (s : State), s.start.testHeld = false → pcieUsed s = true → getB F.netPcieStatus_link_up 0 s = true → domOn s 1 = true →
    Leads (.latchedPairRead 0x4C00) s (fun t => t.outs = .readData 0x4C00 (s.time.ns % 2 ^ 32) :: s.outs
        ∧ tabGet t.time.latch 0x4C04 0 = s.time.ns / 2 ^ 32 ∧ t.time.ns = s.time.ns ∧ t.regs = s.regs)
      ∧ Leads (.latchedPairRead 0x4C04) s (fun t =>
        t = { s with outs := .readData 0x4C04 (tabGet s.time.latch 0x4C04 0 % 2 ^ 32) :: s.outs }))
  ∧ (∀ (w : Word) (s : State), domOn s 1 = true →
    Leads (.gpioSetWrite w) s (fun t =>
      (∀ j : Fin 24, bitOf (getF F.keepGpioOut_out 0 t) j = (bitOf (getF F.keepGpioOut_out 0 s) j || w.getLsbD j))
        ∧ RegsButFor [F.keepGpioOut_out.key 0] s t ∧ { t with regs := s.regs } = s)
      ∧ Leads (.gpioClrWrite w) s (fun t =>
        (∀ j : Fin 24, bitOf (getF F.keepGpioOut_out 0 t) j = (bitOf (getF F.keepGpioOut_out 0 s) j && !w.getLsbD j))
        ∧ RegsButFor [F.keepGpioOut_out.key 0] s t ∧ { t with regs := s.regs } = s))
  ∧ (∀ (j : Fin 24) (level : Bool) (s : State), ballDrives s j = none → bitOf (getF F.keepGpioIn_in 0 s) j ≠ level → domOn s 1 = true →
    getB F.keepPwrSupply_io33_low 0 s = false →
    Leads (.gpioEdge j level) s (fun t =>
      (∀ k : Fin 24, bitOf (getF F.keepGpioIn_in 0 t) k = (if k = j then level else bitOf (getF F.keepGpioIn_in 0 s) k)
        ∧ bitOf (getF F.keepGpioEdge_edge 0 t) k = (if k = j then true else bitOf (getF F.keepGpioEdge_edge 0 s) k))
      ∧ RegsButFor [F.keepGpioIn_in.key 0, F.keepGpioEdge_edge.key 0] s t ∧ { t with regs := s.regs } = s))
  ∧ (∀ (j : Fin 24) (level : Bool) (s : State), (ballDrives s j).isSome = true → Leads (.gpioEdge j level) s (fun t => t = s))
  ∧ (∀ (j : Jtag) (s : State), Leads (.jtagInstructionLoad j) s (fun t => t.start.jtag =
      (if s.keys.debugActive = true ∨ j = .bypass ∨ j = .idcode ∨ j = .samplePreload then j else .bypass)
      ∧ { t with start := s.start } = s))

/-- Gain, temperature and synthesisers (R144 to R152, R287): in automatic mode the gain steps down above 4 clipped samples, at most once in
20 µs, and up after 10 ms below −12 dBFS, at most once in 10 ms; a drift of temp_delta sets a calibration pending; after 5 s it is forced and
announced; a calibration starts at the announced boundary, or in a gap, and ends with the lock report; a synthesiser that does not lock is
retried once, and then its self-test is due; one that loses its lock calibrates at once.
The model's choices it rests on: logs 3, 14, 16, 27, 59. -/
def Obligations.PortsKeepTheirSynthesisers : Prop :=
  (∀ (p : Fin 3) (above : Nat) (s : State), portRuns s p = true → paramF s 0x0404 p 1 2 2 = 0 → 4 < above →
    (∀ x, (rf s p).downAt = some x → x + 20000 ≤ s.now) → 1 ≤ getF F.airRfStatus_gain_index p s → getF F.airRfStatus_gain_index p s ≤ 19 →
    Leads (.gainStepDown p above) s (fun t => getF F.airRfStatus_gain_index p t + 1 = getF F.airRfStatus_gain_index p s
      ∧ Counts F.airRfCntGain_steps_down p true s t ∧ rf t p = { rf s p with downAt := some s.now }
      ∧ RegsButFor [F.airRfStatus_gain_index.key p, F.airRfCntGain_steps_down.key p] s t
      ∧ { t with regs := s.regs, rf := s.rf, diag := s.diag } = s))
  ∧ (∀ (p : Fin 3) (low : Nat) (s : State), portRuns s p = true → paramF s 0x0404 p 1 2 2 = 0 → 10000000 ≤ low →
    (∀ x, (rf s p).upAt = some x → x + 10000000 ≤ s.now) → getF F.airRfStatus_gain_index p s < 19 →
    Leads (.gainStepUp p low) s (fun t => getF F.airRfStatus_gain_index p t = getF F.airRfStatus_gain_index p s + 1
      ∧ Counts F.airRfCntGain_steps_up p true s t ∧ rf t p = { rf s p with upAt := some s.now }
      ∧ RegsButFor [F.airRfStatus_gain_index.key p, F.airRfCntGain_steps_up.key p] s t
      ∧ { t with regs := s.regs, rf := s.rf, diag := s.diag } = s))
  ∧ (∀ (p : Fin 3) (temp : Int) (s : State), portRuns s p = true → (rf s p).hasCal = true →
    Leads (.portTempReading p temp) s (fun t => getI F.airRfStatus_temp_c p t = wholeC (trimmedTemp s temp)
      ∧ (rf t p).temp = trimmedTemp s temp
      ∧ (getB F.airRfStatus_cal_pending p t = true ↔ getB F.airRfStatus_cal_pending p s = true
          ∨ 10 * paramF s 0x0401 p 1 13 8 ≤ (trimmedTemp s temp - (rf s p).calTemp).natAbs)
      ∧ (rf t p).pendAt = (if getB F.airRfStatus_cal_pending p s = false
          ∧ 10 * paramF s 0x0401 p 1 13 8 ≤ (trimmedTemp s temp - (rf s p).calTemp).natAbs then s.now else (rf s p).pendAt)
      ∧ RegsButFor [F.airRfStatus_temp_c.key p, F.airRfStatus_cal_pending.key p] s t))
  ∧ (∀ (p : Fin 3) (s : State), portRuns s p = true → getB F.airRfStatus_cal_pending p s = true → getF F.airRfStatus_cal_forced p s = 0 →
    Leads (.calibrationForce p) s (fun t => getF F.airRfStatus_cal_forced p t = 1 ∧ Counts F.airRfCntForced_forced p true s t
      ∧ t.now = max ((rf s p).pendAt + 5000000000) s.now
      ∧ (rf t p).announced = boundaryFrom (waitTill ((rf s p).pendAt + 5000000000) s) (t.time.ns + 1000000)
      ∧ Raised Ev.airSynthCalForced [(p.val, 2), (unsignedOf (clampI (-32768) 32767 ((rf s p).temp - (rf s p).calTemp)) 16, 16), (0, 14),
          ((rf t p).announced, 64)] s t))
  ∧ (∀ (p : Fin 3) (s : State), portRuns s p = true → getB F.airRfStatus_cal_forced p s = true → getF F.airRfStatus_synth p s = 0 →
    (rf s p).searching = false → portOnAir s p = false →
    Leads (.calibrationStart p) s (fun t => getF F.airRfStatus_synth p t = 2 ∧ getF F.airRfStatus_cal_forced p t = 0
      ∧ getF F.airRfStatus_cal_pending p t = 0 ∧ Counts F.airRfCntCal_cals p true s t
      ∧ t.now = (waitKeep (rf s p).announced s).now ∧ (rf t p).lockDue = t.now + 1200000 ∧ (rf t p).forcedRun = true))
  ∧ (∀ (p : Fin 3) (g : Nat × Nat) (s : State), portRuns s p = true → getB F.airRfStatus_cal_forced p s = false →
    getB F.airRfStatus_cal_pending p s = true → (rf s p).forceCal = false → gapOf s p = some g → getF F.airRfStatus_synth p s = 0 →
    (rf s p).searching = false → portOnAir s p = false →
    Leads (.calibrationStart p) s (fun t => getF F.airRfStatus_synth p t = 2 ∧ getF F.airRfStatus_cal_pending p t = 0
      ∧ t.now = (waitKeep g.1 s).now ∧ tabFind t.slm.claims p = some (g.1, g.1 + 2000000) ∧ (rf t p).forcedRun = false))
  ∧ (∀ (p : Fin 3) (temp : Int) (s : State), portRuns s p = true → getF F.airRfStatus_synth p s = 2 →
    Leads (.synthLock p temp) s (fun t => getF F.airRfStatus_synth p t = 0 ∧ (rf t p).hasCal = true
      ∧ (rf t p).calTemp = trimmedTemp s temp ∧ getI F.airRfStatus_cal_temp_c p t = wholeC (trimmedTemp s temp)
      ∧ getI F.airRfStatus_temp_c p t = wholeC (trimmedTemp s temp) ∧ t.now = s.now))
  ∧ (∀ (p : Fin 3) (e : Fin 8) (x : Tx) (temp : Int) (s : State), portRuns s p = true → getF F.airRfStatus_synth p s = 1 →
    emBound s e = true → emPort s e = p.val → (em s e).tx = some x → x.phase = 0 →
    Leads (.synthLock p temp) s (fun t => getF F.airRfStatus_synth p t = 0 ∧ rf t p = rf s p
      ∧ (em t e).tx = some { x with phase := 1 }))
  ∧ (∀ (p : Fin 3) (s : State), portRuns s p = true → getF F.airRfStatus_synth p s = 1 ∨ getF F.airRfStatus_synth p s = 2 →
    (rf s p).retried = false →
    Leads (.synthLockTimeout p) s (fun t => (rf t p).retried = true ∧ t.now = max (rf s p).lockDue s.now
      ∧ (rf t p).lockDue = t.now + (if getF F.airRfStatus_synth p s = 1 then 100000 else 1200000) ∧ t.diag.tests = s.diag.tests))
  ∧ (∀ (p : Fin 3) (s : State), portRuns s p = true → getF F.airRfStatus_synth p s = 1 ∨ getF F.airRfStatus_synth p s = 2 →
    (rf s p).retried = true → testQueue (testBlock 7 p) s = [] →
    Leads (.synthLockTimeout p) s (fun t =>
      testQueue (testBlock 7 p) t = [⟨7, 3, p.val, t.now, false⟩] ∧ t.now = max (rf s p).lockDue s.now))
  ∧ (∀ (p : Fin 3) (s : State), portRuns s p = true → getF F.airRfStatus_synth p s = 0 →
    Leads (.synthUnlock p) s (fun t => getF F.airRfStatus_synth p t = 2 ∧ Counts F.airRfCntCal_cals p true s t
      ∧ getB F.airRfStatus_cal_pending p t = getB F.airRfStatus_cal_pending p s
      ∧ getB F.airRfStatus_cal_forced p t = getB F.airRfStatus_cal_forced p s
      ∧ (rf t p).lockDue = t.now + 1200000 ∧ t.now = s.now
      ∧ Raised Ev.airSynthUnlock [(p.val, 2), (s.time.ns, 64), (maskOf ((portEms s p).filter (emOnAir s)), 8)] s t))

/-- Reflected power (R163 to R165, R171): a measured frame sets last and peak, and is counted; above 3:1 it is counted and raised, above 6:1 a
search is pending and the port backs off by 6 dB; at 3:1 or less a back-off ends; a search tries each axis and keeps what is better; a test
tone ends at its duration.
The model's choices it rests on: logs 3, 14, 33, 59. -/
def Obligations.ReflectedPowerIsWatched : Prop :=
  (∀ (e : Fin 8) (v : Nat) (x : Tx) (s : State), (em s e).tx = some x → 4 ≤ x.phase → 100000 ≤ x.air → v ≤ 300 →
    getB F.airRfStatus_vswr_backoff (emPort s e) s = false → getF F.airRfVswr_peak (emPort s e) s < 2 ^ 16 →
    Leads (.vswrMeasurement e v) s (fun t => getF F.airRfVswr_last (emPort s e) t = v
      ∧ getF F.airRfVswr_peak (emPort s e) t = max v (getF F.airRfVswr_peak (emPort s e) s)
      ∧ RegsButFor [F.airRfVswr_last.key (emPort s e), F.airRfVswr_peak.key (emPort s e)] s t
      ∧ { t with regs := s.regs, diag := s.diag } = s))
  ∧ (∀ (e : Fin 8) (v : Nat) (x : Tx) (s : State), (em s e).tx = some x → 4 ≤ x.phase → 100000 ≤ x.air → v ≤ 300 →
    getB F.airRfStatus_vswr_backoff (emPort s e) s = true →
    Leads (.vswrMeasurement e v) s (fun t => getF F.airRfStatus_vswr_backoff (emPort s e) t = 0
      ∧ Raised Ev.airVswrRestored [(emPort s e, 2), (v, 16)] s t))
  ∧ (∀ (e : Fin 8) (v : Nat) (x : Tx) (s : State), (em s e).tx = some x → 4 ≤ x.phase → 100000 ≤ x.air → 300 < v → v ≤ 600 →
    tabFind s.evq.rate (Ev.airVswrHigh.1 * 65536 + emPort s e) = none → s.evq.q.length < 256 →
    Leads (.vswrMeasurement e v) s (fun t => t.evq.q = s.evq.q ++ [⟨Ev.airVswrHigh.1, Ev.airVswrHigh.2, s.time.ns,
        packItems [(emPort s e, 2), (v, 16), (e.val, 3), (x.khz, 22)] % 2 ^ 96⟩] ∧ getF F.airRfVswr_last (emPort s e) t = v
      ∧ Counts F.airRfCntVswrHigh_vswr_high (emPort s e) true s t
      ∧ getF F.airRfStatus_vswr_backoff (emPort s e) t = getF F.airRfStatus_vswr_backoff (emPort s e) s))
  ∧ (∀ (e : Fin 8) (v : Nat) (x : Tx) (s : State), (em s e).tx = some x → 4 ≤ x.phase → 100000 ≤ x.air → 600 < v →
    getB F.airRfStatus_vswr_backoff (emPort s e) s = false →
    Leads (.vswrMeasurement e v) s (fun t => getF F.airRfStatus_vswr_backoff (emPort s e) t = 1
      ∧ getF F.airRfStatus_search_pending (emPort s e) t = 1 ∧ Counts F.airRfCntBackoff_backoffs (emPort s e) true s t
      ∧ (rf t (emPort s e)).highKhz = x.khz))
  ∧ (∀ (e : Fin 8) (v : Nat) (x : Tx) (s : State), (em s e).tx = some x → x.phase < 4 ∨ x.air < 100000 →
    Leads (.vswrMeasurement e v) s (fun t => t = s))
  ∧ (∀ (p : Fin 3) (reads : List Nat) (r : Search) (s : State), portRuns s p = true → getF F.airRfStatus_synth p s = 0 → txOpen s = true →
    deferring s = false → portOnAir s p = false → (rf s p).forceSearch = true → getB F.airRfStatus_vswr_backoff p s = false →
    r = searchPasses (if extTuner s p then [0, 1, 2] else [0, 1]) 4
      ⟨(getF F.airRfLo_match_series p s, getF F.airRfLo_match_shunt p s, (rf s p).extState), min (reads.headD 0) 65535, reads.drop 1, 1, false⟩ →
    Leads (.tunerSearchRun p reads) s (fun t => r.g ≤ min (reads.headD 0) 65535
      ∧ getF F.airRfLo_match_series p t = r.best.1 % 32 ∧ getF F.airRfLo_match_shunt p t = r.best.2.1 % 32
      ∧ (extTuner s p = true → (rf t p).extState = r.best.2.2)
      ∧ getB F.airRfStatus_search_pending p t = decide (300 < r.g) ∧ Counts F.airRfCntSearch_searches p true s t
      ∧ (rf t p).forceSearch = false ∧ (rf t p).searching = false
      ∧ Raised Ev.airTunerSearchDone [(p.val, 2), (min (reads.headD 0) 65535, 16), (r.g, 16), (r.best.1, 5), (r.best.2.1, 5), (r.best.2.2, 4)] s t))
  ∧ (∀ (e : Fin 8) (n : Tone) (x : Tx) (s : State), (em s e).tone = some n → n.stage = 2 → (em s e).tx = some x → x.kind = 4 → x.phase = 4 →
    Leads (.testToneEnd e) s (fun t => (em t e).tone = none ∧ (em t e).tx = some { x with phase := 5 }
      ∧ t.now = max (x.start + 1000000 * n.durMs) s.now))

/-- Error events and targeted self-tests (R113, R510 to R515): an error event is counted and queues the test of its element once; a full queue
defers it; a test starts when its element is free, or 10 ms after it reached the head; it ends TRANSIENT, or LASTING with a spare in the place
of the element; a fault without a spare resets the domain, which comes back or is FAILED.
The model's choices it rests on: logs 3, 27, 28, 80, 84. -/
def Obligations.FaultsAreTestedAndClassified : Prop :=
  (∀ (k : Fin 10) (r : Fin 4) (i : Nat) (what : ErrKind) (q : List TestSt) (s : State), k.val < 8 → k.val ≠ 1 → what ≠ .uncorrectable →
    k.val ≠ 2 ∨ rowsUsed s (i / 1024) < 4 → (elemDomain k i).all (domOn s) = true →
    testQueue (testBlock k i) s = q → q.length < 8 → q.all (fun x => x.kind != k.val || x.index != i) = true →
    Leads (.errorEvent k r i what) s (fun t =>
      testQueue (testBlock k i) t = q ++ [⟨k.val, elemRegion k r i, i, s.now, false⟩]
      ∧ tabGet t.diag.life 3 0 = satAdd 64 (tabGet s.diag.life 3 0) 1 ∧ t.diag.cls = s.diag.cls
      ∧ (what = .corrected → tabGet t.diag.life (9 + elemRegion k r i) 0 = satAdd 64 (tabGet s.diag.life (9 + elemRegion k r i) 0) 1)
      ∧ { t with diag := s.diag } = s))
  ∧ (∀ (k : Fin 10) (r : Fin 4) (i : Nat) (what : ErrKind) (x : TestSt) (s : State), k.val < 8 → k.val ≠ 1 → what ≠ .uncorrectable →
    x ∈ testQueue (testBlock k i) s → x.kind = k.val → x.index = i →
    Leads (.errorEvent k r i what) s (fun t => t.diag.tests = s.diag.tests
      ∧ tabGet t.diag.life 3 0 = satAdd 64 (tabGet s.diag.life 3 0) 1 ∧ t.diag.cls = s.diag.cls ∧ { t with diag := s.diag } = s))
  ∧ (∀ (k : Fin 10) (r : Fin 4) (i : Nat) (what : ErrKind) (s : State), k.val < 8 → k.val ≠ 1 → what ≠ .uncorrectable →
    k.val ≠ 2 ∨ rowsUsed s (i / 1024) < 4 → (testQueue (testBlock k i) s).length = 8 →
    (testQueue (testBlock k i) s).all (fun x => x.kind != k.val || x.index != i) = true → domOn s 2 = true →
    Leads (.errorEvent k r i what) s (fun t => t.diag.tests = s.diag.tests
      ∧ tabGet t.diag.cls (4 * k.val + 3) 0 = satAdd 32 (tabGet s.diag.cls (4 * k.val + 3) 0) 1
      ∧ (t.diag.journal.getLast?).map (fun e => (e.type, e.contents))
        = some (1, packItems [(k.val, 4), (elemRegion k r i + 1, 8), (i, 32), (1, 1)])))
  ∧ (∀ (k : Fin 10) (i : Nat) (x : TestSt) (q : List TestSt) (s : State), testQueue (testBlock k i) s = x :: q → x.running = false →
    x.kind = k.val → x.index = i → holdsOperation s k i = false →
    Leads (.selfTestStart k i) s (fun t => testQueue (testBlock k i) t = { x with running := true } :: q ∧ t.now = s.now
      ∧ underTest t k i = true))
  ∧ (∀ (k : Fin 10) (i : Nat) (x : TestSt) (q : List TestSt) (s : State), testQueue (testBlock k i) s = x :: q → x.running = false →
    x.kind = k.val → x.index = i → holdsOperation s k i = true →
    Leads (.selfTestStart k i) s (fun t => testQueue (testBlock k i) t = { x with running := true } :: q
      ∧ t.now = max (x.headAt + 10000000) s.now))
  ∧ (∀ (k : Fin 10) (i : Nat) (x : TestSt) (q : List TestSt) (s : State), testQueue (testBlock k i) s = x :: q → x.running = true →
    x.kind = k.val → x.index = i → k.val ≠ 5 → k.val ≠ 7 →
    Leads (.selfTestOutcome k i true) s (fun t =>
      (testQueue (testBlock k i) t).map (fun y => (y.kind, y.index)) = q.map (fun y => (y.kind, y.index))
      ∧ tabGet t.diag.cls (4 * k.val) 0 = satAdd 32 (tabGet s.diag.cls (4 * k.val) 0) 1
      ∧ tabGet t.diag.cls (4 * k.val + 1) 0 = satAdd 32 (tabGet s.diag.cls (4 * k.val + 1) 0) 1
      ∧ t.diag.retired = s.diag.retired ∧ t.diag.rowSpares = s.diag.rowSpares ∧ t.evq = s.evq))
  ∧ (∀ (i : Nat) (x : TestSt) (q : List TestSt) (s : State), testQueue (testBlock 2 i) s = x :: q → x.running = true → x.kind = 2 →
    x.index = i → domOn s 2 = true → s.evq.q.length < 255 →
    Leads (.selfTestOutcome 2 i false) s (fun t => rowsUsed t (i / 1024) = rowsUsed s (i / 1024) + 1
      ∧ tabGet t.diag.cls 10 0 = satAdd 32 (tabGet s.diag.cls 10 0) 1
      ∧ t.evq.q = s.evq.q ++ [⟨Ev.keepFault.1, Ev.keepFault.2, s.time.ns, packItems [(2, 4), (x.region + 1, 8), (i, 32), (0, 1)] % 2 ^ 96⟩,
          ⟨Ev.keepMemRetired.1, Ev.keepMemRetired.2, s.time.ns,
            packItems [(2, 4), (x.region + 1, 8), (i, 32), (4 - (rowsUsed s (i / 1024) + 1), 32)] % 2 ^ 96⟩]))
  ∧ (∀ (i : Nat) (x : TestSt) (q : List TestSt) (s : State), i < 128 → testQueue (testBlock 0 i) s = x :: q → x.running = true → x.kind = 0 →
    x.index = i → domOn s 2 = true → s.evq.q.length < 255 → getF F.airLbStatus_spares_used (i / 16) s < 2 →
    Leads (.selfTestOutcome 0 i false) s (fun t =>
      getF F.airLbStatus_spares_used (i / 16) t = getF F.airLbStatus_spares_used (i / 16) s + 1
      ∧ t.evq.q = s.evq.q ++ [⟨Ev.keepFault.1, Ev.keepFault.2, s.time.ns, packItems [(0, 4), (x.region + 1, 8), (i, 32), (0, 1)] % 2 ^ 96⟩,
          ⟨Ev.airContextRetired.1, Ev.airContextRetired.2, s.time.ns,
            packItems [(i / 2, 6), (i % 2, 1), (1, 1), (1 - getF F.airLbStatus_spares_used (i / 16) s, 32)] % 2 ^ 96⟩]))
  ∧ (∀ (k : Fin 10) (i : Nat) (d : Fin 26) (s : State), serving s = true → 3 ≤ d.val → elemDomain k i = some d.val →
    domPresent s d = true → domState s d ≠ 3 → domOn s 2 = true → k.val ≠ 2 →
    Leads (.regionEscalation k i d false) s (fun t => domState t d = 3
      ∧ tabGet t.diag.life 8 0 = satAdd 64 (tabGet s.diag.life 8 0) 1
      ∧ (t.diag.journal.getLast?).map (fun e => (e.type, e.contents)) = some (4, packItems [(d.val, 32), (k.val, 4), (1, 1)])))
  ∧ (∀ (k : Fin 10) (i : Nat) (d : Fin 26) (s : State), serving s = true → 3 ≤ d.val → elemDomain k i = some d.val →
    domPresent s d = true → domState s d ≠ 3 → domOn s 2 = true → k.val ≠ 2 → depsOn d s = true → deferring s = false →
    railsHold s d = false → s.pwr.refLost = false →
    Leads (.regionEscalation k i d true) s (fun t => domOn t d = true
      ∧ tabGet t.diag.life 8 0 = satAdd 64 (tabGet s.diag.life 8 0) 1
      ∧ (t.diag.journal.getLast?).map (fun e => (e.type, e.contents)) = some (4, packItems [(d.val, 32), (k.val, 4), (0, 1)])))
  ∧ (∀ (n : Fin 4) (s : State), serving s = true → lanePresent s n = true → (lane s n).testCmd = true → (lane s n).cmd = [] →
    (lane s n).ex = none → (lane s n).badCmd ≤ 2 →
    Leads (.ftqPatternTest n false 0) s (fun t => lane t n = { lane s n with testCmd := false }
      ∧ tabGet t.diag.cls 5 0 = satAdd 32 (tabGet s.diag.cls 5 0) 1 ∧ laneFailed t n = laneFailed s n))
  ∧ (∀ (n : Fin 4) (bad : Nat) (s : State), serving s = true → lanePresent s n = true → (lane s n).testCmd = true → (lane s n).cmd = [] →
    (lane s n).ex = none → 0 < bad → 2 < (lane s n).badCmd + bad →
    Leads (.ftqPatternTest n false bad) s (fun t => laneFailed t n = true ∧ (lane t n).badCmd = (lane s n).badCmd + bad))

/-- Due instants of the configuration, the logbook and activation (R105, R502 to R504, R521, R524, R533, R534, R538): at its instant a
pending commit makes the staged copy the committed configuration, and is answered; a full flush 15 min after the last writes the next location;
the minute's temperature is counted in its bin; the pause of an activation holds LINK_SEQ and drops staging, and at its end releases it and answers,
with the domains that did not return FAILED; a pair sequence whose wait of 10 s runs out ends.
The model's choices it rests on: logs 3, 4, 11, 14, 31, 78. -/
def Obligations.DueInstantsAreKept : Prop :=
  (∀ (n k : Nat) (x : Exec) (s : State), s.cfg.pending = some (n, k) → (lane s n).ex = some x → x.opcode = 0x0120 →
    Leads .commitInstant s (fun t => t.cfg.committed = s.cfg.staged ∧ t.cfg.staged = s.cfg.staged ∧ t.cfg.dirty = false
      ∧ t.cfg.owner = none ∧ t.cfg.pending = none ∧ t.cfg.commitSeq = (s.cfg.commitSeq + 1) % 2 ^ 32
      ∧ t.now = (waitKeep (boundaryFrom s k) s).now ∧ t.cfg.commitAt = (waitKeep (boundaryFrom s k) s).time.ns ∧ (lane t n).ex = none))
  ∧ (∀ (s : State), s.cfg.pending = none → s.torch.commit = none → Leads .commitInstant s (fun t => t = s))
  ∧ (∀ (s : State), domOn s 2 = true →
    Leads .logbookFullFlush s (fun t => t.now = (waitKeep (s.diag.fullKeep + 900000000000) s).now ∧ t.diag.seq = (s.diag.seq + 1) % 2 ^ 32
      ∧ t.diag.lastLoc = (s.diag.lastLoc + 1) % 4 ∧ t.diag.fullKeep = t.time.ns ∧ t.diag.fullAt = some t.now
      ∧ (tabFind t.diag.locs t.diag.lastLoc).map (fun l => (l.seq, l.time, l.jseq, l.life, l.hist, l.cls, l.valid))
        = some (t.diag.seq, t.time.ns, s.diag.jseq, t.diag.life, t.diag.hist, t.diag.cls, true)
      ∧ tabGet t.diag.life 0x0D 0 = satAdd 64 (tabGet s.diag.life 0x0D 0) 1 ∧ t.diag.journal = s.diag.journal ∧ t.regs = s.regs))
  ∧ (∀ (temp : Int) (k : Fin 16) (s : State), (temp < -300 ∧ k.val = 0) ∨ (1100 ≤ temp ∧ k.val = 15)
      ∨ (1 ≤ k.val ∧ k.val ≤ 14 ∧ -400 + 100 * (k.val : Int) ≤ temp ∧ temp < -300 + 100 * (k.val : Int)) →
    Leads (.partTemperatureMinuteCount temp) s (fun t =>
      t.diag.hist = tabSetN s.diag.hist k (satAdd 32 (tabGet s.diag.hist k 0) 1) ∧ { t with diag := s.diag } = s))
  ∧ (∀ (dead : List Nat) (a : Activation) (s : State), s.upd.act = some a → a.began = none →
    Leads (.activationPause dead) s (fun t => t.now = (waitKeep a.pauseAt s).now ∧ 15 ∈ t.pwr.held ∧ t.cfg.staged = s.cfg.committed
      ∧ t.cfg.dirty = false ∧ t.cfg.pending = none ∧ (t.upd.act.bind (fun b => b.began)).map (·.1) = some t.now
      ∧ (t.upd.act.bind (fun b => b.began)).any (fun b => b.2 ≤ 180000) = true ∧ activationPauses t = true
      ∧ t.freeCtr = s.freeCtr + 1 ∧ t.regs = s.regs ∧ t.lanes = s.lanes))
  ∧ (∀ (a : Activation) (b us : Nat) (x : Exec) (s : State), s.upd.act = some a → a.began = some (b, us) → a.image = false → a.lane ≤ 3 →
    (lane s a.lane).ex = some x → x.dropped = false → (lane s a.lane).errDue = false →
    Leads (.activationPause []) s (fun t => t.now = max (b + 1000 * us) s.now ∧ t.upd.act = none ∧ t.pwr.held = s.pwr.held.filter (· != 15)
      ∧ lane t a.lane = { lane s a.lane with ex := none, resp := ((lane s a.lane).resp
          ++ response .ok x.tag [w32 (maskOf (restartDomains a.kinds)), w32 us]) }))
  ∧ (∀ (a : Activation) (b us : Nat) (x : Exec) (s : State), s.upd.act = some a → a.began = some (b, us) → a.image = false → a.lane ≤ 3 →
    (lane s a.lane).ex = some x → x.dropped = false → (lane s a.lane).errDue = false → a.kinds.contains 2 = true →
    Leads (.activationPause [15]) s (fun t => domState t 15 = 3 ∧ t.upd.act = none
      ∧ lane t a.lane = { lane s a.lane with ex := none, resp := ((lane s a.lane).resp
          ++ response .domainFailed x.tag [w32 (maskOf (restartDomains a.kinds)), w32 us]) }))
  ∧ (∀ (p : PairSeq) (x : Exec) (s : State), s.torch.pair = some p → p.step = 4 ∨ p.step = 5 → (lane s p.lane).ex = some x →
    Leads .pairSequenceTimeout s (fun t => t.torch.pair = none ∧ t.now = max (p.since + 10000000000) s.now ∧ (lane t p.lane).ex = none))

/-- SYS_RESET (R137): its GZ_OK response is written and the reset falls due 1 ms later; at that instant the part is reset with cause COMMAND,
whatever stands in the response FTQs; on LANE3 the command is not permitted.
The model's choices it rests on: log 3. -/
def Obligations.SysResetResetsThePart : Prop :=
  (∀ (g : Goruz) (s : State), taken 0x0102 g s = true → gw g 1 = 0x52530001 →
    Leads (.sysReset g) s (fun t => t.start.resetDue = some (s.now + 1000000) ∧ t.now = s.now
      ∧ (lane t g.lane).resp = (lane s g.lane).resp ++ response .ok g.tag []))
  ∧ (∀ (d : Nat) (s : State), s.pending = [] → s.start.resetDue = some d → d ≤ s.now + 1 →
    ∃ t, step s = .next t ∧ IsReset 6 (elapse 1 s) t ∧ t.now = s.now + 1)
  ∧ (∀ (g : Goruz) (s : State), g.lane.val = 3 → laneTakes g s = true →
    exec (.sysReset g) s = .next (answered g .notPermitted [] s))

/-- The pending bitmap (R556): LINK_STORE_PEND[i] reads the pending bits of handles 32 × i to 32 × i + 31 as they stand, with no berth asked
for and no time passed; on an L variant those from 1,024 on read 0; a write changes nothing. -/
def Obligations.ThePendingBitmapIsRead : Prop :=
  (∀ (i : Fin 4096) (s : State), s.start.testHeld = false → pcieUsed s = true → getB F.netPcieStatus_link_up 0 s = true →
    domOn s 1 = true →
    domPresent s 17 = true → domOn s 17 = true → gradeL s = false →
    Leads (.rcRegisterRead (0x410000 + 4 * i.val)) s (fun t =>
      t = { s with outs := (.readData (0x410000 + 4 * i.val)
        ((List.range 32).map (fun j => if pendBit s (32 * i.val + j) then 2 ^ j else 0)).sum :: s.outs) }))
  ∧ (∀ (i : Fin 4096) (s : State), s.start.testHeld = false → pcieUsed s = true → getB F.netPcieStatus_link_up 0 s = true →
    domOn s 1 = true →
    domPresent s 17 = true → domOn s 17 = true → gradeL s = true → 1024 ≤ i.val →
    Leads (.rcRegisterRead (0x410000 + 4 * i.val)) s (fun t => t = { s with outs := .readData (0x410000 + 4 * i.val) 0 :: s.outs }))
  ∧ (∀ (i : Fin 4096) (w : Word) (s : State), s.start.testHeld = false → pcieUsed s = true → getB F.netPcieStatus_link_up 0 s = true →
    domOn s 1 = true → domOn s 17 = true → Leads (.registerWrite (0x410000 + 4 * i.val) w 15) s (fun t => t = s))
end

