-- ==== Sys2Proof/Laws/State.lean ====
section
/-! SUPPORT. What each named operation leaves as it was, one lemma per operation and field. -/

namespace Sys2Proof.Machine
open Sys2Proof

/-! setF. -/
@[simp] theorem setF_pending (f : Field) (i v : Nat) (s : State) : (setF f i v s).pending = s.pending := rfl
@[simp] theorem setF_fuse (f : Field) (i v : Nat) (s : State) : (setF f i v s).fuse = s.fuse := rfl
@[simp] theorem setF_now (f : Field) (i v : Nat) (s : State) : (setF f i v s).now = s.now := rfl
@[simp] theorem setF_freeCtr (f : Field) (i v : Nat) (s : State) : (setF f i v s).freeCtr = s.freeCtr := rfl
@[simp] theorem setF_outs (f : Field) (i v : Nat) (s : State) : (setF f i v s).outs = s.outs := rfl
@[simp] theorem setF_evq (f : Field) (i v : Nat) (s : State) : (setF f i v s).evq = s.evq := rfl
@[simp] theorem setF_lanes (f : Field) (i v : Nat) (s : State) : (setF f i v s).lanes = s.lanes := rfl
@[simp] theorem setF_lastLane (f : Field) (i v : Nat) (s : State) : (setF f i v s).lastLane = s.lastLane := rfl
@[simp] theorem setF_pwr (f : Field) (i v : Nat) (s : State) : (setF f i v s).pwr = s.pwr := rfl
@[simp] theorem setF_start (f : Field) (i v : Nat) (s : State) : (setF f i v s).start = s.start := rfl
@[simp] theorem setF_cfg (f : Field) (i v : Nat) (s : State) : (setF f i v s).cfg = s.cfg := rfl
@[simp] theorem setF_rf (f : Field) (i v : Nat) (s : State) : (setF f i v s).rf = s.rf := rfl
@[simp] theorem setF_em (f : Field) (i v : Nat) (s : State) : (setF f i v s).em = s.em := rfl
@[simp] theorem setF_awaiting (f : Field) (i v : Nat) (s : State) : (setF f i v s).awaiting = s.awaiting := rfl
@[simp] theorem setF_time (f : Field) (i v : Nat) (s : State) : (setF f i v s).time = s.time := rfl
@[simp] theorem setF_diag (f : Field) (i v : Nat) (s : State) : (setF f i v s).diag = s.diag := rfl
@[simp] theorem setF_net (f : Field) (i v : Nat) (s : State) : (setF f i v s).net = s.net := rfl
@[simp] theorem setF_lst (f : Field) (i v : Nat) (s : State) : (setF f i v s).lst = s.lst := rfl
@[simp] theorem setF_recs (f : Field) (i v : Nat) (s : State) : (setF f i v s).recs = s.recs := rfl
@[simp] theorem setF_nextRec (f : Field) (i v : Nat) (s : State) : (setF f i v s).nextRec = s.nextRec := rfl
@[simp] theorem setF_nbrs (f : Field) (i v : Nat) (s : State) : (setF f i v s).nbrs = s.nbrs := rfl
@[simp] theorem setF_persist (f : Field) (i v : Nat) (s : State) : (setF f i v s).persist = s.persist := rfl
@[simp] theorem setF_trf (f : Field) (i v : Nat) (s : State) : (setF f i v s).trf = s.trf := rfl
@[simp] theorem setF_fwd (f : Field) (i v : Nat) (s : State) : (setF f i v s).fwd = s.fwd := rfl
@[simp] theorem setF_slm (f : Field) (i v : Nat) (s : State) : (setF f i v s).slm = s.slm := rfl
@[simp] theorem setF_gt (f : Field) (i v : Nat) (s : State) : (setF f i v s).gt = s.gt := rfl
@[simp] theorem setF_keys (f : Field) (i v : Nat) (s : State) : (setF f i v s).keys = s.keys := rfl
@[simp] theorem setF_yow (f : Field) (i v : Nat) (s : State) : (setF f i v s).yow = s.yow := rfl
@[simp] theorem setF_torch (f : Field) (i v : Nat) (s : State) : (setF f i v s).torch = s.torch := rfl
@[simp] theorem setF_upd (f : Field) (i v : Nat) (s : State) : (setF f i v s).upd = s.upd := rfl
@[simp] theorem paramOpt_setF (f : Field) (i v : Nat) (id r : Nat) (s : State) : paramOpt (setF f i v s) id r = paramOpt s id r := by simp [paramOpt]
@[simp] theorem param_setF (f : Field) (i v : Nat) (id r : Nat) (s : State) : param (setF f i v s) id r = param s id r := by simp [param]
@[simp] theorem paramW_setF (f : Field) (i v : Nat) (id r k : Nat) (s : State) : paramW (setF f i v s) id r k = paramW s id r k := by simp [paramW]
@[simp] theorem paramF_setF (f : Field) (i v : Nat) (id r k hi lo : Nat) (s : State) : paramF (setF f i v s) id r k hi lo = paramF s id r k hi lo := by simp [paramF]
@[simp] theorem laneOf_setF (f : Field) (i v : Nat) (k : Nat) (s : State) : lane (setF f i v s) k = lane s k := by simp [lane]
@[simp] theorem rfOf_setF (f : Field) (i v : Nat) (k : Nat) (s : State) : rf (setF f i v s) k = rf s k := by simp [rf]
@[simp] theorem emOf_setF (f : Field) (i v : Nat) (k : Nat) (s : State) : em (setF f i v s) k = em s k := by simp [em]

/-! setB. -/
@[simp] theorem setB_pending (f : Field) (i : Nat) (b : Bool) (s : State) : (setB f i b s).pending = s.pending := rfl
@[simp] theorem setB_fuse (f : Field) (i : Nat) (b : Bool) (s : State) : (setB f i b s).fuse = s.fuse := rfl
@[simp] theorem setB_now (f : Field) (i : Nat) (b : Bool) (s : State) : (setB f i b s).now = s.now := rfl
@[simp] theorem setB_freeCtr (f : Field) (i : Nat) (b : Bool) (s : State) : (setB f i b s).freeCtr = s.freeCtr := rfl
@[simp] theorem setB_outs (f : Field) (i : Nat) (b : Bool) (s : State) : (setB f i b s).outs = s.outs := rfl
@[simp] theorem setB_evq (f : Field) (i : Nat) (b : Bool) (s : State) : (setB f i b s).evq = s.evq := rfl
@[simp] theorem setB_lanes (f : Field) (i : Nat) (b : Bool) (s : State) : (setB f i b s).lanes = s.lanes := rfl
@[simp] theorem setB_lastLane (f : Field) (i : Nat) (b : Bool) (s : State) : (setB f i b s).lastLane = s.lastLane := rfl
@[simp] theorem setB_pwr (f : Field) (i : Nat) (b : Bool) (s : State) : (setB f i b s).pwr = s.pwr := rfl
@[simp] theorem setB_start (f : Field) (i : Nat) (b : Bool) (s : State) : (setB f i b s).start = s.start := rfl
@[simp] theorem setB_cfg (f : Field) (i : Nat) (b : Bool) (s : State) : (setB f i b s).cfg = s.cfg := rfl
@[simp] theorem setB_rf (f : Field) (i : Nat) (b : Bool) (s : State) : (setB f i b s).rf = s.rf := rfl
@[simp] theorem setB_em (f : Field) (i : Nat) (b : Bool) (s : State) : (setB f i b s).em = s.em := rfl
@[simp] theorem setB_awaiting (f : Field) (i : Nat) (b : Bool) (s : State) : (setB f i b s).awaiting = s.awaiting := rfl
@[simp] theorem setB_time (f : Field) (i : Nat) (b : Bool) (s : State) : (setB f i b s).time = s.time := rfl
@[simp] theorem setB_diag (f : Field) (i : Nat) (b : Bool) (s : State) : (setB f i b s).diag = s.diag := rfl
@[simp] theorem setB_net (f : Field) (i : Nat) (b : Bool) (s : State) : (setB f i b s).net = s.net := rfl
@[simp] theorem setB_lst (f : Field) (i : Nat) (b : Bool) (s : State) : (setB f i b s).lst = s.lst := rfl
@[simp] theorem setB_recs (f : Field) (i : Nat) (b : Bool) (s : State) : (setB f i b s).recs = s.recs := rfl
@[simp] theorem setB_nextRec (f : Field) (i : Nat) (b : Bool) (s : State) : (setB f i b s).nextRec = s.nextRec := rfl
@[simp] theorem setB_nbrs (f : Field) (i : Nat) (b : Bool) (s : State) : (setB f i b s).nbrs = s.nbrs := rfl
@[simp] theorem setB_persist (f : Field) (i : Nat) (b : Bool) (s : State) : (setB f i b s).persist = s.persist := rfl
@[simp] theorem setB_trf (f : Field) (i : Nat) (b : Bool) (s : State) : (setB f i b s).trf = s.trf := rfl
@[simp] theorem setB_fwd (f : Field) (i : Nat) (b : Bool) (s : State) : (setB f i b s).fwd = s.fwd := rfl
@[simp] theorem setB_slm (f : Field) (i : Nat) (b : Bool) (s : State) : (setB f i b s).slm = s.slm := rfl
@[simp] theorem setB_gt (f : Field) (i : Nat) (b : Bool) (s : State) : (setB f i b s).gt = s.gt := rfl
@[simp] theorem setB_keys (f : Field) (i : Nat) (b : Bool) (s : State) : (setB f i b s).keys = s.keys := rfl
@[simp] theorem setB_yow (f : Field) (i : Nat) (b : Bool) (s : State) : (setB f i b s).yow = s.yow := rfl
@[simp] theorem setB_torch (f : Field) (i : Nat) (b : Bool) (s : State) : (setB f i b s).torch = s.torch := rfl
@[simp] theorem setB_upd (f : Field) (i : Nat) (b : Bool) (s : State) : (setB f i b s).upd = s.upd := rfl
@[simp] theorem paramOpt_setB (f : Field) (i : Nat) (b : Bool) (id r : Nat) (s : State) : paramOpt (setB f i b s) id r = paramOpt s id r := by simp [paramOpt]
@[simp] theorem param_setB (f : Field) (i : Nat) (b : Bool) (id r : Nat) (s : State) : param (setB f i b s) id r = param s id r := by simp [param]
@[simp] theorem paramW_setB (f : Field) (i : Nat) (b : Bool) (id r k : Nat) (s : State) : paramW (setB f i b s) id r k = paramW s id r k := by simp [paramW]
@[simp] theorem paramF_setB (f : Field) (i : Nat) (b : Bool) (id r k hi lo : Nat) (s : State) : paramF (setB f i b s) id r k hi lo = paramF s id r k hi lo := by simp [paramF]
@[simp] theorem laneOf_setB (f : Field) (i : Nat) (b : Bool) (k : Nat) (s : State) : lane (setB f i b s) k = lane s k := by simp [lane]
@[simp] theorem rfOf_setB (f : Field) (i : Nat) (b : Bool) (k : Nat) (s : State) : rf (setB f i b s) k = rf s k := by simp [rf]
@[simp] theorem emOf_setB (f : Field) (i : Nat) (b : Bool) (k : Nat) (s : State) : em (setB f i b s) k = em s k := by simp [em]

/-! setI. -/
@[simp] theorem setI_pending (f : Field) (i : Nat) (v : Int) (s : State) : (setI f i v s).pending = s.pending := rfl
@[simp] theorem setI_fuse (f : Field) (i : Nat) (v : Int) (s : State) : (setI f i v s).fuse = s.fuse := rfl
@[simp] theorem setI_now (f : Field) (i : Nat) (v : Int) (s : State) : (setI f i v s).now = s.now := rfl
@[simp] theorem setI_freeCtr (f : Field) (i : Nat) (v : Int) (s : State) : (setI f i v s).freeCtr = s.freeCtr := rfl
@[simp] theorem setI_outs (f : Field) (i : Nat) (v : Int) (s : State) : (setI f i v s).outs = s.outs := rfl
@[simp] theorem setI_evq (f : Field) (i : Nat) (v : Int) (s : State) : (setI f i v s).evq = s.evq := rfl
@[simp] theorem setI_lanes (f : Field) (i : Nat) (v : Int) (s : State) : (setI f i v s).lanes = s.lanes := rfl
@[simp] theorem setI_lastLane (f : Field) (i : Nat) (v : Int) (s : State) : (setI f i v s).lastLane = s.lastLane := rfl
@[simp] theorem setI_pwr (f : Field) (i : Nat) (v : Int) (s : State) : (setI f i v s).pwr = s.pwr := rfl
@[simp] theorem setI_start (f : Field) (i : Nat) (v : Int) (s : State) : (setI f i v s).start = s.start := rfl
@[simp] theorem setI_cfg (f : Field) (i : Nat) (v : Int) (s : State) : (setI f i v s).cfg = s.cfg := rfl
@[simp] theorem setI_rf (f : Field) (i : Nat) (v : Int) (s : State) : (setI f i v s).rf = s.rf := rfl
@[simp] theorem setI_em (f : Field) (i : Nat) (v : Int) (s : State) : (setI f i v s).em = s.em := rfl
@[simp] theorem setI_awaiting (f : Field) (i : Nat) (v : Int) (s : State) : (setI f i v s).awaiting = s.awaiting := rfl
@[simp] theorem setI_time (f : Field) (i : Nat) (v : Int) (s : State) : (setI f i v s).time = s.time := rfl
@[simp] theorem setI_diag (f : Field) (i : Nat) (v : Int) (s : State) : (setI f i v s).diag = s.diag := rfl
@[simp] theorem setI_net (f : Field) (i : Nat) (v : Int) (s : State) : (setI f i v s).net = s.net := rfl
@[simp] theorem setI_lst (f : Field) (i : Nat) (v : Int) (s : State) : (setI f i v s).lst = s.lst := rfl
@[simp] theorem setI_recs (f : Field) (i : Nat) (v : Int) (s : State) : (setI f i v s).recs = s.recs := rfl
@[simp] theorem setI_nextRec (f : Field) (i : Nat) (v : Int) (s : State) : (setI f i v s).nextRec = s.nextRec := rfl
@[simp] theorem setI_nbrs (f : Field) (i : Nat) (v : Int) (s : State) : (setI f i v s).nbrs = s.nbrs := rfl
@[simp] theorem setI_persist (f : Field) (i : Nat) (v : Int) (s : State) : (setI f i v s).persist = s.persist := rfl
@[simp] theorem setI_trf (f : Field) (i : Nat) (v : Int) (s : State) : (setI f i v s).trf = s.trf := rfl
@[simp] theorem setI_fwd (f : Field) (i : Nat) (v : Int) (s : State) : (setI f i v s).fwd = s.fwd := rfl
@[simp] theorem setI_slm (f : Field) (i : Nat) (v : Int) (s : State) : (setI f i v s).slm = s.slm := rfl
@[simp] theorem setI_gt (f : Field) (i : Nat) (v : Int) (s : State) : (setI f i v s).gt = s.gt := rfl
@[simp] theorem setI_keys (f : Field) (i : Nat) (v : Int) (s : State) : (setI f i v s).keys = s.keys := rfl
@[simp] theorem setI_yow (f : Field) (i : Nat) (v : Int) (s : State) : (setI f i v s).yow = s.yow := rfl
@[simp] theorem setI_torch (f : Field) (i : Nat) (v : Int) (s : State) : (setI f i v s).torch = s.torch := rfl
@[simp] theorem setI_upd (f : Field) (i : Nat) (v : Int) (s : State) : (setI f i v s).upd = s.upd := rfl
@[simp] theorem paramOpt_setI (f : Field) (i : Nat) (v : Int) (id r : Nat) (s : State) : paramOpt (setI f i v s) id r = paramOpt s id r := by simp [paramOpt]
@[simp] theorem param_setI (f : Field) (i : Nat) (v : Int) (id r : Nat) (s : State) : param (setI f i v s) id r = param s id r := by simp [param]
@[simp] theorem paramW_setI (f : Field) (i : Nat) (v : Int) (id r k : Nat) (s : State) : paramW (setI f i v s) id r k = paramW s id r k := by simp [paramW]
@[simp] theorem paramF_setI (f : Field) (i : Nat) (v : Int) (id r k hi lo : Nat) (s : State) : paramF (setI f i v s) id r k hi lo = paramF s id r k hi lo := by simp [paramF]
@[simp] theorem laneOf_setI (f : Field) (i : Nat) (v : Int) (k : Nat) (s : State) : lane (setI f i v s) k = lane s k := by simp [lane]
@[simp] theorem rfOf_setI (f : Field) (i : Nat) (v : Int) (k : Nat) (s : State) : rf (setI f i v s) k = rf s k := by simp [rf]
@[simp] theorem emOf_setI (f : Field) (i : Nat) (v : Int) (k : Nat) (s : State) : em (setI f i v s) k = em s k := by simp [em]

/-! lifeAdd. -/
@[simp] theorem lifeAdd_pending (a1 a2 : Nat) (s : State) : (lifeAdd a1 a2 s).pending = s.pending := rfl
@[simp] theorem lifeAdd_fuse (a1 a2 : Nat) (s : State) : (lifeAdd a1 a2 s).fuse = s.fuse := rfl
@[simp] theorem lifeAdd_now (a1 a2 : Nat) (s : State) : (lifeAdd a1 a2 s).now = s.now := rfl
@[simp] theorem lifeAdd_freeCtr (a1 a2 : Nat) (s : State) : (lifeAdd a1 a2 s).freeCtr = s.freeCtr := rfl
@[simp] theorem lifeAdd_outs (a1 a2 : Nat) (s : State) : (lifeAdd a1 a2 s).outs = s.outs := rfl
@[simp] theorem lifeAdd_regs (a1 a2 : Nat) (s : State) : (lifeAdd a1 a2 s).regs = s.regs := rfl
@[simp] theorem lifeAdd_evq (a1 a2 : Nat) (s : State) : (lifeAdd a1 a2 s).evq = s.evq := rfl
@[simp] theorem lifeAdd_lanes (a1 a2 : Nat) (s : State) : (lifeAdd a1 a2 s).lanes = s.lanes := rfl
@[simp] theorem lifeAdd_lastLane (a1 a2 : Nat) (s : State) : (lifeAdd a1 a2 s).lastLane = s.lastLane := rfl
@[simp] theorem lifeAdd_pwr (a1 a2 : Nat) (s : State) : (lifeAdd a1 a2 s).pwr = s.pwr := rfl
@[simp] theorem lifeAdd_start (a1 a2 : Nat) (s : State) : (lifeAdd a1 a2 s).start = s.start := rfl
@[simp] theorem lifeAdd_cfg (a1 a2 : Nat) (s : State) : (lifeAdd a1 a2 s).cfg = s.cfg := rfl
@[simp] theorem lifeAdd_rf (a1 a2 : Nat) (s : State) : (lifeAdd a1 a2 s).rf = s.rf := rfl
@[simp] theorem lifeAdd_em (a1 a2 : Nat) (s : State) : (lifeAdd a1 a2 s).em = s.em := rfl
@[simp] theorem lifeAdd_awaiting (a1 a2 : Nat) (s : State) : (lifeAdd a1 a2 s).awaiting = s.awaiting := rfl
@[simp] theorem lifeAdd_time (a1 a2 : Nat) (s : State) : (lifeAdd a1 a2 s).time = s.time := rfl
@[simp] theorem lifeAdd_net (a1 a2 : Nat) (s : State) : (lifeAdd a1 a2 s).net = s.net := rfl
@[simp] theorem lifeAdd_lst (a1 a2 : Nat) (s : State) : (lifeAdd a1 a2 s).lst = s.lst := rfl
@[simp] theorem lifeAdd_recs (a1 a2 : Nat) (s : State) : (lifeAdd a1 a2 s).recs = s.recs := rfl
@[simp] theorem lifeAdd_nextRec (a1 a2 : Nat) (s : State) : (lifeAdd a1 a2 s).nextRec = s.nextRec := rfl
@[simp] theorem lifeAdd_nbrs (a1 a2 : Nat) (s : State) : (lifeAdd a1 a2 s).nbrs = s.nbrs := rfl
@[simp] theorem lifeAdd_persist (a1 a2 : Nat) (s : State) : (lifeAdd a1 a2 s).persist = s.persist := rfl
@[simp] theorem lifeAdd_trf (a1 a2 : Nat) (s : State) : (lifeAdd a1 a2 s).trf = s.trf := rfl
@[simp] theorem lifeAdd_fwd (a1 a2 : Nat) (s : State) : (lifeAdd a1 a2 s).fwd = s.fwd := rfl
@[simp] theorem lifeAdd_slm (a1 a2 : Nat) (s : State) : (lifeAdd a1 a2 s).slm = s.slm := rfl
@[simp] theorem lifeAdd_gt (a1 a2 : Nat) (s : State) : (lifeAdd a1 a2 s).gt = s.gt := rfl
@[simp] theorem lifeAdd_keys (a1 a2 : Nat) (s : State) : (lifeAdd a1 a2 s).keys = s.keys := rfl
@[simp] theorem lifeAdd_yow (a1 a2 : Nat) (s : State) : (lifeAdd a1 a2 s).yow = s.yow := rfl
@[simp] theorem lifeAdd_torch (a1 a2 : Nat) (s : State) : (lifeAdd a1 a2 s).torch = s.torch := rfl
@[simp] theorem lifeAdd_upd (a1 a2 : Nat) (s : State) : (lifeAdd a1 a2 s).upd = s.upd := rfl
@[simp] theorem getF_lifeAdd (a1 a2 : Nat) (g : Field) (j : Nat) (s : State) : getF g j (lifeAdd a1 a2 s) = getF g j s := by simp [getF]
@[simp] theorem getB_lifeAdd (a1 a2 : Nat) (g : Field) (j : Nat) (s : State) : getB g j (lifeAdd a1 a2 s) = getB g j s := by simp [getB]
@[simp] theorem getI_lifeAdd (a1 a2 : Nat) (g : Field) (j : Nat) (s : State) : getI g j (lifeAdd a1 a2 s) = getI g j s := by simp [getI]
@[simp] theorem paramOpt_lifeAdd (a1 a2 : Nat) (id r : Nat) (s : State) : paramOpt (lifeAdd a1 a2 s) id r = paramOpt s id r := by simp [paramOpt]
@[simp] theorem param_lifeAdd (a1 a2 : Nat) (id r : Nat) (s : State) : param (lifeAdd a1 a2 s) id r = param s id r := by simp [param]
@[simp] theorem paramW_lifeAdd (a1 a2 : Nat) (id r k : Nat) (s : State) : paramW (lifeAdd a1 a2 s) id r k = paramW s id r k := by simp [paramW]
@[simp] theorem paramF_lifeAdd (a1 a2 : Nat) (id r k hi lo : Nat) (s : State) : paramF (lifeAdd a1 a2 s) id r k hi lo = paramF s id r k hi lo := by simp [paramF]
@[simp] theorem laneOf_lifeAdd (a1 a2 : Nat) (k : Nat) (s : State) : lane (lifeAdd a1 a2 s) k = lane s k := by simp [lane]
@[simp] theorem rfOf_lifeAdd (a1 a2 : Nat) (k : Nat) (s : State) : rf (lifeAdd a1 a2 s) k = rf s k := by simp [rf]
@[simp] theorem emOf_lifeAdd (a1 a2 : Nat) (k : Nat) (s : State) : em (lifeAdd a1 a2 s) k = em s k := by simp [em]

/-! histAdd. -/
@[simp] theorem histAdd_pending (a1 a2 a3 : Nat) (s : State) : (histAdd a1 a2 a3 s).pending = s.pending := rfl
@[simp] theorem histAdd_fuse (a1 a2 a3 : Nat) (s : State) : (histAdd a1 a2 a3 s).fuse = s.fuse := rfl
@[simp] theorem histAdd_now (a1 a2 a3 : Nat) (s : State) : (histAdd a1 a2 a3 s).now = s.now := rfl
@[simp] theorem histAdd_freeCtr (a1 a2 a3 : Nat) (s : State) : (histAdd a1 a2 a3 s).freeCtr = s.freeCtr := rfl
@[simp] theorem histAdd_outs (a1 a2 a3 : Nat) (s : State) : (histAdd a1 a2 a3 s).outs = s.outs := rfl
@[simp] theorem histAdd_regs (a1 a2 a3 : Nat) (s : State) : (histAdd a1 a2 a3 s).regs = s.regs := rfl
@[simp] theorem histAdd_evq (a1 a2 a3 : Nat) (s : State) : (histAdd a1 a2 a3 s).evq = s.evq := rfl
@[simp] theorem histAdd_lanes (a1 a2 a3 : Nat) (s : State) : (histAdd a1 a2 a3 s).lanes = s.lanes := rfl
@[simp] theorem histAdd_lastLane (a1 a2 a3 : Nat) (s : State) : (histAdd a1 a2 a3 s).lastLane = s.lastLane := rfl
@[simp] theorem histAdd_pwr (a1 a2 a3 : Nat) (s : State) : (histAdd a1 a2 a3 s).pwr = s.pwr := rfl
@[simp] theorem histAdd_start (a1 a2 a3 : Nat) (s : State) : (histAdd a1 a2 a3 s).start = s.start := rfl
@[simp] theorem histAdd_cfg (a1 a2 a3 : Nat) (s : State) : (histAdd a1 a2 a3 s).cfg = s.cfg := rfl
@[simp] theorem histAdd_rf (a1 a2 a3 : Nat) (s : State) : (histAdd a1 a2 a3 s).rf = s.rf := rfl
@[simp] theorem histAdd_em (a1 a2 a3 : Nat) (s : State) : (histAdd a1 a2 a3 s).em = s.em := rfl
@[simp] theorem histAdd_awaiting (a1 a2 a3 : Nat) (s : State) : (histAdd a1 a2 a3 s).awaiting = s.awaiting := rfl
@[simp] theorem histAdd_time (a1 a2 a3 : Nat) (s : State) : (histAdd a1 a2 a3 s).time = s.time := rfl
@[simp] theorem histAdd_net (a1 a2 a3 : Nat) (s : State) : (histAdd a1 a2 a3 s).net = s.net := rfl
@[simp] theorem histAdd_lst (a1 a2 a3 : Nat) (s : State) : (histAdd a1 a2 a3 s).lst = s.lst := rfl
@[simp] theorem histAdd_recs (a1 a2 a3 : Nat) (s : State) : (histAdd a1 a2 a3 s).recs = s.recs := rfl
@[simp] theorem histAdd_nextRec (a1 a2 a3 : Nat) (s : State) : (histAdd a1 a2 a3 s).nextRec = s.nextRec := rfl
@[simp] theorem histAdd_nbrs (a1 a2 a3 : Nat) (s : State) : (histAdd a1 a2 a3 s).nbrs = s.nbrs := rfl
@[simp] theorem histAdd_persist (a1 a2 a3 : Nat) (s : State) : (histAdd a1 a2 a3 s).persist = s.persist := rfl
@[simp] theorem histAdd_trf (a1 a2 a3 : Nat) (s : State) : (histAdd a1 a2 a3 s).trf = s.trf := rfl
@[simp] theorem histAdd_fwd (a1 a2 a3 : Nat) (s : State) : (histAdd a1 a2 a3 s).fwd = s.fwd := rfl
@[simp] theorem histAdd_slm (a1 a2 a3 : Nat) (s : State) : (histAdd a1 a2 a3 s).slm = s.slm := rfl
@[simp] theorem histAdd_gt (a1 a2 a3 : Nat) (s : State) : (histAdd a1 a2 a3 s).gt = s.gt := rfl
@[simp] theorem histAdd_keys (a1 a2 a3 : Nat) (s : State) : (histAdd a1 a2 a3 s).keys = s.keys := rfl
@[simp] theorem histAdd_yow (a1 a2 a3 : Nat) (s : State) : (histAdd a1 a2 a3 s).yow = s.yow := rfl
@[simp] theorem histAdd_torch (a1 a2 a3 : Nat) (s : State) : (histAdd a1 a2 a3 s).torch = s.torch := rfl
@[simp] theorem histAdd_upd (a1 a2 a3 : Nat) (s : State) : (histAdd a1 a2 a3 s).upd = s.upd := rfl
@[simp] theorem getF_histAdd (a1 a2 a3 : Nat) (g : Field) (j : Nat) (s : State) : getF g j (histAdd a1 a2 a3 s) = getF g j s := by simp [getF]
@[simp] theorem getB_histAdd (a1 a2 a3 : Nat) (g : Field) (j : Nat) (s : State) : getB g j (histAdd a1 a2 a3 s) = getB g j s := by simp [getB]
@[simp] theorem getI_histAdd (a1 a2 a3 : Nat) (g : Field) (j : Nat) (s : State) : getI g j (histAdd a1 a2 a3 s) = getI g j s := by simp [getI]
@[simp] theorem paramOpt_histAdd (a1 a2 a3 : Nat) (id r : Nat) (s : State) : paramOpt (histAdd a1 a2 a3 s) id r = paramOpt s id r := by simp [paramOpt]
@[simp] theorem param_histAdd (a1 a2 a3 : Nat) (id r : Nat) (s : State) : param (histAdd a1 a2 a3 s) id r = param s id r := by simp [param]
@[simp] theorem paramW_histAdd (a1 a2 a3 : Nat) (id r k : Nat) (s : State) : paramW (histAdd a1 a2 a3 s) id r k = paramW s id r k := by simp [paramW]
@[simp] theorem paramF_histAdd (a1 a2 a3 : Nat) (id r k hi lo : Nat) (s : State) : paramF (histAdd a1 a2 a3 s) id r k hi lo = paramF s id r k hi lo := by simp [paramF]
@[simp] theorem laneOf_histAdd (a1 a2 a3 : Nat) (k : Nat) (s : State) : lane (histAdd a1 a2 a3 s) k = lane s k := by simp [lane]
@[simp] theorem rfOf_histAdd (a1 a2 a3 : Nat) (k : Nat) (s : State) : rf (histAdd a1 a2 a3 s) k = rf s k := by simp [rf]
@[simp] theorem emOf_histAdd (a1 a2 a3 : Nat) (k : Nat) (s : State) : em (histAdd a1 a2 a3 s) k = em s k := by simp [em]

/-! classAdd. -/
@[simp] theorem classAdd_pending (a1 a2 : Nat) (s : State) : (classAdd a1 a2 s).pending = s.pending := rfl
@[simp] theorem classAdd_fuse (a1 a2 : Nat) (s : State) : (classAdd a1 a2 s).fuse = s.fuse := rfl
@[simp] theorem classAdd_now (a1 a2 : Nat) (s : State) : (classAdd a1 a2 s).now = s.now := rfl
@[simp] theorem classAdd_freeCtr (a1 a2 : Nat) (s : State) : (classAdd a1 a2 s).freeCtr = s.freeCtr := rfl
@[simp] theorem classAdd_outs (a1 a2 : Nat) (s : State) : (classAdd a1 a2 s).outs = s.outs := rfl
@[simp] theorem classAdd_regs (a1 a2 : Nat) (s : State) : (classAdd a1 a2 s).regs = s.regs := rfl
@[simp] theorem classAdd_evq (a1 a2 : Nat) (s : State) : (classAdd a1 a2 s).evq = s.evq := rfl
@[simp] theorem classAdd_lanes (a1 a2 : Nat) (s : State) : (classAdd a1 a2 s).lanes = s.lanes := rfl
@[simp] theorem classAdd_lastLane (a1 a2 : Nat) (s : State) : (classAdd a1 a2 s).lastLane = s.lastLane := rfl
@[simp] theorem classAdd_pwr (a1 a2 : Nat) (s : State) : (classAdd a1 a2 s).pwr = s.pwr := rfl
@[simp] theorem classAdd_start (a1 a2 : Nat) (s : State) : (classAdd a1 a2 s).start = s.start := rfl
@[simp] theorem classAdd_cfg (a1 a2 : Nat) (s : State) : (classAdd a1 a2 s).cfg = s.cfg := rfl
@[simp] theorem classAdd_rf (a1 a2 : Nat) (s : State) : (classAdd a1 a2 s).rf = s.rf := rfl
@[simp] theorem classAdd_em (a1 a2 : Nat) (s : State) : (classAdd a1 a2 s).em = s.em := rfl
@[simp] theorem classAdd_awaiting (a1 a2 : Nat) (s : State) : (classAdd a1 a2 s).awaiting = s.awaiting := rfl
@[simp] theorem classAdd_time (a1 a2 : Nat) (s : State) : (classAdd a1 a2 s).time = s.time := rfl
@[simp] theorem classAdd_net (a1 a2 : Nat) (s : State) : (classAdd a1 a2 s).net = s.net := rfl
@[simp] theorem classAdd_lst (a1 a2 : Nat) (s : State) : (classAdd a1 a2 s).lst = s.lst := rfl
@[simp] theorem classAdd_recs (a1 a2 : Nat) (s : State) : (classAdd a1 a2 s).recs = s.recs := rfl
@[simp] theorem classAdd_nextRec (a1 a2 : Nat) (s : State) : (classAdd a1 a2 s).nextRec = s.nextRec := rfl
@[simp] theorem classAdd_nbrs (a1 a2 : Nat) (s : State) : (classAdd a1 a2 s).nbrs = s.nbrs := rfl
@[simp] theorem classAdd_persist (a1 a2 : Nat) (s : State) : (classAdd a1 a2 s).persist = s.persist := rfl
@[simp] theorem classAdd_trf (a1 a2 : Nat) (s : State) : (classAdd a1 a2 s).trf = s.trf := rfl
@[simp] theorem classAdd_fwd (a1 a2 : Nat) (s : State) : (classAdd a1 a2 s).fwd = s.fwd := rfl
@[simp] theorem classAdd_slm (a1 a2 : Nat) (s : State) : (classAdd a1 a2 s).slm = s.slm := rfl
@[simp] theorem classAdd_gt (a1 a2 : Nat) (s : State) : (classAdd a1 a2 s).gt = s.gt := rfl
@[simp] theorem classAdd_keys (a1 a2 : Nat) (s : State) : (classAdd a1 a2 s).keys = s.keys := rfl
@[simp] theorem classAdd_yow (a1 a2 : Nat) (s : State) : (classAdd a1 a2 s).yow = s.yow := rfl
@[simp] theorem classAdd_torch (a1 a2 : Nat) (s : State) : (classAdd a1 a2 s).torch = s.torch := rfl
@[simp] theorem classAdd_upd (a1 a2 : Nat) (s : State) : (classAdd a1 a2 s).upd = s.upd := rfl
@[simp] theorem getF_classAdd (a1 a2 : Nat) (g : Field) (j : Nat) (s : State) : getF g j (classAdd a1 a2 s) = getF g j s := by simp [getF]
@[simp] theorem getB_classAdd (a1 a2 : Nat) (g : Field) (j : Nat) (s : State) : getB g j (classAdd a1 a2 s) = getB g j s := by simp [getB]
@[simp] theorem getI_classAdd (a1 a2 : Nat) (g : Field) (j : Nat) (s : State) : getI g j (classAdd a1 a2 s) = getI g j s := by simp [getI]
@[simp] theorem paramOpt_classAdd (a1 a2 : Nat) (id r : Nat) (s : State) : paramOpt (classAdd a1 a2 s) id r = paramOpt s id r := by simp [paramOpt]
@[simp] theorem param_classAdd (a1 a2 : Nat) (id r : Nat) (s : State) : param (classAdd a1 a2 s) id r = param s id r := by simp [param]
@[simp] theorem paramW_classAdd (a1 a2 : Nat) (id r k : Nat) (s : State) : paramW (classAdd a1 a2 s) id r k = paramW s id r k := by simp [paramW]
@[simp] theorem paramF_classAdd (a1 a2 : Nat) (id r k hi lo : Nat) (s : State) : paramF (classAdd a1 a2 s) id r k hi lo = paramF s id r k hi lo := by simp [paramF]
@[simp] theorem laneOf_classAdd (a1 a2 : Nat) (k : Nat) (s : State) : lane (classAdd a1 a2 s) k = lane s k := by simp [lane]
@[simp] theorem rfOf_classAdd (a1 a2 : Nat) (k : Nat) (s : State) : rf (classAdd a1 a2 s) k = rf s k := by simp [rf]
@[simp] theorem emOf_classAdd (a1 a2 : Nat) (k : Nat) (s : State) : em (classAdd a1 a2 s) k = em s k := by simp [em]

/-! journal. -/
@[simp] theorem journal_pending (ty c : Nat) (s : State) : (journal ty c s).pending = s.pending := rfl
@[simp] theorem journal_fuse (ty c : Nat) (s : State) : (journal ty c s).fuse = s.fuse := rfl
@[simp] theorem journal_now (ty c : Nat) (s : State) : (journal ty c s).now = s.now := rfl
@[simp] theorem journal_freeCtr (ty c : Nat) (s : State) : (journal ty c s).freeCtr = s.freeCtr := rfl
@[simp] theorem journal_outs (ty c : Nat) (s : State) : (journal ty c s).outs = s.outs := rfl
@[simp] theorem journal_regs (ty c : Nat) (s : State) : (journal ty c s).regs = s.regs := rfl
@[simp] theorem journal_evq (ty c : Nat) (s : State) : (journal ty c s).evq = s.evq := rfl
@[simp] theorem journal_lanes (ty c : Nat) (s : State) : (journal ty c s).lanes = s.lanes := rfl
@[simp] theorem journal_lastLane (ty c : Nat) (s : State) : (journal ty c s).lastLane = s.lastLane := rfl
@[simp] theorem journal_pwr (ty c : Nat) (s : State) : (journal ty c s).pwr = s.pwr := rfl
@[simp] theorem journal_start (ty c : Nat) (s : State) : (journal ty c s).start = s.start := rfl
@[simp] theorem journal_cfg (ty c : Nat) (s : State) : (journal ty c s).cfg = s.cfg := rfl
@[simp] theorem journal_rf (ty c : Nat) (s : State) : (journal ty c s).rf = s.rf := rfl
@[simp] theorem journal_em (ty c : Nat) (s : State) : (journal ty c s).em = s.em := rfl
@[simp] theorem journal_awaiting (ty c : Nat) (s : State) : (journal ty c s).awaiting = s.awaiting := rfl
@[simp] theorem journal_time (ty c : Nat) (s : State) : (journal ty c s).time = s.time := rfl
@[simp] theorem journal_net (ty c : Nat) (s : State) : (journal ty c s).net = s.net := rfl
@[simp] theorem journal_lst (ty c : Nat) (s : State) : (journal ty c s).lst = s.lst := rfl
@[simp] theorem journal_recs (ty c : Nat) (s : State) : (journal ty c s).recs = s.recs := rfl
@[simp] theorem journal_nextRec (ty c : Nat) (s : State) : (journal ty c s).nextRec = s.nextRec := rfl
@[simp] theorem journal_nbrs (ty c : Nat) (s : State) : (journal ty c s).nbrs = s.nbrs := rfl
@[simp] theorem journal_persist (ty c : Nat) (s : State) : (journal ty c s).persist = s.persist := rfl
@[simp] theorem journal_trf (ty c : Nat) (s : State) : (journal ty c s).trf = s.trf := rfl
@[simp] theorem journal_fwd (ty c : Nat) (s : State) : (journal ty c s).fwd = s.fwd := rfl
@[simp] theorem journal_slm (ty c : Nat) (s : State) : (journal ty c s).slm = s.slm := rfl
@[simp] theorem journal_gt (ty c : Nat) (s : State) : (journal ty c s).gt = s.gt := rfl
@[simp] theorem journal_keys (ty c : Nat) (s : State) : (journal ty c s).keys = s.keys := rfl
@[simp] theorem journal_yow (ty c : Nat) (s : State) : (journal ty c s).yow = s.yow := rfl
@[simp] theorem journal_torch (ty c : Nat) (s : State) : (journal ty c s).torch = s.torch := rfl
@[simp] theorem journal_upd (ty c : Nat) (s : State) : (journal ty c s).upd = s.upd := rfl
@[simp] theorem getF_journal (ty c : Nat) (g : Field) (j : Nat) (s : State) : getF g j (journal ty c s) = getF g j s := by simp [getF]
@[simp] theorem getB_journal (ty c : Nat) (g : Field) (j : Nat) (s : State) : getB g j (journal ty c s) = getB g j s := by simp [getB]
@[simp] theorem getI_journal (ty c : Nat) (g : Field) (j : Nat) (s : State) : getI g j (journal ty c s) = getI g j s := by simp [getI]
@[simp] theorem paramOpt_journal (ty c : Nat) (id r : Nat) (s : State) : paramOpt (journal ty c s) id r = paramOpt s id r := by simp [paramOpt]
@[simp] theorem param_journal (ty c : Nat) (id r : Nat) (s : State) : param (journal ty c s) id r = param s id r := by simp [param]
@[simp] theorem paramW_journal (ty c : Nat) (id r k : Nat) (s : State) : paramW (journal ty c s) id r k = paramW s id r k := by simp [paramW]
@[simp] theorem paramF_journal (ty c : Nat) (id r k hi lo : Nat) (s : State) : paramF (journal ty c s) id r k hi lo = paramF s id r k hi lo := by simp [paramF]
@[simp] theorem laneOf_journal (ty c : Nat) (k : Nat) (s : State) : lane (journal ty c s) k = lane s k := by simp [lane]
@[simp] theorem rfOf_journal (ty c : Nat) (k : Nat) (s : State) : rf (journal ty c s) k = rf s k := by simp [rf]
@[simp] theorem emOf_journal (ty c : Nat) (k : Nat) (s : State) : em (journal ty c s) k = em s k := by simp [em]

/-! put. -/
@[simp] theorem put_pending (o : Out) (s : State) : (put o s).pending = s.pending := rfl
@[simp] theorem put_fuse (o : Out) (s : State) : (put o s).fuse = s.fuse := rfl
@[simp] theorem put_now (o : Out) (s : State) : (put o s).now = s.now := rfl
@[simp] theorem put_freeCtr (o : Out) (s : State) : (put o s).freeCtr = s.freeCtr := rfl
@[simp] theorem put_regs (o : Out) (s : State) : (put o s).regs = s.regs := rfl
@[simp] theorem put_evq (o : Out) (s : State) : (put o s).evq = s.evq := rfl
@[simp] theorem put_lanes (o : Out) (s : State) : (put o s).lanes = s.lanes := rfl
@[simp] theorem put_lastLane (o : Out) (s : State) : (put o s).lastLane = s.lastLane := rfl
@[simp] theorem put_pwr (o : Out) (s : State) : (put o s).pwr = s.pwr := rfl
@[simp] theorem put_start (o : Out) (s : State) : (put o s).start = s.start := rfl
@[simp] theorem put_cfg (o : Out) (s : State) : (put o s).cfg = s.cfg := rfl
@[simp] theorem put_rf (o : Out) (s : State) : (put o s).rf = s.rf := rfl
@[simp] theorem put_em (o : Out) (s : State) : (put o s).em = s.em := rfl
@[simp] theorem put_awaiting (o : Out) (s : State) : (put o s).awaiting = s.awaiting := rfl
@[simp] theorem put_time (o : Out) (s : State) : (put o s).time = s.time := rfl
@[simp] theorem put_diag (o : Out) (s : State) : (put o s).diag = s.diag := rfl
@[simp] theorem put_net (o : Out) (s : State) : (put o s).net = s.net := rfl
@[simp] theorem put_lst (o : Out) (s : State) : (put o s).lst = s.lst := rfl
@[simp] theorem put_recs (o : Out) (s : State) : (put o s).recs = s.recs := rfl
@[simp] theorem put_nextRec (o : Out) (s : State) : (put o s).nextRec = s.nextRec := rfl
@[simp] theorem put_nbrs (o : Out) (s : State) : (put o s).nbrs = s.nbrs := rfl
@[simp] theorem put_persist (o : Out) (s : State) : (put o s).persist = s.persist := rfl
@[simp] theorem put_trf (o : Out) (s : State) : (put o s).trf = s.trf := rfl
@[simp] theorem put_fwd (o : Out) (s : State) : (put o s).fwd = s.fwd := rfl
@[simp] theorem put_slm (o : Out) (s : State) : (put o s).slm = s.slm := rfl
@[simp] theorem put_gt (o : Out) (s : State) : (put o s).gt = s.gt := rfl
@[simp] theorem put_keys (o : Out) (s : State) : (put o s).keys = s.keys := rfl
@[simp] theorem put_yow (o : Out) (s : State) : (put o s).yow = s.yow := rfl
@[simp] theorem put_torch (o : Out) (s : State) : (put o s).torch = s.torch := rfl
@[simp] theorem put_upd (o : Out) (s : State) : (put o s).upd = s.upd := rfl
@[simp] theorem getF_put (o : Out) (g : Field) (j : Nat) (s : State) : getF g j (put o s) = getF g j s := by simp [getF]
@[simp] theorem getB_put (o : Out) (g : Field) (j : Nat) (s : State) : getB g j (put o s) = getB g j s := by simp [getB]
@[simp] theorem getI_put (o : Out) (g : Field) (j : Nat) (s : State) : getI g j (put o s) = getI g j s := by simp [getI]
@[simp] theorem paramOpt_put (o : Out) (id r : Nat) (s : State) : paramOpt (put o s) id r = paramOpt s id r := by simp [paramOpt]
@[simp] theorem param_put (o : Out) (id r : Nat) (s : State) : param (put o s) id r = param s id r := by simp [param]
@[simp] theorem paramW_put (o : Out) (id r k : Nat) (s : State) : paramW (put o s) id r k = paramW s id r k := by simp [paramW]
@[simp] theorem paramF_put (o : Out) (id r k hi lo : Nat) (s : State) : paramF (put o s) id r k hi lo = paramF s id r k hi lo := by simp [paramF]
@[simp] theorem laneOf_put (o : Out) (k : Nat) (s : State) : lane (put o s) k = lane s k := by simp [lane]
@[simp] theorem rfOf_put (o : Out) (k : Nat) (s : State) : rf (put o s) k = rf s k := by simp [rf]
@[simp] theorem emOf_put (o : Out) (k : Nat) (s : State) : em (put o s) k = em s k := by simp [em]

/-! freeNext. -/
@[simp] theorem freeNext_pending (s : State) : (freeNext s).pending = s.pending := rfl
@[simp] theorem freeNext_fuse (s : State) : (freeNext s).fuse = s.fuse := rfl
@[simp] theorem freeNext_now (s : State) : (freeNext s).now = s.now := rfl
@[simp] theorem freeNext_outs (s : State) : (freeNext s).outs = s.outs := rfl
@[simp] theorem freeNext_regs (s : State) : (freeNext s).regs = s.regs := rfl
@[simp] theorem freeNext_evq (s : State) : (freeNext s).evq = s.evq := rfl
@[simp] theorem freeNext_lanes (s : State) : (freeNext s).lanes = s.lanes := rfl
@[simp] theorem freeNext_lastLane (s : State) : (freeNext s).lastLane = s.lastLane := rfl
@[simp] theorem freeNext_pwr (s : State) : (freeNext s).pwr = s.pwr := rfl
@[simp] theorem freeNext_start (s : State) : (freeNext s).start = s.start := rfl
@[simp] theorem freeNext_cfg (s : State) : (freeNext s).cfg = s.cfg := rfl
@[simp] theorem freeNext_rf (s : State) : (freeNext s).rf = s.rf := rfl
@[simp] theorem freeNext_em (s : State) : (freeNext s).em = s.em := rfl
@[simp] theorem freeNext_awaiting (s : State) : (freeNext s).awaiting = s.awaiting := rfl
@[simp] theorem freeNext_time (s : State) : (freeNext s).time = s.time := rfl
@[simp] theorem freeNext_diag (s : State) : (freeNext s).diag = s.diag := rfl
@[simp] theorem freeNext_net (s : State) : (freeNext s).net = s.net := rfl
@[simp] theorem freeNext_lst (s : State) : (freeNext s).lst = s.lst := rfl
@[simp] theorem freeNext_recs (s : State) : (freeNext s).recs = s.recs := rfl
@[simp] theorem freeNext_nextRec (s : State) : (freeNext s).nextRec = s.nextRec := rfl
@[simp] theorem freeNext_nbrs (s : State) : (freeNext s).nbrs = s.nbrs := rfl
@[simp] theorem freeNext_persist (s : State) : (freeNext s).persist = s.persist := rfl
@[simp] theorem freeNext_trf (s : State) : (freeNext s).trf = s.trf := rfl
@[simp] theorem freeNext_fwd (s : State) : (freeNext s).fwd = s.fwd := rfl
@[simp] theorem freeNext_slm (s : State) : (freeNext s).slm = s.slm := rfl
@[simp] theorem freeNext_gt (s : State) : (freeNext s).gt = s.gt := rfl
@[simp] theorem freeNext_keys (s : State) : (freeNext s).keys = s.keys := rfl
@[simp] theorem freeNext_yow (s : State) : (freeNext s).yow = s.yow := rfl
@[simp] theorem freeNext_torch (s : State) : (freeNext s).torch = s.torch := rfl
@[simp] theorem freeNext_upd (s : State) : (freeNext s).upd = s.upd := rfl
@[simp] theorem getF_freeNext (g : Field) (j : Nat) (s : State) : getF g j (freeNext s) = getF g j s := by simp [getF]
@[simp] theorem getB_freeNext (g : Field) (j : Nat) (s : State) : getB g j (freeNext s) = getB g j s := by simp [getB]
@[simp] theorem getI_freeNext (g : Field) (j : Nat) (s : State) : getI g j (freeNext s) = getI g j s := by simp [getI]
@[simp] theorem paramOpt_freeNext (id r : Nat) (s : State) : paramOpt (freeNext s) id r = paramOpt s id r := by simp [paramOpt]
@[simp] theorem param_freeNext (id r : Nat) (s : State) : param (freeNext s) id r = param s id r := by simp [param]
@[simp] theorem paramW_freeNext (id r k : Nat) (s : State) : paramW (freeNext s) id r k = paramW s id r k := by simp [paramW]
@[simp] theorem paramF_freeNext (id r k hi lo : Nat) (s : State) : paramF (freeNext s) id r k hi lo = paramF s id r k hi lo := by simp [paramF]
@[simp] theorem laneOf_freeNext (k : Nat) (s : State) : lane (freeNext s) k = lane s k := by simp [lane]
@[simp] theorem rfOf_freeNext (k : Nat) (s : State) : rf (freeNext s) k = rf s k := by simp [rf]
@[simp] theorem emOf_freeNext (k : Nat) (s : State) : em (freeNext s) k = em s k := by simp [em]

/-! setLane. -/
@[simp] theorem setLane_pending (n : Nat) (l : Lane) (s : State) : (setLane n l s).pending = s.pending := rfl
@[simp] theorem setLane_fuse (n : Nat) (l : Lane) (s : State) : (setLane n l s).fuse = s.fuse := rfl
@[simp] theorem setLane_now (n : Nat) (l : Lane) (s : State) : (setLane n l s).now = s.now := rfl
@[simp] theorem setLane_freeCtr (n : Nat) (l : Lane) (s : State) : (setLane n l s).freeCtr = s.freeCtr := rfl
@[simp] theorem setLane_outs (n : Nat) (l : Lane) (s : State) : (setLane n l s).outs = s.outs := rfl
@[simp] theorem setLane_regs (n : Nat) (l : Lane) (s : State) : (setLane n l s).regs = s.regs := rfl
@[simp] theorem setLane_evq (n : Nat) (l : Lane) (s : State) : (setLane n l s).evq = s.evq := rfl
@[simp] theorem setLane_lastLane (n : Nat) (l : Lane) (s : State) : (setLane n l s).lastLane = s.lastLane := rfl
@[simp] theorem setLane_pwr (n : Nat) (l : Lane) (s : State) : (setLane n l s).pwr = s.pwr := rfl
@[simp] theorem setLane_start (n : Nat) (l : Lane) (s : State) : (setLane n l s).start = s.start := rfl
@[simp] theorem setLane_cfg (n : Nat) (l : Lane) (s : State) : (setLane n l s).cfg = s.cfg := rfl
@[simp] theorem setLane_rf (n : Nat) (l : Lane) (s : State) : (setLane n l s).rf = s.rf := rfl
@[simp] theorem setLane_em (n : Nat) (l : Lane) (s : State) : (setLane n l s).em = s.em := rfl
@[simp] theorem setLane_awaiting (n : Nat) (l : Lane) (s : State) : (setLane n l s).awaiting = s.awaiting := rfl
@[simp] theorem setLane_time (n : Nat) (l : Lane) (s : State) : (setLane n l s).time = s.time := rfl
@[simp] theorem setLane_diag (n : Nat) (l : Lane) (s : State) : (setLane n l s).diag = s.diag := rfl
@[simp] theorem setLane_net (n : Nat) (l : Lane) (s : State) : (setLane n l s).net = s.net := rfl
@[simp] theorem setLane_lst (n : Nat) (l : Lane) (s : State) : (setLane n l s).lst = s.lst := rfl
@[simp] theorem setLane_recs (n : Nat) (l : Lane) (s : State) : (setLane n l s).recs = s.recs := rfl
@[simp] theorem setLane_nextRec (n : Nat) (l : Lane) (s : State) : (setLane n l s).nextRec = s.nextRec := rfl
@[simp] theorem setLane_nbrs (n : Nat) (l : Lane) (s : State) : (setLane n l s).nbrs = s.nbrs := rfl
@[simp] theorem setLane_persist (n : Nat) (l : Lane) (s : State) : (setLane n l s).persist = s.persist := rfl
@[simp] theorem setLane_trf (n : Nat) (l : Lane) (s : State) : (setLane n l s).trf = s.trf := rfl
@[simp] theorem setLane_fwd (n : Nat) (l : Lane) (s : State) : (setLane n l s).fwd = s.fwd := rfl
@[simp] theorem setLane_slm (n : Nat) (l : Lane) (s : State) : (setLane n l s).slm = s.slm := rfl
@[simp] theorem setLane_gt (n : Nat) (l : Lane) (s : State) : (setLane n l s).gt = s.gt := rfl
@[simp] theorem setLane_keys (n : Nat) (l : Lane) (s : State) : (setLane n l s).keys = s.keys := rfl
@[simp] theorem setLane_yow (n : Nat) (l : Lane) (s : State) : (setLane n l s).yow = s.yow := rfl
@[simp] theorem setLane_torch (n : Nat) (l : Lane) (s : State) : (setLane n l s).torch = s.torch := rfl
@[simp] theorem setLane_upd (n : Nat) (l : Lane) (s : State) : (setLane n l s).upd = s.upd := rfl
@[simp] theorem getF_setLane (n : Nat) (l : Lane) (g : Field) (j : Nat) (s : State) : getF g j (setLane n l s) = getF g j s := by simp [getF]
@[simp] theorem getB_setLane (n : Nat) (l : Lane) (g : Field) (j : Nat) (s : State) : getB g j (setLane n l s) = getB g j s := by simp [getB]
@[simp] theorem getI_setLane (n : Nat) (l : Lane) (g : Field) (j : Nat) (s : State) : getI g j (setLane n l s) = getI g j s := by simp [getI]
@[simp] theorem paramOpt_setLane (n : Nat) (l : Lane) (id r : Nat) (s : State) : paramOpt (setLane n l s) id r = paramOpt s id r := by simp [paramOpt]
@[simp] theorem param_setLane (n : Nat) (l : Lane) (id r : Nat) (s : State) : param (setLane n l s) id r = param s id r := by simp [param]
@[simp] theorem paramW_setLane (n : Nat) (l : Lane) (id r k : Nat) (s : State) : paramW (setLane n l s) id r k = paramW s id r k := by simp [paramW]
@[simp] theorem paramF_setLane (n : Nat) (l : Lane) (id r k hi lo : Nat) (s : State) : paramF (setLane n l s) id r k hi lo = paramF s id r k hi lo := by simp [paramF]
@[simp] theorem rfOf_setLane (n : Nat) (l : Lane) (k : Nat) (s : State) : rf (setLane n l s) k = rf s k := by simp [rf]
@[simp] theorem emOf_setLane (n : Nat) (l : Lane) (k : Nat) (s : State) : em (setLane n l s) k = em s k := by simp [em]

/-! setRf. -/
@[simp] theorem setRf_pending (p : Nat) (x : RfPort) (s : State) : (setRf p x s).pending = s.pending := rfl
@[simp] theorem setRf_fuse (p : Nat) (x : RfPort) (s : State) : (setRf p x s).fuse = s.fuse := rfl
@[simp] theorem setRf_now (p : Nat) (x : RfPort) (s : State) : (setRf p x s).now = s.now := rfl
@[simp] theorem setRf_freeCtr (p : Nat) (x : RfPort) (s : State) : (setRf p x s).freeCtr = s.freeCtr := rfl
@[simp] theorem setRf_outs (p : Nat) (x : RfPort) (s : State) : (setRf p x s).outs = s.outs := rfl
@[simp] theorem setRf_regs (p : Nat) (x : RfPort) (s : State) : (setRf p x s).regs = s.regs := rfl
@[simp] theorem setRf_evq (p : Nat) (x : RfPort) (s : State) : (setRf p x s).evq = s.evq := rfl
@[simp] theorem setRf_lanes (p : Nat) (x : RfPort) (s : State) : (setRf p x s).lanes = s.lanes := rfl
@[simp] theorem setRf_lastLane (p : Nat) (x : RfPort) (s : State) : (setRf p x s).lastLane = s.lastLane := rfl
@[simp] theorem setRf_pwr (p : Nat) (x : RfPort) (s : State) : (setRf p x s).pwr = s.pwr := rfl
@[simp] theorem setRf_start (p : Nat) (x : RfPort) (s : State) : (setRf p x s).start = s.start := rfl
@[simp] theorem setRf_cfg (p : Nat) (x : RfPort) (s : State) : (setRf p x s).cfg = s.cfg := rfl
@[simp] theorem setRf_em (p : Nat) (x : RfPort) (s : State) : (setRf p x s).em = s.em := rfl
@[simp] theorem setRf_awaiting (p : Nat) (x : RfPort) (s : State) : (setRf p x s).awaiting = s.awaiting := rfl
@[simp] theorem setRf_time (p : Nat) (x : RfPort) (s : State) : (setRf p x s).time = s.time := rfl
@[simp] theorem setRf_diag (p : Nat) (x : RfPort) (s : State) : (setRf p x s).diag = s.diag := rfl
@[simp] theorem setRf_net (p : Nat) (x : RfPort) (s : State) : (setRf p x s).net = s.net := rfl
@[simp] theorem setRf_lst (p : Nat) (x : RfPort) (s : State) : (setRf p x s).lst = s.lst := rfl
@[simp] theorem setRf_recs (p : Nat) (x : RfPort) (s : State) : (setRf p x s).recs = s.recs := rfl
@[simp] theorem setRf_nextRec (p : Nat) (x : RfPort) (s : State) : (setRf p x s).nextRec = s.nextRec := rfl
@[simp] theorem setRf_nbrs (p : Nat) (x : RfPort) (s : State) : (setRf p x s).nbrs = s.nbrs := rfl
@[simp] theorem setRf_persist (p : Nat) (x : RfPort) (s : State) : (setRf p x s).persist = s.persist := rfl
@[simp] theorem setRf_trf (p : Nat) (x : RfPort) (s : State) : (setRf p x s).trf = s.trf := rfl
@[simp] theorem setRf_fwd (p : Nat) (x : RfPort) (s : State) : (setRf p x s).fwd = s.fwd := rfl
@[simp] theorem setRf_slm (p : Nat) (x : RfPort) (s : State) : (setRf p x s).slm = s.slm := rfl
@[simp] theorem setRf_gt (p : Nat) (x : RfPort) (s : State) : (setRf p x s).gt = s.gt := rfl
@[simp] theorem setRf_keys (p : Nat) (x : RfPort) (s : State) : (setRf p x s).keys = s.keys := rfl
@[simp] theorem setRf_yow (p : Nat) (x : RfPort) (s : State) : (setRf p x s).yow = s.yow := rfl
@[simp] theorem setRf_torch (p : Nat) (x : RfPort) (s : State) : (setRf p x s).torch = s.torch := rfl
@[simp] theorem setRf_upd (p : Nat) (x : RfPort) (s : State) : (setRf p x s).upd = s.upd := rfl
@[simp] theorem getF_setRf (p : Nat) (x : RfPort) (g : Field) (j : Nat) (s : State) : getF g j (setRf p x s) = getF g j s := by simp [getF]
@[simp] theorem getB_setRf (p : Nat) (x : RfPort) (g : Field) (j : Nat) (s : State) : getB g j (setRf p x s) = getB g j s := by simp [getB]
@[simp] theorem getI_setRf (p : Nat) (x : RfPort) (g : Field) (j : Nat) (s : State) : getI g j (setRf p x s) = getI g j s := by simp [getI]
@[simp] theorem paramOpt_setRf (p : Nat) (x : RfPort) (id r : Nat) (s : State) : paramOpt (setRf p x s) id r = paramOpt s id r := by simp [paramOpt]
@[simp] theorem param_setRf (p : Nat) (x : RfPort) (id r : Nat) (s : State) : param (setRf p x s) id r = param s id r := by simp [param]
@[simp] theorem paramW_setRf (p : Nat) (x : RfPort) (id r k : Nat) (s : State) : paramW (setRf p x s) id r k = paramW s id r k := by simp [paramW]
@[simp] theorem paramF_setRf (p : Nat) (x : RfPort) (id r k hi lo : Nat) (s : State) : paramF (setRf p x s) id r k hi lo = paramF s id r k hi lo := by simp [paramF]
@[simp] theorem laneOf_setRf (p : Nat) (x : RfPort) (k : Nat) (s : State) : lane (setRf p x s) k = lane s k := by simp [lane]
@[simp] theorem emOf_setRf (p : Nat) (x : RfPort) (k : Nat) (s : State) : em (setRf p x s) k = em s k := by simp [em]

/-! setEm. -/
@[simp] theorem setEm_pending (e : Nat) (x : Em) (s : State) : (setEm e x s).pending = s.pending := rfl
@[simp] theorem setEm_fuse (e : Nat) (x : Em) (s : State) : (setEm e x s).fuse = s.fuse := rfl
@[simp] theorem setEm_now (e : Nat) (x : Em) (s : State) : (setEm e x s).now = s.now := rfl
@[simp] theorem setEm_freeCtr (e : Nat) (x : Em) (s : State) : (setEm e x s).freeCtr = s.freeCtr := rfl
@[simp] theorem setEm_outs (e : Nat) (x : Em) (s : State) : (setEm e x s).outs = s.outs := rfl
@[simp] theorem setEm_regs (e : Nat) (x : Em) (s : State) : (setEm e x s).regs = s.regs := rfl
@[simp] theorem setEm_evq (e : Nat) (x : Em) (s : State) : (setEm e x s).evq = s.evq := rfl
@[simp] theorem setEm_lanes (e : Nat) (x : Em) (s : State) : (setEm e x s).lanes = s.lanes := rfl
@[simp] theorem setEm_lastLane (e : Nat) (x : Em) (s : State) : (setEm e x s).lastLane = s.lastLane := rfl
@[simp] theorem setEm_pwr (e : Nat) (x : Em) (s : State) : (setEm e x s).pwr = s.pwr := rfl
@[simp] theorem setEm_start (e : Nat) (x : Em) (s : State) : (setEm e x s).start = s.start := rfl
@[simp] theorem setEm_cfg (e : Nat) (x : Em) (s : State) : (setEm e x s).cfg = s.cfg := rfl
@[simp] theorem setEm_rf (e : Nat) (x : Em) (s : State) : (setEm e x s).rf = s.rf := rfl
@[simp] theorem setEm_awaiting (e : Nat) (x : Em) (s : State) : (setEm e x s).awaiting = s.awaiting := rfl
@[simp] theorem setEm_time (e : Nat) (x : Em) (s : State) : (setEm e x s).time = s.time := rfl
@[simp] theorem setEm_diag (e : Nat) (x : Em) (s : State) : (setEm e x s).diag = s.diag := rfl
@[simp] theorem setEm_net (e : Nat) (x : Em) (s : State) : (setEm e x s).net = s.net := rfl
@[simp] theorem setEm_lst (e : Nat) (x : Em) (s : State) : (setEm e x s).lst = s.lst := rfl
@[simp] theorem setEm_recs (e : Nat) (x : Em) (s : State) : (setEm e x s).recs = s.recs := rfl
@[simp] theorem setEm_nextRec (e : Nat) (x : Em) (s : State) : (setEm e x s).nextRec = s.nextRec := rfl
@[simp] theorem setEm_nbrs (e : Nat) (x : Em) (s : State) : (setEm e x s).nbrs = s.nbrs := rfl
@[simp] theorem setEm_persist (e : Nat) (x : Em) (s : State) : (setEm e x s).persist = s.persist := rfl
@[simp] theorem setEm_trf (e : Nat) (x : Em) (s : State) : (setEm e x s).trf = s.trf := rfl
@[simp] theorem setEm_fwd (e : Nat) (x : Em) (s : State) : (setEm e x s).fwd = s.fwd := rfl
@[simp] theorem setEm_slm (e : Nat) (x : Em) (s : State) : (setEm e x s).slm = s.slm := rfl
@[simp] theorem setEm_gt (e : Nat) (x : Em) (s : State) : (setEm e x s).gt = s.gt := rfl
@[simp] theorem setEm_keys (e : Nat) (x : Em) (s : State) : (setEm e x s).keys = s.keys := rfl
@[simp] theorem setEm_yow (e : Nat) (x : Em) (s : State) : (setEm e x s).yow = s.yow := rfl
@[simp] theorem setEm_torch (e : Nat) (x : Em) (s : State) : (setEm e x s).torch = s.torch := rfl
@[simp] theorem setEm_upd (e : Nat) (x : Em) (s : State) : (setEm e x s).upd = s.upd := rfl
@[simp] theorem getF_setEm (e : Nat) (x : Em) (g : Field) (j : Nat) (s : State) : getF g j (setEm e x s) = getF g j s := by simp [getF]
@[simp] theorem getB_setEm (e : Nat) (x : Em) (g : Field) (j : Nat) (s : State) : getB g j (setEm e x s) = getB g j s := by simp [getB]
@[simp] theorem getI_setEm (e : Nat) (x : Em) (g : Field) (j : Nat) (s : State) : getI g j (setEm e x s) = getI g j s := by simp [getI]
@[simp] theorem paramOpt_setEm (e : Nat) (x : Em) (id r : Nat) (s : State) : paramOpt (setEm e x s) id r = paramOpt s id r := by simp [paramOpt]
@[simp] theorem param_setEm (e : Nat) (x : Em) (id r : Nat) (s : State) : param (setEm e x s) id r = param s id r := by simp [param]
@[simp] theorem paramW_setEm (e : Nat) (x : Em) (id r k : Nat) (s : State) : paramW (setEm e x s) id r k = paramW s id r k := by simp [paramW]
@[simp] theorem paramF_setEm (e : Nat) (x : Em) (id r k hi lo : Nat) (s : State) : paramF (setEm e x s) id r k hi lo = paramF s id r k hi lo := by simp [paramF]
@[simp] theorem laneOf_setEm (e : Nat) (x : Em) (k : Nat) (s : State) : lane (setEm e x s) k = lane s k := by simp [lane]
@[simp] theorem rfOf_setEm (e : Nat) (x : Em) (k : Nat) (s : State) : rf (setEm e x s) k = rf s k := by simp [rf]

/-! raise. -/
@[simp] theorem raise_pending (e : Nat × Nat) (l : List (Nat × Nat)) (s : State) : (raise e l s).pending = s.pending := by unfold raise; split <;> rfl
@[simp] theorem raise_fuse (e : Nat × Nat) (l : List (Nat × Nat)) (s : State) : (raise e l s).fuse = s.fuse := by unfold raise; split <;> rfl
@[simp] theorem raise_now (e : Nat × Nat) (l : List (Nat × Nat)) (s : State) : (raise e l s).now = s.now := by unfold raise; split <;> rfl
@[simp] theorem raise_freeCtr (e : Nat × Nat) (l : List (Nat × Nat)) (s : State) : (raise e l s).freeCtr = s.freeCtr := by unfold raise; split <;> rfl
@[simp] theorem raise_outs (e : Nat × Nat) (l : List (Nat × Nat)) (s : State) : (raise e l s).outs = s.outs := by unfold raise; split <;> rfl
@[simp] theorem raise_regs (e : Nat × Nat) (l : List (Nat × Nat)) (s : State) : (raise e l s).regs = s.regs := by unfold raise; split <;> rfl
@[simp] theorem raise_lanes (e : Nat × Nat) (l : List (Nat × Nat)) (s : State) : (raise e l s).lanes = s.lanes := by unfold raise; split <;> rfl
@[simp] theorem raise_lastLane (e : Nat × Nat) (l : List (Nat × Nat)) (s : State) : (raise e l s).lastLane = s.lastLane := by unfold raise; split <;> rfl
@[simp] theorem raise_pwr (e : Nat × Nat) (l : List (Nat × Nat)) (s : State) : (raise e l s).pwr = s.pwr := by unfold raise; split <;> rfl
@[simp] theorem raise_start (e : Nat × Nat) (l : List (Nat × Nat)) (s : State) : (raise e l s).start = s.start := by unfold raise; split <;> rfl
@[simp] theorem raise_cfg (e : Nat × Nat) (l : List (Nat × Nat)) (s : State) : (raise e l s).cfg = s.cfg := by unfold raise; split <;> rfl
@[simp] theorem raise_rf (e : Nat × Nat) (l : List (Nat × Nat)) (s : State) : (raise e l s).rf = s.rf := by unfold raise; split <;> rfl
@[simp] theorem raise_em (e : Nat × Nat) (l : List (Nat × Nat)) (s : State) : (raise e l s).em = s.em := by unfold raise; split <;> rfl
@[simp] theorem raise_awaiting (e : Nat × Nat) (l : List (Nat × Nat)) (s : State) : (raise e l s).awaiting = s.awaiting := by unfold raise; split <;> rfl
@[simp] theorem raise_time (e : Nat × Nat) (l : List (Nat × Nat)) (s : State) : (raise e l s).time = s.time := by unfold raise; split <;> rfl
@[simp] theorem raise_diag (e : Nat × Nat) (l : List (Nat × Nat)) (s : State) : (raise e l s).diag = s.diag := by unfold raise; split <;> rfl
@[simp] theorem raise_net (e : Nat × Nat) (l : List (Nat × Nat)) (s : State) : (raise e l s).net = s.net := by unfold raise; split <;> rfl
@[simp] theorem raise_lst (e : Nat × Nat) (l : List (Nat × Nat)) (s : State) : (raise e l s).lst = s.lst := by unfold raise; split <;> rfl
@[simp] theorem raise_recs (e : Nat × Nat) (l : List (Nat × Nat)) (s : State) : (raise e l s).recs = s.recs := by unfold raise; split <;> rfl
@[simp] theorem raise_nextRec (e : Nat × Nat) (l : List (Nat × Nat)) (s : State) : (raise e l s).nextRec = s.nextRec := by unfold raise; split <;> rfl
@[simp] theorem raise_nbrs (e : Nat × Nat) (l : List (Nat × Nat)) (s : State) : (raise e l s).nbrs = s.nbrs := by unfold raise; split <;> rfl
@[simp] theorem raise_persist (e : Nat × Nat) (l : List (Nat × Nat)) (s : State) : (raise e l s).persist = s.persist := by unfold raise; split <;> rfl
@[simp] theorem raise_trf (e : Nat × Nat) (l : List (Nat × Nat)) (s : State) : (raise e l s).trf = s.trf := by unfold raise; split <;> rfl
@[simp] theorem raise_fwd (e : Nat × Nat) (l : List (Nat × Nat)) (s : State) : (raise e l s).fwd = s.fwd := by unfold raise; split <;> rfl
@[simp] theorem raise_slm (e : Nat × Nat) (l : List (Nat × Nat)) (s : State) : (raise e l s).slm = s.slm := by unfold raise; split <;> rfl
@[simp] theorem raise_gt (e : Nat × Nat) (l : List (Nat × Nat)) (s : State) : (raise e l s).gt = s.gt := by unfold raise; split <;> rfl
@[simp] theorem raise_keys (e : Nat × Nat) (l : List (Nat × Nat)) (s : State) : (raise e l s).keys = s.keys := by unfold raise; split <;> rfl
@[simp] theorem raise_yow (e : Nat × Nat) (l : List (Nat × Nat)) (s : State) : (raise e l s).yow = s.yow := by unfold raise; split <;> rfl
@[simp] theorem raise_torch (e : Nat × Nat) (l : List (Nat × Nat)) (s : State) : (raise e l s).torch = s.torch := by unfold raise; split <;> rfl
@[simp] theorem raise_upd (e : Nat × Nat) (l : List (Nat × Nat)) (s : State) : (raise e l s).upd = s.upd := by unfold raise; split <;> rfl
@[simp] theorem getF_raise (e : Nat × Nat) (l : List (Nat × Nat)) (g : Field) (j : Nat) (s : State) : getF g j (raise e l s) = getF g j s := by simp [getF]
@[simp] theorem getB_raise (e : Nat × Nat) (l : List (Nat × Nat)) (g : Field) (j : Nat) (s : State) : getB g j (raise e l s) = getB g j s := by simp [getB]
@[simp] theorem getI_raise (e : Nat × Nat) (l : List (Nat × Nat)) (g : Field) (j : Nat) (s : State) : getI g j (raise e l s) = getI g j s := by simp [getI]
@[simp] theorem paramOpt_raise (e : Nat × Nat) (l : List (Nat × Nat)) (id r : Nat) (s : State) : paramOpt (raise e l s) id r = paramOpt s id r := by simp [paramOpt]
@[simp] theorem param_raise (e : Nat × Nat) (l : List (Nat × Nat)) (id r : Nat) (s : State) : param (raise e l s) id r = param s id r := by simp [param]
@[simp] theorem paramW_raise (e : Nat × Nat) (l : List (Nat × Nat)) (id r k : Nat) (s : State) : paramW (raise e l s) id r k = paramW s id r k := by simp [paramW]
@[simp] theorem paramF_raise (e : Nat × Nat) (l : List (Nat × Nat)) (id r k hi lo : Nat) (s : State) : paramF (raise e l s) id r k hi lo = paramF s id r k hi lo := by simp [paramF]
@[simp] theorem laneOf_raise (e : Nat × Nat) (l : List (Nat × Nat)) (k : Nat) (s : State) : lane (raise e l s) k = lane s k := by simp [lane]
@[simp] theorem rfOf_raise (e : Nat × Nat) (l : List (Nat × Nat)) (k : Nat) (s : State) : rf (raise e l s) k = rf s k := by simp [rf]
@[simp] theorem emOf_raise (e : Nat × Nat) (l : List (Nat × Nat)) (k : Nat) (s : State) : em (raise e l s) k = em s k := by simp [em]

/-! raiseOnce. -/
@[simp] theorem raiseOnce_pending (e : Nat × Nat) (a1 : Nat) (o : Nat → List (Nat × Nat)) (s : State) : (raiseOnce e a1 o s).pending = s.pending := by unfold raiseOnce; dsimp only; split <;> (try split) <;> simp
@[simp] theorem raiseOnce_fuse (e : Nat × Nat) (a1 : Nat) (o : Nat → List (Nat × Nat)) (s : State) : (raiseOnce e a1 o s).fuse = s.fuse := by unfold raiseOnce; dsimp only; split <;> (try split) <;> simp
@[simp] theorem raiseOnce_now (e : Nat × Nat) (a1 : Nat) (o : Nat → List (Nat × Nat)) (s : State) : (raiseOnce e a1 o s).now = s.now := by unfold raiseOnce; dsimp only; split <;> (try split) <;> simp
@[simp] theorem raiseOnce_freeCtr (e : Nat × Nat) (a1 : Nat) (o : Nat → List (Nat × Nat)) (s : State) : (raiseOnce e a1 o s).freeCtr = s.freeCtr := by unfold raiseOnce; dsimp only; split <;> (try split) <;> simp
@[simp] theorem raiseOnce_outs (e : Nat × Nat) (a1 : Nat) (o : Nat → List (Nat × Nat)) (s : State) : (raiseOnce e a1 o s).outs = s.outs := by unfold raiseOnce; dsimp only; split <;> (try split) <;> simp
@[simp] theorem raiseOnce_regs (e : Nat × Nat) (a1 : Nat) (o : Nat → List (Nat × Nat)) (s : State) : (raiseOnce e a1 o s).regs = s.regs := by unfold raiseOnce; dsimp only; split <;> (try split) <;> simp
@[simp] theorem raiseOnce_lanes (e : Nat × Nat) (a1 : Nat) (o : Nat → List (Nat × Nat)) (s : State) : (raiseOnce e a1 o s).lanes = s.lanes := by unfold raiseOnce; dsimp only; split <;> (try split) <;> simp
@[simp] theorem raiseOnce_lastLane (e : Nat × Nat) (a1 : Nat) (o : Nat → List (Nat × Nat)) (s : State) : (raiseOnce e a1 o s).lastLane = s.lastLane := by unfold raiseOnce; dsimp only; split <;> (try split) <;> simp
@[simp] theorem raiseOnce_pwr (e : Nat × Nat) (a1 : Nat) (o : Nat → List (Nat × Nat)) (s : State) : (raiseOnce e a1 o s).pwr = s.pwr := by unfold raiseOnce; dsimp only; split <;> (try split) <;> simp
@[simp] theorem raiseOnce_start (e : Nat × Nat) (a1 : Nat) (o : Nat → List (Nat × Nat)) (s : State) : (raiseOnce e a1 o s).start = s.start := by unfold raiseOnce; dsimp only; split <;> (try split) <;> simp
@[simp] theorem raiseOnce_cfg (e : Nat × Nat) (a1 : Nat) (o : Nat → List (Nat × Nat)) (s : State) : (raiseOnce e a1 o s).cfg = s.cfg := by unfold raiseOnce; dsimp only; split <;> (try split) <;> simp
@[simp] theorem raiseOnce_rf (e : Nat × Nat) (a1 : Nat) (o : Nat → List (Nat × Nat)) (s : State) : (raiseOnce e a1 o s).rf = s.rf := by unfold raiseOnce; dsimp only; split <;> (try split) <;> simp
@[simp] theorem raiseOnce_em (e : Nat × Nat) (a1 : Nat) (o : Nat → List (Nat × Nat)) (s : State) : (raiseOnce e a1 o s).em = s.em := by unfold raiseOnce; dsimp only; split <;> (try split) <;> simp
@[simp] theorem raiseOnce_awaiting (e : Nat × Nat) (a1 : Nat) (o : Nat → List (Nat × Nat)) (s : State) : (raiseOnce e a1 o s).awaiting = s.awaiting := by unfold raiseOnce; dsimp only; split <;> (try split) <;> simp
@[simp] theorem raiseOnce_time (e : Nat × Nat) (a1 : Nat) (o : Nat → List (Nat × Nat)) (s : State) : (raiseOnce e a1 o s).time = s.time := by unfold raiseOnce; dsimp only; split <;> (try split) <;> simp
@[simp] theorem raiseOnce_diag (e : Nat × Nat) (a1 : Nat) (o : Nat → List (Nat × Nat)) (s : State) : (raiseOnce e a1 o s).diag = s.diag := by unfold raiseOnce; dsimp only; split <;> (try split) <;> simp
@[simp] theorem raiseOnce_net (e : Nat × Nat) (a1 : Nat) (o : Nat → List (Nat × Nat)) (s : State) : (raiseOnce e a1 o s).net = s.net := by unfold raiseOnce; dsimp only; split <;> (try split) <;> simp
@[simp] theorem raiseOnce_lst (e : Nat × Nat) (a1 : Nat) (o : Nat → List (Nat × Nat)) (s : State) : (raiseOnce e a1 o s).lst = s.lst := by unfold raiseOnce; dsimp only; split <;> (try split) <;> simp
@[simp] theorem raiseOnce_recs (e : Nat × Nat) (a1 : Nat) (o : Nat → List (Nat × Nat)) (s : State) : (raiseOnce e a1 o s).recs = s.recs := by unfold raiseOnce; dsimp only; split <;> (try split) <;> simp
@[simp] theorem raiseOnce_nextRec (e : Nat × Nat) (a1 : Nat) (o : Nat → List (Nat × Nat)) (s : State) : (raiseOnce e a1 o s).nextRec = s.nextRec := by unfold raiseOnce; dsimp only; split <;> (try split) <;> simp
@[simp] theorem raiseOnce_nbrs (e : Nat × Nat) (a1 : Nat) (o : Nat → List (Nat × Nat)) (s : State) : (raiseOnce e a1 o s).nbrs = s.nbrs := by unfold raiseOnce; dsimp only; split <;> (try split) <;> simp
@[simp] theorem raiseOnce_persist (e : Nat × Nat) (a1 : Nat) (o : Nat → List (Nat × Nat)) (s : State) : (raiseOnce e a1 o s).persist = s.persist := by unfold raiseOnce; dsimp only; split <;> (try split) <;> simp
@[simp] theorem raiseOnce_trf (e : Nat × Nat) (a1 : Nat) (o : Nat → List (Nat × Nat)) (s : State) : (raiseOnce e a1 o s).trf = s.trf := by unfold raiseOnce; dsimp only; split <;> (try split) <;> simp
@[simp] theorem raiseOnce_fwd (e : Nat × Nat) (a1 : Nat) (o : Nat → List (Nat × Nat)) (s : State) : (raiseOnce e a1 o s).fwd = s.fwd := by unfold raiseOnce; dsimp only; split <;> (try split) <;> simp
@[simp] theorem raiseOnce_slm (e : Nat × Nat) (a1 : Nat) (o : Nat → List (Nat × Nat)) (s : State) : (raiseOnce e a1 o s).slm = s.slm := by unfold raiseOnce; dsimp only; split <;> (try split) <;> simp
@[simp] theorem raiseOnce_gt (e : Nat × Nat) (a1 : Nat) (o : Nat → List (Nat × Nat)) (s : State) : (raiseOnce e a1 o s).gt = s.gt := by unfold raiseOnce; dsimp only; split <;> (try split) <;> simp
@[simp] theorem raiseOnce_keys (e : Nat × Nat) (a1 : Nat) (o : Nat → List (Nat × Nat)) (s : State) : (raiseOnce e a1 o s).keys = s.keys := by unfold raiseOnce; dsimp only; split <;> (try split) <;> simp
@[simp] theorem raiseOnce_yow (e : Nat × Nat) (a1 : Nat) (o : Nat → List (Nat × Nat)) (s : State) : (raiseOnce e a1 o s).yow = s.yow := by unfold raiseOnce; dsimp only; split <;> (try split) <;> simp
@[simp] theorem raiseOnce_torch (e : Nat × Nat) (a1 : Nat) (o : Nat → List (Nat × Nat)) (s : State) : (raiseOnce e a1 o s).torch = s.torch := by unfold raiseOnce; dsimp only; split <;> (try split) <;> simp
@[simp] theorem raiseOnce_upd (e : Nat × Nat) (a1 : Nat) (o : Nat → List (Nat × Nat)) (s : State) : (raiseOnce e a1 o s).upd = s.upd := by unfold raiseOnce; dsimp only; split <;> (try split) <;> simp
@[simp] theorem getF_raiseOnce (e : Nat × Nat) (a1 : Nat) (o : Nat → List (Nat × Nat)) (g : Field) (j : Nat) (s : State) : getF g j (raiseOnce e a1 o s) = getF g j s := by simp [getF]
@[simp] theorem getB_raiseOnce (e : Nat × Nat) (a1 : Nat) (o : Nat → List (Nat × Nat)) (g : Field) (j : Nat) (s : State) : getB g j (raiseOnce e a1 o s) = getB g j s := by simp [getB]
@[simp] theorem getI_raiseOnce (e : Nat × Nat) (a1 : Nat) (o : Nat → List (Nat × Nat)) (g : Field) (j : Nat) (s : State) : getI g j (raiseOnce e a1 o s) = getI g j s := by simp [getI]
@[simp] theorem paramOpt_raiseOnce (e : Nat × Nat) (a1 : Nat) (o : Nat → List (Nat × Nat)) (id r : Nat) (s : State) : paramOpt (raiseOnce e a1 o s) id r = paramOpt s id r := by simp [paramOpt]
@[simp] theorem param_raiseOnce (e : Nat × Nat) (a1 : Nat) (o : Nat → List (Nat × Nat)) (id r : Nat) (s : State) : param (raiseOnce e a1 o s) id r = param s id r := by simp [param]
@[simp] theorem paramW_raiseOnce (e : Nat × Nat) (a1 : Nat) (o : Nat → List (Nat × Nat)) (id r k : Nat) (s : State) : paramW (raiseOnce e a1 o s) id r k = paramW s id r k := by simp [paramW]
@[simp] theorem paramF_raiseOnce (e : Nat × Nat) (a1 : Nat) (o : Nat → List (Nat × Nat)) (id r k hi lo : Nat) (s : State) : paramF (raiseOnce e a1 o s) id r k hi lo = paramF s id r k hi lo := by simp [paramF]
@[simp] theorem laneOf_raiseOnce (e : Nat × Nat) (a1 : Nat) (o : Nat → List (Nat × Nat)) (k : Nat) (s : State) : lane (raiseOnce e a1 o s) k = lane s k := by simp [lane]
@[simp] theorem rfOf_raiseOnce (e : Nat × Nat) (a1 : Nat) (o : Nat → List (Nat × Nat)) (k : Nat) (s : State) : rf (raiseOnce e a1 o s) k = rf s k := by simp [rf]
@[simp] theorem emOf_raiseOnce (e : Nat × Nat) (a1 : Nat) (o : Nat → List (Nat × Nat)) (k : Nat) (s : State) : em (raiseOnce e a1 o s) k = em s k := by simp [em]

/-! raisePerSecond. -/
@[simp] theorem raisePerSecond_pending (e : Nat × Nat) (a1 : Nat) (l : List (Nat × Nat)) (s : State) : (raisePerSecond e a1 l s).pending = s.pending := by simp [raisePerSecond]
@[simp] theorem raisePerSecond_fuse (e : Nat × Nat) (a1 : Nat) (l : List (Nat × Nat)) (s : State) : (raisePerSecond e a1 l s).fuse = s.fuse := by simp [raisePerSecond]
@[simp] theorem raisePerSecond_now (e : Nat × Nat) (a1 : Nat) (l : List (Nat × Nat)) (s : State) : (raisePerSecond e a1 l s).now = s.now := by simp [raisePerSecond]
@[simp] theorem raisePerSecond_freeCtr (e : Nat × Nat) (a1 : Nat) (l : List (Nat × Nat)) (s : State) : (raisePerSecond e a1 l s).freeCtr = s.freeCtr := by simp [raisePerSecond]
@[simp] theorem raisePerSecond_outs (e : Nat × Nat) (a1 : Nat) (l : List (Nat × Nat)) (s : State) : (raisePerSecond e a1 l s).outs = s.outs := by simp [raisePerSecond]
@[simp] theorem raisePerSecond_regs (e : Nat × Nat) (a1 : Nat) (l : List (Nat × Nat)) (s : State) : (raisePerSecond e a1 l s).regs = s.regs := by simp [raisePerSecond]
@[simp] theorem raisePerSecond_lanes (e : Nat × Nat) (a1 : Nat) (l : List (Nat × Nat)) (s : State) : (raisePerSecond e a1 l s).lanes = s.lanes := by simp [raisePerSecond]
@[simp] theorem raisePerSecond_lastLane (e : Nat × Nat) (a1 : Nat) (l : List (Nat × Nat)) (s : State) : (raisePerSecond e a1 l s).lastLane = s.lastLane := by simp [raisePerSecond]
@[simp] theorem raisePerSecond_pwr (e : Nat × Nat) (a1 : Nat) (l : List (Nat × Nat)) (s : State) : (raisePerSecond e a1 l s).pwr = s.pwr := by simp [raisePerSecond]
@[simp] theorem raisePerSecond_start (e : Nat × Nat) (a1 : Nat) (l : List (Nat × Nat)) (s : State) : (raisePerSecond e a1 l s).start = s.start := by simp [raisePerSecond]
@[simp] theorem raisePerSecond_cfg (e : Nat × Nat) (a1 : Nat) (l : List (Nat × Nat)) (s : State) : (raisePerSecond e a1 l s).cfg = s.cfg := by simp [raisePerSecond]
@[simp] theorem raisePerSecond_rf (e : Nat × Nat) (a1 : Nat) (l : List (Nat × Nat)) (s : State) : (raisePerSecond e a1 l s).rf = s.rf := by simp [raisePerSecond]
@[simp] theorem raisePerSecond_em (e : Nat × Nat) (a1 : Nat) (l : List (Nat × Nat)) (s : State) : (raisePerSecond e a1 l s).em = s.em := by simp [raisePerSecond]
@[simp] theorem raisePerSecond_awaiting (e : Nat × Nat) (a1 : Nat) (l : List (Nat × Nat)) (s : State) : (raisePerSecond e a1 l s).awaiting = s.awaiting := by simp [raisePerSecond]
@[simp] theorem raisePerSecond_time (e : Nat × Nat) (a1 : Nat) (l : List (Nat × Nat)) (s : State) : (raisePerSecond e a1 l s).time = s.time := by simp [raisePerSecond]
@[simp] theorem raisePerSecond_diag (e : Nat × Nat) (a1 : Nat) (l : List (Nat × Nat)) (s : State) : (raisePerSecond e a1 l s).diag = s.diag := by simp [raisePerSecond]
@[simp] theorem raisePerSecond_net (e : Nat × Nat) (a1 : Nat) (l : List (Nat × Nat)) (s : State) : (raisePerSecond e a1 l s).net = s.net := by simp [raisePerSecond]
@[simp] theorem raisePerSecond_lst (e : Nat × Nat) (a1 : Nat) (l : List (Nat × Nat)) (s : State) : (raisePerSecond e a1 l s).lst = s.lst := by simp [raisePerSecond]
@[simp] theorem raisePerSecond_recs (e : Nat × Nat) (a1 : Nat) (l : List (Nat × Nat)) (s : State) : (raisePerSecond e a1 l s).recs = s.recs := by simp [raisePerSecond]
@[simp] theorem raisePerSecond_nextRec (e : Nat × Nat) (a1 : Nat) (l : List (Nat × Nat)) (s : State) : (raisePerSecond e a1 l s).nextRec = s.nextRec := by simp [raisePerSecond]
@[simp] theorem raisePerSecond_nbrs (e : Nat × Nat) (a1 : Nat) (l : List (Nat × Nat)) (s : State) : (raisePerSecond e a1 l s).nbrs = s.nbrs := by simp [raisePerSecond]
@[simp] theorem raisePerSecond_persist (e : Nat × Nat) (a1 : Nat) (l : List (Nat × Nat)) (s : State) : (raisePerSecond e a1 l s).persist = s.persist := by simp [raisePerSecond]
@[simp] theorem raisePerSecond_trf (e : Nat × Nat) (a1 : Nat) (l : List (Nat × Nat)) (s : State) : (raisePerSecond e a1 l s).trf = s.trf := by simp [raisePerSecond]
@[simp] theorem raisePerSecond_fwd (e : Nat × Nat) (a1 : Nat) (l : List (Nat × Nat)) (s : State) : (raisePerSecond e a1 l s).fwd = s.fwd := by simp [raisePerSecond]
@[simp] theorem raisePerSecond_slm (e : Nat × Nat) (a1 : Nat) (l : List (Nat × Nat)) (s : State) : (raisePerSecond e a1 l s).slm = s.slm := by simp [raisePerSecond]
@[simp] theorem raisePerSecond_gt (e : Nat × Nat) (a1 : Nat) (l : List (Nat × Nat)) (s : State) : (raisePerSecond e a1 l s).gt = s.gt := by simp [raisePerSecond]
@[simp] theorem raisePerSecond_keys (e : Nat × Nat) (a1 : Nat) (l : List (Nat × Nat)) (s : State) : (raisePerSecond e a1 l s).keys = s.keys := by simp [raisePerSecond]
@[simp] theorem raisePerSecond_yow (e : Nat × Nat) (a1 : Nat) (l : List (Nat × Nat)) (s : State) : (raisePerSecond e a1 l s).yow = s.yow := by simp [raisePerSecond]
@[simp] theorem raisePerSecond_torch (e : Nat × Nat) (a1 : Nat) (l : List (Nat × Nat)) (s : State) : (raisePerSecond e a1 l s).torch = s.torch := by simp [raisePerSecond]
@[simp] theorem raisePerSecond_upd (e : Nat × Nat) (a1 : Nat) (l : List (Nat × Nat)) (s : State) : (raisePerSecond e a1 l s).upd = s.upd := by simp [raisePerSecond]
@[simp] theorem getF_raisePerSecond (e : Nat × Nat) (a1 : Nat) (l : List (Nat × Nat)) (g : Field) (j : Nat) (s : State) : getF g j (raisePerSecond e a1 l s) = getF g j s := by simp [getF]
@[simp] theorem getB_raisePerSecond (e : Nat × Nat) (a1 : Nat) (l : List (Nat × Nat)) (g : Field) (j : Nat) (s : State) : getB g j (raisePerSecond e a1 l s) = getB g j s := by simp [getB]
@[simp] theorem getI_raisePerSecond (e : Nat × Nat) (a1 : Nat) (l : List (Nat × Nat)) (g : Field) (j : Nat) (s : State) : getI g j (raisePerSecond e a1 l s) = getI g j s := by simp [getI]
@[simp] theorem paramOpt_raisePerSecond (e : Nat × Nat) (a1 : Nat) (l : List (Nat × Nat)) (id r : Nat) (s : State) : paramOpt (raisePerSecond e a1 l s) id r = paramOpt s id r := by simp [paramOpt]
@[simp] theorem param_raisePerSecond (e : Nat × Nat) (a1 : Nat) (l : List (Nat × Nat)) (id r : Nat) (s : State) : param (raisePerSecond e a1 l s) id r = param s id r := by simp [param]
@[simp] theorem paramW_raisePerSecond (e : Nat × Nat) (a1 : Nat) (l : List (Nat × Nat)) (id r k : Nat) (s : State) : paramW (raisePerSecond e a1 l s) id r k = paramW s id r k := by simp [paramW]
@[simp] theorem paramF_raisePerSecond (e : Nat × Nat) (a1 : Nat) (l : List (Nat × Nat)) (id r k hi lo : Nat) (s : State) : paramF (raisePerSecond e a1 l s) id r k hi lo = paramF s id r k hi lo := by simp [paramF]
@[simp] theorem laneOf_raisePerSecond (e : Nat × Nat) (a1 : Nat) (l : List (Nat × Nat)) (k : Nat) (s : State) : lane (raisePerSecond e a1 l s) k = lane s k := by simp [lane]
@[simp] theorem rfOf_raisePerSecond (e : Nat × Nat) (a1 : Nat) (l : List (Nat × Nat)) (k : Nat) (s : State) : rf (raisePerSecond e a1 l s) k = rf s k := by simp [rf]
@[simp] theorem emOf_raisePerSecond (e : Nat × Nat) (a1 : Nat) (l : List (Nat × Nat)) (k : Nat) (s : State) : em (raisePerSecond e a1 l s) k = em s k := by simp [em]

/-! countBy. -/
@[simp] theorem countBy_pending (f : Field) (i n : Nat) (s : State) : (countBy f i n s).pending = s.pending := by unfold countBy; dsimp only; split <;> rfl
@[simp] theorem countBy_fuse (f : Field) (i n : Nat) (s : State) : (countBy f i n s).fuse = s.fuse := by unfold countBy; dsimp only; split <;> rfl
@[simp] theorem countBy_now (f : Field) (i n : Nat) (s : State) : (countBy f i n s).now = s.now := by unfold countBy; dsimp only; split <;> rfl
@[simp] theorem countBy_freeCtr (f : Field) (i n : Nat) (s : State) : (countBy f i n s).freeCtr = s.freeCtr := by unfold countBy; dsimp only; split <;> rfl
@[simp] theorem countBy_outs (f : Field) (i n : Nat) (s : State) : (countBy f i n s).outs = s.outs := by unfold countBy; dsimp only; split <;> rfl
@[simp] theorem countBy_evq (f : Field) (i n : Nat) (s : State) : (countBy f i n s).evq = s.evq := by unfold countBy; dsimp only; split <;> rfl
@[simp] theorem countBy_lanes (f : Field) (i n : Nat) (s : State) : (countBy f i n s).lanes = s.lanes := by unfold countBy; dsimp only; split <;> rfl
@[simp] theorem countBy_lastLane (f : Field) (i n : Nat) (s : State) : (countBy f i n s).lastLane = s.lastLane := by unfold countBy; dsimp only; split <;> rfl
@[simp] theorem countBy_pwr (f : Field) (i n : Nat) (s : State) : (countBy f i n s).pwr = s.pwr := by unfold countBy; dsimp only; split <;> rfl
@[simp] theorem countBy_start (f : Field) (i n : Nat) (s : State) : (countBy f i n s).start = s.start := by unfold countBy; dsimp only; split <;> rfl
@[simp] theorem countBy_cfg (f : Field) (i n : Nat) (s : State) : (countBy f i n s).cfg = s.cfg := by unfold countBy; dsimp only; split <;> rfl
@[simp] theorem countBy_rf (f : Field) (i n : Nat) (s : State) : (countBy f i n s).rf = s.rf := by unfold countBy; dsimp only; split <;> rfl
@[simp] theorem countBy_em (f : Field) (i n : Nat) (s : State) : (countBy f i n s).em = s.em := by unfold countBy; dsimp only; split <;> rfl
@[simp] theorem countBy_awaiting (f : Field) (i n : Nat) (s : State) : (countBy f i n s).awaiting = s.awaiting := by unfold countBy; dsimp only; split <;> rfl
@[simp] theorem countBy_time (f : Field) (i n : Nat) (s : State) : (countBy f i n s).time = s.time := by unfold countBy; dsimp only; split <;> rfl
@[simp] theorem countBy_net (f : Field) (i n : Nat) (s : State) : (countBy f i n s).net = s.net := by unfold countBy; dsimp only; split <;> rfl
@[simp] theorem countBy_lst (f : Field) (i n : Nat) (s : State) : (countBy f i n s).lst = s.lst := by unfold countBy; dsimp only; split <;> rfl
@[simp] theorem countBy_recs (f : Field) (i n : Nat) (s : State) : (countBy f i n s).recs = s.recs := by unfold countBy; dsimp only; split <;> rfl
@[simp] theorem countBy_nextRec (f : Field) (i n : Nat) (s : State) : (countBy f i n s).nextRec = s.nextRec := by unfold countBy; dsimp only; split <;> rfl
@[simp] theorem countBy_nbrs (f : Field) (i n : Nat) (s : State) : (countBy f i n s).nbrs = s.nbrs := by unfold countBy; dsimp only; split <;> rfl
@[simp] theorem countBy_persist (f : Field) (i n : Nat) (s : State) : (countBy f i n s).persist = s.persist := by unfold countBy; dsimp only; split <;> rfl
@[simp] theorem countBy_trf (f : Field) (i n : Nat) (s : State) : (countBy f i n s).trf = s.trf := by unfold countBy; dsimp only; split <;> rfl
@[simp] theorem countBy_fwd (f : Field) (i n : Nat) (s : State) : (countBy f i n s).fwd = s.fwd := by unfold countBy; dsimp only; split <;> rfl
@[simp] theorem countBy_slm (f : Field) (i n : Nat) (s : State) : (countBy f i n s).slm = s.slm := by unfold countBy; dsimp only; split <;> rfl
@[simp] theorem countBy_gt (f : Field) (i n : Nat) (s : State) : (countBy f i n s).gt = s.gt := by unfold countBy; dsimp only; split <;> rfl
@[simp] theorem countBy_keys (f : Field) (i n : Nat) (s : State) : (countBy f i n s).keys = s.keys := by unfold countBy; dsimp only; split <;> rfl
@[simp] theorem countBy_yow (f : Field) (i n : Nat) (s : State) : (countBy f i n s).yow = s.yow := by unfold countBy; dsimp only; split <;> rfl
@[simp] theorem countBy_torch (f : Field) (i n : Nat) (s : State) : (countBy f i n s).torch = s.torch := by unfold countBy; dsimp only; split <;> rfl
@[simp] theorem countBy_upd (f : Field) (i n : Nat) (s : State) : (countBy f i n s).upd = s.upd := by unfold countBy; dsimp only; split <;> rfl
@[simp] theorem paramOpt_countBy (f : Field) (i n : Nat) (id r : Nat) (s : State) : paramOpt (countBy f i n s) id r = paramOpt s id r := by simp [paramOpt]
@[simp] theorem param_countBy (f : Field) (i n : Nat) (id r : Nat) (s : State) : param (countBy f i n s) id r = param s id r := by simp [param]
@[simp] theorem paramW_countBy (f : Field) (i n : Nat) (id r k : Nat) (s : State) : paramW (countBy f i n s) id r k = paramW s id r k := by simp [paramW]
@[simp] theorem paramF_countBy (f : Field) (i n : Nat) (id r k hi lo : Nat) (s : State) : paramF (countBy f i n s) id r k hi lo = paramF s id r k hi lo := by simp [paramF]
@[simp] theorem laneOf_countBy (f : Field) (i n : Nat) (k : Nat) (s : State) : lane (countBy f i n s) k = lane s k := by simp [lane]
@[simp] theorem rfOf_countBy (f : Field) (i n : Nat) (k : Nat) (s : State) : rf (countBy f i n s) k = rf s k := by simp [rf]
@[simp] theorem emOf_countBy (f : Field) (i n : Nat) (k : Nat) (s : State) : em (countBy f i n s) k = em s k := by simp [em]

/-! count. -/
@[simp] theorem count_pending (f : Field) (i : Nat) (s : State) : (count f i s).pending = s.pending := by simp [count]
@[simp] theorem count_fuse (f : Field) (i : Nat) (s : State) : (count f i s).fuse = s.fuse := by simp [count]
@[simp] theorem count_now (f : Field) (i : Nat) (s : State) : (count f i s).now = s.now := by simp [count]
@[simp] theorem count_freeCtr (f : Field) (i : Nat) (s : State) : (count f i s).freeCtr = s.freeCtr := by simp [count]
@[simp] theorem count_outs (f : Field) (i : Nat) (s : State) : (count f i s).outs = s.outs := by simp [count]
@[simp] theorem count_evq (f : Field) (i : Nat) (s : State) : (count f i s).evq = s.evq := by simp [count]
@[simp] theorem count_lanes (f : Field) (i : Nat) (s : State) : (count f i s).lanes = s.lanes := by simp [count]
@[simp] theorem count_lastLane (f : Field) (i : Nat) (s : State) : (count f i s).lastLane = s.lastLane := by simp [count]
@[simp] theorem count_pwr (f : Field) (i : Nat) (s : State) : (count f i s).pwr = s.pwr := by simp [count]
@[simp] theorem count_start (f : Field) (i : Nat) (s : State) : (count f i s).start = s.start := by simp [count]
@[simp] theorem count_cfg (f : Field) (i : Nat) (s : State) : (count f i s).cfg = s.cfg := by simp [count]
@[simp] theorem count_rf (f : Field) (i : Nat) (s : State) : (count f i s).rf = s.rf := by simp [count]
@[simp] theorem count_em (f : Field) (i : Nat) (s : State) : (count f i s).em = s.em := by simp [count]
@[simp] theorem count_awaiting (f : Field) (i : Nat) (s : State) : (count f i s).awaiting = s.awaiting := by simp [count]
@[simp] theorem count_time (f : Field) (i : Nat) (s : State) : (count f i s).time = s.time := by simp [count]
@[simp] theorem count_net (f : Field) (i : Nat) (s : State) : (count f i s).net = s.net := by simp [count]
@[simp] theorem count_lst (f : Field) (i : Nat) (s : State) : (count f i s).lst = s.lst := by simp [count]
@[simp] theorem count_recs (f : Field) (i : Nat) (s : State) : (count f i s).recs = s.recs := by simp [count]
@[simp] theorem count_nextRec (f : Field) (i : Nat) (s : State) : (count f i s).nextRec = s.nextRec := by simp [count]
@[simp] theorem count_nbrs (f : Field) (i : Nat) (s : State) : (count f i s).nbrs = s.nbrs := by simp [count]
@[simp] theorem count_persist (f : Field) (i : Nat) (s : State) : (count f i s).persist = s.persist := by simp [count]
@[simp] theorem count_trf (f : Field) (i : Nat) (s : State) : (count f i s).trf = s.trf := by simp [count]
@[simp] theorem count_fwd (f : Field) (i : Nat) (s : State) : (count f i s).fwd = s.fwd := by simp [count]
@[simp] theorem count_slm (f : Field) (i : Nat) (s : State) : (count f i s).slm = s.slm := by simp [count]
@[simp] theorem count_gt (f : Field) (i : Nat) (s : State) : (count f i s).gt = s.gt := by simp [count]
@[simp] theorem count_keys (f : Field) (i : Nat) (s : State) : (count f i s).keys = s.keys := by simp [count]
@[simp] theorem count_yow (f : Field) (i : Nat) (s : State) : (count f i s).yow = s.yow := by simp [count]
@[simp] theorem count_torch (f : Field) (i : Nat) (s : State) : (count f i s).torch = s.torch := by simp [count]
@[simp] theorem count_upd (f : Field) (i : Nat) (s : State) : (count f i s).upd = s.upd := by simp [count]
@[simp] theorem paramOpt_count (f : Field) (i : Nat) (id r : Nat) (s : State) : paramOpt (count f i s) id r = paramOpt s id r := by simp [paramOpt]
@[simp] theorem param_count (f : Field) (i : Nat) (id r : Nat) (s : State) : param (count f i s) id r = param s id r := by simp [param]
@[simp] theorem paramW_count (f : Field) (i : Nat) (id r k : Nat) (s : State) : paramW (count f i s) id r k = paramW s id r k := by simp [paramW]
@[simp] theorem paramF_count (f : Field) (i : Nat) (id r k hi lo : Nat) (s : State) : paramF (count f i s) id r k hi lo = paramF s id r k hi lo := by simp [paramF]
@[simp] theorem laneOf_count (f : Field) (i : Nat) (k : Nat) (s : State) : lane (count f i s) k = lane s k := by simp [lane]
@[simp] theorem rfOf_count (f : Field) (i : Nat) (k : Nat) (s : State) : rf (count f i s) k = rf s k := by simp [rf]
@[simp] theorem emOf_count (f : Field) (i : Nat) (k : Nat) (s : State) : em (count f i s) k = em s k := by simp [em]

/-! msixSend. -/
@[simp] theorem msixSend_pending (v : Nat) (s : State) : (msixSend v s).pending = s.pending := by unfold msixSend; split <;> (try split) <;> rfl
@[simp] theorem msixSend_fuse (v : Nat) (s : State) : (msixSend v s).fuse = s.fuse := by unfold msixSend; split <;> (try split) <;> rfl
@[simp] theorem msixSend_now (v : Nat) (s : State) : (msixSend v s).now = s.now := by unfold msixSend; split <;> (try split) <;> rfl
@[simp] theorem msixSend_freeCtr (v : Nat) (s : State) : (msixSend v s).freeCtr = s.freeCtr := by unfold msixSend; split <;> (try split) <;> rfl
@[simp] theorem msixSend_regs (v : Nat) (s : State) : (msixSend v s).regs = s.regs := by unfold msixSend; split <;> (try split) <;> rfl
@[simp] theorem msixSend_evq (v : Nat) (s : State) : (msixSend v s).evq = s.evq := by unfold msixSend; split <;> (try split) <;> rfl
@[simp] theorem msixSend_lanes (v : Nat) (s : State) : (msixSend v s).lanes = s.lanes := by unfold msixSend; split <;> (try split) <;> rfl
@[simp] theorem msixSend_lastLane (v : Nat) (s : State) : (msixSend v s).lastLane = s.lastLane := by unfold msixSend; split <;> (try split) <;> rfl
@[simp] theorem msixSend_pwr (v : Nat) (s : State) : (msixSend v s).pwr = s.pwr := by unfold msixSend; split <;> (try split) <;> rfl
@[simp] theorem msixSend_start (v : Nat) (s : State) : (msixSend v s).start = s.start := by unfold msixSend; split <;> (try split) <;> rfl
@[simp] theorem msixSend_cfg (v : Nat) (s : State) : (msixSend v s).cfg = s.cfg := by unfold msixSend; split <;> (try split) <;> rfl
@[simp] theorem msixSend_rf (v : Nat) (s : State) : (msixSend v s).rf = s.rf := by unfold msixSend; split <;> (try split) <;> rfl
@[simp] theorem msixSend_em (v : Nat) (s : State) : (msixSend v s).em = s.em := by unfold msixSend; split <;> (try split) <;> rfl
@[simp] theorem msixSend_awaiting (v : Nat) (s : State) : (msixSend v s).awaiting = s.awaiting := by unfold msixSend; split <;> (try split) <;> rfl
@[simp] theorem msixSend_time (v : Nat) (s : State) : (msixSend v s).time = s.time := by unfold msixSend; split <;> (try split) <;> rfl
@[simp] theorem msixSend_diag (v : Nat) (s : State) : (msixSend v s).diag = s.diag := by unfold msixSend; split <;> (try split) <;> rfl
@[simp] theorem msixSend_lst (v : Nat) (s : State) : (msixSend v s).lst = s.lst := by unfold msixSend; split <;> (try split) <;> rfl
@[simp] theorem msixSend_recs (v : Nat) (s : State) : (msixSend v s).recs = s.recs := by unfold msixSend; split <;> (try split) <;> rfl
@[simp] theorem msixSend_nextRec (v : Nat) (s : State) : (msixSend v s).nextRec = s.nextRec := by unfold msixSend; split <;> (try split) <;> rfl
@[simp] theorem msixSend_nbrs (v : Nat) (s : State) : (msixSend v s).nbrs = s.nbrs := by unfold msixSend; split <;> (try split) <;> rfl
@[simp] theorem msixSend_persist (v : Nat) (s : State) : (msixSend v s).persist = s.persist := by unfold msixSend; split <;> (try split) <;> rfl
@[simp] theorem msixSend_trf (v : Nat) (s : State) : (msixSend v s).trf = s.trf := by unfold msixSend; split <;> (try split) <;> rfl
@[simp] theorem msixSend_fwd (v : Nat) (s : State) : (msixSend v s).fwd = s.fwd := by unfold msixSend; split <;> (try split) <;> rfl
@[simp] theorem msixSend_slm (v : Nat) (s : State) : (msixSend v s).slm = s.slm := by unfold msixSend; split <;> (try split) <;> rfl
@[simp] theorem msixSend_gt (v : Nat) (s : State) : (msixSend v s).gt = s.gt := by unfold msixSend; split <;> (try split) <;> rfl
@[simp] theorem msixSend_keys (v : Nat) (s : State) : (msixSend v s).keys = s.keys := by unfold msixSend; split <;> (try split) <;> rfl
@[simp] theorem msixSend_yow (v : Nat) (s : State) : (msixSend v s).yow = s.yow := by unfold msixSend; split <;> (try split) <;> rfl
@[simp] theorem msixSend_torch (v : Nat) (s : State) : (msixSend v s).torch = s.torch := by unfold msixSend; split <;> (try split) <;> rfl
@[simp] theorem msixSend_upd (v : Nat) (s : State) : (msixSend v s).upd = s.upd := by unfold msixSend; split <;> (try split) <;> rfl
@[simp] theorem getF_msixSend (v : Nat) (g : Field) (j : Nat) (s : State) : getF g j (msixSend v s) = getF g j s := by simp [getF]
@[simp] theorem getB_msixSend (v : Nat) (g : Field) (j : Nat) (s : State) : getB g j (msixSend v s) = getB g j s := by simp [getB]
@[simp] theorem getI_msixSend (v : Nat) (g : Field) (j : Nat) (s : State) : getI g j (msixSend v s) = getI g j s := by simp [getI]
@[simp] theorem paramOpt_msixSend (v : Nat) (id r : Nat) (s : State) : paramOpt (msixSend v s) id r = paramOpt s id r := by simp [paramOpt]
@[simp] theorem param_msixSend (v : Nat) (id r : Nat) (s : State) : param (msixSend v s) id r = param s id r := by simp [param]
@[simp] theorem paramW_msixSend (v : Nat) (id r k : Nat) (s : State) : paramW (msixSend v s) id r k = paramW s id r k := by simp [paramW]
@[simp] theorem paramF_msixSend (v : Nat) (id r k hi lo : Nat) (s : State) : paramF (msixSend v s) id r k hi lo = paramF s id r k hi lo := by simp [paramF]
@[simp] theorem laneOf_msixSend (v : Nat) (k : Nat) (s : State) : lane (msixSend v s) k = lane s k := by simp [lane]
@[simp] theorem rfOf_msixSend (v : Nat) (k : Nat) (s : State) : rf (msixSend v s) k = rf s k := by simp [rf]
@[simp] theorem emOf_msixSend (v : Nat) (k : Nat) (s : State) : em (msixSend v s) k = em s k := by simp [em]

/-! laneSignal. -/
@[simp] theorem laneSignal_pending (n : Nat) (s : State) : (laneSignal n s).pending = s.pending := by unfold laneSignal; split <;> simp
@[simp] theorem laneSignal_fuse (n : Nat) (s : State) : (laneSignal n s).fuse = s.fuse := by unfold laneSignal; split <;> simp
@[simp] theorem laneSignal_now (n : Nat) (s : State) : (laneSignal n s).now = s.now := by unfold laneSignal; split <;> simp
@[simp] theorem laneSignal_freeCtr (n : Nat) (s : State) : (laneSignal n s).freeCtr = s.freeCtr := by unfold laneSignal; split <;> simp
@[simp] theorem laneSignal_regs (n : Nat) (s : State) : (laneSignal n s).regs = s.regs := by unfold laneSignal; split <;> simp
@[simp] theorem laneSignal_evq (n : Nat) (s : State) : (laneSignal n s).evq = s.evq := by unfold laneSignal; split <;> simp
@[simp] theorem laneSignal_lanes (n : Nat) (s : State) : (laneSignal n s).lanes = s.lanes := by unfold laneSignal; split <;> simp
@[simp] theorem laneSignal_lastLane (n : Nat) (s : State) : (laneSignal n s).lastLane = s.lastLane := by unfold laneSignal; split <;> simp
@[simp] theorem laneSignal_pwr (n : Nat) (s : State) : (laneSignal n s).pwr = s.pwr := by unfold laneSignal; split <;> simp
@[simp] theorem laneSignal_start (n : Nat) (s : State) : (laneSignal n s).start = s.start := by unfold laneSignal; split <;> simp
@[simp] theorem laneSignal_cfg (n : Nat) (s : State) : (laneSignal n s).cfg = s.cfg := by unfold laneSignal; split <;> simp
@[simp] theorem laneSignal_rf (n : Nat) (s : State) : (laneSignal n s).rf = s.rf := by unfold laneSignal; split <;> simp
@[simp] theorem laneSignal_em (n : Nat) (s : State) : (laneSignal n s).em = s.em := by unfold laneSignal; split <;> simp
@[simp] theorem laneSignal_awaiting (n : Nat) (s : State) : (laneSignal n s).awaiting = s.awaiting := by unfold laneSignal; split <;> simp
@[simp] theorem laneSignal_time (n : Nat) (s : State) : (laneSignal n s).time = s.time := by unfold laneSignal; split <;> simp
@[simp] theorem laneSignal_diag (n : Nat) (s : State) : (laneSignal n s).diag = s.diag := by unfold laneSignal; split <;> simp
@[simp] theorem laneSignal_lst (n : Nat) (s : State) : (laneSignal n s).lst = s.lst := by unfold laneSignal; split <;> simp
@[simp] theorem laneSignal_recs (n : Nat) (s : State) : (laneSignal n s).recs = s.recs := by unfold laneSignal; split <;> simp
@[simp] theorem laneSignal_nextRec (n : Nat) (s : State) : (laneSignal n s).nextRec = s.nextRec := by unfold laneSignal; split <;> simp
@[simp] theorem laneSignal_nbrs (n : Nat) (s : State) : (laneSignal n s).nbrs = s.nbrs := by unfold laneSignal; split <;> simp
@[simp] theorem laneSignal_persist (n : Nat) (s : State) : (laneSignal n s).persist = s.persist := by unfold laneSignal; split <;> simp
@[simp] theorem laneSignal_trf (n : Nat) (s : State) : (laneSignal n s).trf = s.trf := by unfold laneSignal; split <;> simp
@[simp] theorem laneSignal_fwd (n : Nat) (s : State) : (laneSignal n s).fwd = s.fwd := by unfold laneSignal; split <;> simp
@[simp] theorem laneSignal_slm (n : Nat) (s : State) : (laneSignal n s).slm = s.slm := by unfold laneSignal; split <;> simp
@[simp] theorem laneSignal_gt (n : Nat) (s : State) : (laneSignal n s).gt = s.gt := by unfold laneSignal; split <;> simp
@[simp] theorem laneSignal_keys (n : Nat) (s : State) : (laneSignal n s).keys = s.keys := by unfold laneSignal; split <;> simp
@[simp] theorem laneSignal_yow (n : Nat) (s : State) : (laneSignal n s).yow = s.yow := by unfold laneSignal; split <;> simp
@[simp] theorem laneSignal_torch (n : Nat) (s : State) : (laneSignal n s).torch = s.torch := by unfold laneSignal; split <;> simp
@[simp] theorem laneSignal_upd (n : Nat) (s : State) : (laneSignal n s).upd = s.upd := by unfold laneSignal; split <;> simp
@[simp] theorem getF_laneSignal (n : Nat) (g : Field) (j : Nat) (s : State) : getF g j (laneSignal n s) = getF g j s := by simp [getF]
@[simp] theorem getB_laneSignal (n : Nat) (g : Field) (j : Nat) (s : State) : getB g j (laneSignal n s) = getB g j s := by simp [getB]
@[simp] theorem getI_laneSignal (n : Nat) (g : Field) (j : Nat) (s : State) : getI g j (laneSignal n s) = getI g j s := by simp [getI]
@[simp] theorem paramOpt_laneSignal (n : Nat) (id r : Nat) (s : State) : paramOpt (laneSignal n s) id r = paramOpt s id r := by simp [paramOpt]
@[simp] theorem param_laneSignal (n : Nat) (id r : Nat) (s : State) : param (laneSignal n s) id r = param s id r := by simp [param]
@[simp] theorem paramW_laneSignal (n : Nat) (id r k : Nat) (s : State) : paramW (laneSignal n s) id r k = paramW s id r k := by simp [paramW]
@[simp] theorem paramF_laneSignal (n : Nat) (id r k hi lo : Nat) (s : State) : paramF (laneSignal n s) id r k hi lo = paramF s id r k hi lo := by simp [paramF]
@[simp] theorem laneOf_laneSignal (n : Nat) (k : Nat) (s : State) : lane (laneSignal n s) k = lane s k := by simp [lane]
@[simp] theorem rfOf_laneSignal (n : Nat) (k : Nat) (s : State) : rf (laneSignal n s) k = rf s k := by simp [rf]
@[simp] theorem emOf_laneSignal (n : Nat) (k : Nat) (s : State) : em (laneSignal n s) k = em s k := by simp [em]

/-! laneWrite. -/
@[simp] theorem laneWrite_pending (n : Nat) (ws : List Word) (s : State) : (laneWrite n ws s).pending = s.pending := by unfold laneWrite; dsimp only; split <;> simp
@[simp] theorem laneWrite_fuse (n : Nat) (ws : List Word) (s : State) : (laneWrite n ws s).fuse = s.fuse := by unfold laneWrite; dsimp only; split <;> simp
@[simp] theorem laneWrite_now (n : Nat) (ws : List Word) (s : State) : (laneWrite n ws s).now = s.now := by unfold laneWrite; dsimp only; split <;> simp
@[simp] theorem laneWrite_freeCtr (n : Nat) (ws : List Word) (s : State) : (laneWrite n ws s).freeCtr = s.freeCtr := by unfold laneWrite; dsimp only; split <;> simp
@[simp] theorem laneWrite_regs (n : Nat) (ws : List Word) (s : State) : (laneWrite n ws s).regs = s.regs := by unfold laneWrite; dsimp only; split <;> simp
@[simp] theorem laneWrite_evq (n : Nat) (ws : List Word) (s : State) : (laneWrite n ws s).evq = s.evq := by unfold laneWrite; dsimp only; split <;> simp
@[simp] theorem laneWrite_lastLane (n : Nat) (ws : List Word) (s : State) : (laneWrite n ws s).lastLane = s.lastLane := by unfold laneWrite; dsimp only; split <;> simp
@[simp] theorem laneWrite_pwr (n : Nat) (ws : List Word) (s : State) : (laneWrite n ws s).pwr = s.pwr := by unfold laneWrite; dsimp only; split <;> simp
@[simp] theorem laneWrite_start (n : Nat) (ws : List Word) (s : State) : (laneWrite n ws s).start = s.start := by unfold laneWrite; dsimp only; split <;> simp
@[simp] theorem laneWrite_cfg (n : Nat) (ws : List Word) (s : State) : (laneWrite n ws s).cfg = s.cfg := by unfold laneWrite; dsimp only; split <;> simp
@[simp] theorem laneWrite_rf (n : Nat) (ws : List Word) (s : State) : (laneWrite n ws s).rf = s.rf := by unfold laneWrite; dsimp only; split <;> simp
@[simp] theorem laneWrite_em (n : Nat) (ws : List Word) (s : State) : (laneWrite n ws s).em = s.em := by unfold laneWrite; dsimp only; split <;> simp
@[simp] theorem laneWrite_awaiting (n : Nat) (ws : List Word) (s : State) : (laneWrite n ws s).awaiting = s.awaiting := by unfold laneWrite; dsimp only; split <;> simp
@[simp] theorem laneWrite_time (n : Nat) (ws : List Word) (s : State) : (laneWrite n ws s).time = s.time := by unfold laneWrite; dsimp only; split <;> simp
@[simp] theorem laneWrite_diag (n : Nat) (ws : List Word) (s : State) : (laneWrite n ws s).diag = s.diag := by unfold laneWrite; dsimp only; split <;> simp
@[simp] theorem laneWrite_lst (n : Nat) (ws : List Word) (s : State) : (laneWrite n ws s).lst = s.lst := by unfold laneWrite; dsimp only; split <;> simp
@[simp] theorem laneWrite_recs (n : Nat) (ws : List Word) (s : State) : (laneWrite n ws s).recs = s.recs := by unfold laneWrite; dsimp only; split <;> simp
@[simp] theorem laneWrite_nextRec (n : Nat) (ws : List Word) (s : State) : (laneWrite n ws s).nextRec = s.nextRec := by unfold laneWrite; dsimp only; split <;> simp
@[simp] theorem laneWrite_nbrs (n : Nat) (ws : List Word) (s : State) : (laneWrite n ws s).nbrs = s.nbrs := by unfold laneWrite; dsimp only; split <;> simp
@[simp] theorem laneWrite_persist (n : Nat) (ws : List Word) (s : State) : (laneWrite n ws s).persist = s.persist := by unfold laneWrite; dsimp only; split <;> simp
@[simp] theorem laneWrite_trf (n : Nat) (ws : List Word) (s : State) : (laneWrite n ws s).trf = s.trf := by unfold laneWrite; dsimp only; split <;> simp
@[simp] theorem laneWrite_fwd (n : Nat) (ws : List Word) (s : State) : (laneWrite n ws s).fwd = s.fwd := by unfold laneWrite; dsimp only; split <;> simp
@[simp] theorem laneWrite_slm (n : Nat) (ws : List Word) (s : State) : (laneWrite n ws s).slm = s.slm := by unfold laneWrite; dsimp only; split <;> simp
@[simp] theorem laneWrite_gt (n : Nat) (ws : List Word) (s : State) : (laneWrite n ws s).gt = s.gt := by unfold laneWrite; dsimp only; split <;> simp
@[simp] theorem laneWrite_keys (n : Nat) (ws : List Word) (s : State) : (laneWrite n ws s).keys = s.keys := by unfold laneWrite; dsimp only; split <;> simp
@[simp] theorem laneWrite_yow (n : Nat) (ws : List Word) (s : State) : (laneWrite n ws s).yow = s.yow := by unfold laneWrite; dsimp only; split <;> simp
@[simp] theorem laneWrite_torch (n : Nat) (ws : List Word) (s : State) : (laneWrite n ws s).torch = s.torch := by unfold laneWrite; dsimp only; split <;> simp
@[simp] theorem laneWrite_upd (n : Nat) (ws : List Word) (s : State) : (laneWrite n ws s).upd = s.upd := by unfold laneWrite; dsimp only; split <;> simp
@[simp] theorem getF_laneWrite (n : Nat) (ws : List Word) (g : Field) (j : Nat) (s : State) : getF g j (laneWrite n ws s) = getF g j s := by simp [getF]
@[simp] theorem getB_laneWrite (n : Nat) (ws : List Word) (g : Field) (j : Nat) (s : State) : getB g j (laneWrite n ws s) = getB g j s := by simp [getB]
@[simp] theorem getI_laneWrite (n : Nat) (ws : List Word) (g : Field) (j : Nat) (s : State) : getI g j (laneWrite n ws s) = getI g j s := by simp [getI]
@[simp] theorem paramOpt_laneWrite (n : Nat) (ws : List Word) (id r : Nat) (s : State) : paramOpt (laneWrite n ws s) id r = paramOpt s id r := by simp [paramOpt]
@[simp] theorem param_laneWrite (n : Nat) (ws : List Word) (id r : Nat) (s : State) : param (laneWrite n ws s) id r = param s id r := by simp [param]
@[simp] theorem paramW_laneWrite (n : Nat) (ws : List Word) (id r k : Nat) (s : State) : paramW (laneWrite n ws s) id r k = paramW s id r k := by simp [paramW]
@[simp] theorem paramF_laneWrite (n : Nat) (ws : List Word) (id r k hi lo : Nat) (s : State) : paramF (laneWrite n ws s) id r k hi lo = paramF s id r k hi lo := by simp [paramF]
@[simp] theorem rfOf_laneWrite (n : Nat) (ws : List Word) (k : Nat) (s : State) : rf (laneWrite n ws s) k = rf s k := by simp [rf]
@[simp] theorem emOf_laneWrite (n : Nat) (ws : List Word) (k : Nat) (s : State) : em (laneWrite n ws s) k = em s k := by simp [em]

/-! laneErrorDue. -/
@[simp] theorem laneErrorDue_pending (n : Nat) (s : State) : (laneErrorDue n s).pending = s.pending := by unfold laneErrorDue; dsimp only; split <;> simp
@[simp] theorem laneErrorDue_fuse (n : Nat) (s : State) : (laneErrorDue n s).fuse = s.fuse := by unfold laneErrorDue; dsimp only; split <;> simp
@[simp] theorem laneErrorDue_now (n : Nat) (s : State) : (laneErrorDue n s).now = s.now := by unfold laneErrorDue; dsimp only; split <;> simp
@[simp] theorem laneErrorDue_freeCtr (n : Nat) (s : State) : (laneErrorDue n s).freeCtr = s.freeCtr := by unfold laneErrorDue; dsimp only; split <;> simp
@[simp] theorem laneErrorDue_regs (n : Nat) (s : State) : (laneErrorDue n s).regs = s.regs := by unfold laneErrorDue; dsimp only; split <;> simp
@[simp] theorem laneErrorDue_evq (n : Nat) (s : State) : (laneErrorDue n s).evq = s.evq := by unfold laneErrorDue; dsimp only; split <;> simp
@[simp] theorem laneErrorDue_lastLane (n : Nat) (s : State) : (laneErrorDue n s).lastLane = s.lastLane := by unfold laneErrorDue; dsimp only; split <;> simp
@[simp] theorem laneErrorDue_pwr (n : Nat) (s : State) : (laneErrorDue n s).pwr = s.pwr := by unfold laneErrorDue; dsimp only; split <;> simp
@[simp] theorem laneErrorDue_start (n : Nat) (s : State) : (laneErrorDue n s).start = s.start := by unfold laneErrorDue; dsimp only; split <;> simp
@[simp] theorem laneErrorDue_cfg (n : Nat) (s : State) : (laneErrorDue n s).cfg = s.cfg := by unfold laneErrorDue; dsimp only; split <;> simp
@[simp] theorem laneErrorDue_rf (n : Nat) (s : State) : (laneErrorDue n s).rf = s.rf := by unfold laneErrorDue; dsimp only; split <;> simp
@[simp] theorem laneErrorDue_em (n : Nat) (s : State) : (laneErrorDue n s).em = s.em := by unfold laneErrorDue; dsimp only; split <;> simp
@[simp] theorem laneErrorDue_awaiting (n : Nat) (s : State) : (laneErrorDue n s).awaiting = s.awaiting := by unfold laneErrorDue; dsimp only; split <;> simp
@[simp] theorem laneErrorDue_time (n : Nat) (s : State) : (laneErrorDue n s).time = s.time := by unfold laneErrorDue; dsimp only; split <;> simp
@[simp] theorem laneErrorDue_diag (n : Nat) (s : State) : (laneErrorDue n s).diag = s.diag := by unfold laneErrorDue; dsimp only; split <;> simp
@[simp] theorem laneErrorDue_lst (n : Nat) (s : State) : (laneErrorDue n s).lst = s.lst := by unfold laneErrorDue; dsimp only; split <;> simp
@[simp] theorem laneErrorDue_recs (n : Nat) (s : State) : (laneErrorDue n s).recs = s.recs := by unfold laneErrorDue; dsimp only; split <;> simp
@[simp] theorem laneErrorDue_nextRec (n : Nat) (s : State) : (laneErrorDue n s).nextRec = s.nextRec := by unfold laneErrorDue; dsimp only; split <;> simp
@[simp] theorem laneErrorDue_nbrs (n : Nat) (s : State) : (laneErrorDue n s).nbrs = s.nbrs := by unfold laneErrorDue; dsimp only; split <;> simp
@[simp] theorem laneErrorDue_persist (n : Nat) (s : State) : (laneErrorDue n s).persist = s.persist := by unfold laneErrorDue; dsimp only; split <;> simp
@[simp] theorem laneErrorDue_trf (n : Nat) (s : State) : (laneErrorDue n s).trf = s.trf := by unfold laneErrorDue; dsimp only; split <;> simp
@[simp] theorem laneErrorDue_fwd (n : Nat) (s : State) : (laneErrorDue n s).fwd = s.fwd := by unfold laneErrorDue; dsimp only; split <;> simp
@[simp] theorem laneErrorDue_slm (n : Nat) (s : State) : (laneErrorDue n s).slm = s.slm := by unfold laneErrorDue; dsimp only; split <;> simp
@[simp] theorem laneErrorDue_gt (n : Nat) (s : State) : (laneErrorDue n s).gt = s.gt := by unfold laneErrorDue; dsimp only; split <;> simp
@[simp] theorem laneErrorDue_keys (n : Nat) (s : State) : (laneErrorDue n s).keys = s.keys := by unfold laneErrorDue; dsimp only; split <;> simp
@[simp] theorem laneErrorDue_yow (n : Nat) (s : State) : (laneErrorDue n s).yow = s.yow := by unfold laneErrorDue; dsimp only; split <;> simp
@[simp] theorem laneErrorDue_torch (n : Nat) (s : State) : (laneErrorDue n s).torch = s.torch := by unfold laneErrorDue; dsimp only; split <;> simp
@[simp] theorem laneErrorDue_upd (n : Nat) (s : State) : (laneErrorDue n s).upd = s.upd := by unfold laneErrorDue; dsimp only; split <;> simp
@[simp] theorem getF_laneErrorDue (n : Nat) (g : Field) (j : Nat) (s : State) : getF g j (laneErrorDue n s) = getF g j s := by simp [getF]
@[simp] theorem getB_laneErrorDue (n : Nat) (g : Field) (j : Nat) (s : State) : getB g j (laneErrorDue n s) = getB g j s := by simp [getB]
@[simp] theorem getI_laneErrorDue (n : Nat) (g : Field) (j : Nat) (s : State) : getI g j (laneErrorDue n s) = getI g j s := by simp [getI]
@[simp] theorem paramOpt_laneErrorDue (n : Nat) (id r : Nat) (s : State) : paramOpt (laneErrorDue n s) id r = paramOpt s id r := by simp [paramOpt]
@[simp] theorem param_laneErrorDue (n : Nat) (id r : Nat) (s : State) : param (laneErrorDue n s) id r = param s id r := by simp [param]
@[simp] theorem paramW_laneErrorDue (n : Nat) (id r k : Nat) (s : State) : paramW (laneErrorDue n s) id r k = paramW s id r k := by simp [paramW]
@[simp] theorem paramF_laneErrorDue (n : Nat) (id r k hi lo : Nat) (s : State) : paramF (laneErrorDue n s) id r k hi lo = paramF s id r k hi lo := by simp [paramF]
@[simp] theorem rfOf_laneErrorDue (n : Nat) (k : Nat) (s : State) : rf (laneErrorDue n s) k = rf s k := by simp [rf]
@[simp] theorem emOf_laneErrorDue (n : Nat) (k : Nat) (s : State) : em (laneErrorDue n s) k = em s k := by simp [em]

/-! respond. -/
@[simp] theorem respond_pending (n : Nat) (tag : Byte) (st : Status) (ws : List Word) (s : State) : (respond n tag st ws s).pending = s.pending := by unfold respond; dsimp only; split <;> (try split) <;> simp
@[simp] theorem respond_fuse (n : Nat) (tag : Byte) (st : Status) (ws : List Word) (s : State) : (respond n tag st ws s).fuse = s.fuse := by unfold respond; dsimp only; split <;> (try split) <;> simp
@[simp] theorem respond_now (n : Nat) (tag : Byte) (st : Status) (ws : List Word) (s : State) : (respond n tag st ws s).now = s.now := by unfold respond; dsimp only; split <;> (try split) <;> simp
@[simp] theorem respond_freeCtr (n : Nat) (tag : Byte) (st : Status) (ws : List Word) (s : State) : (respond n tag st ws s).freeCtr = s.freeCtr := by unfold respond; dsimp only; split <;> (try split) <;> simp
@[simp] theorem respond_regs (n : Nat) (tag : Byte) (st : Status) (ws : List Word) (s : State) : (respond n tag st ws s).regs = s.regs := by unfold respond; dsimp only; split <;> (try split) <;> simp
@[simp] theorem respond_evq (n : Nat) (tag : Byte) (st : Status) (ws : List Word) (s : State) : (respond n tag st ws s).evq = s.evq := by unfold respond; dsimp only; split <;> (try split) <;> simp
@[simp] theorem respond_lastLane (n : Nat) (tag : Byte) (st : Status) (ws : List Word) (s : State) : (respond n tag st ws s).lastLane = s.lastLane := by unfold respond; dsimp only; split <;> (try split) <;> simp
@[simp] theorem respond_pwr (n : Nat) (tag : Byte) (st : Status) (ws : List Word) (s : State) : (respond n tag st ws s).pwr = s.pwr := by unfold respond; dsimp only; split <;> (try split) <;> simp
@[simp] theorem respond_start (n : Nat) (tag : Byte) (st : Status) (ws : List Word) (s : State) : (respond n tag st ws s).start = s.start := by unfold respond; dsimp only; split <;> (try split) <;> simp
@[simp] theorem respond_cfg (n : Nat) (tag : Byte) (st : Status) (ws : List Word) (s : State) : (respond n tag st ws s).cfg = s.cfg := by unfold respond; dsimp only; split <;> (try split) <;> simp
@[simp] theorem respond_rf (n : Nat) (tag : Byte) (st : Status) (ws : List Word) (s : State) : (respond n tag st ws s).rf = s.rf := by unfold respond; dsimp only; split <;> (try split) <;> simp
@[simp] theorem respond_em (n : Nat) (tag : Byte) (st : Status) (ws : List Word) (s : State) : (respond n tag st ws s).em = s.em := by unfold respond; dsimp only; split <;> (try split) <;> simp
@[simp] theorem respond_awaiting (n : Nat) (tag : Byte) (st : Status) (ws : List Word) (s : State) : (respond n tag st ws s).awaiting = s.awaiting := by unfold respond; dsimp only; split <;> (try split) <;> simp
@[simp] theorem respond_time (n : Nat) (tag : Byte) (st : Status) (ws : List Word) (s : State) : (respond n tag st ws s).time = s.time := by unfold respond; dsimp only; split <;> (try split) <;> simp
@[simp] theorem respond_diag (n : Nat) (tag : Byte) (st : Status) (ws : List Word) (s : State) : (respond n tag st ws s).diag = s.diag := by unfold respond; dsimp only; split <;> (try split) <;> simp
@[simp] theorem respond_lst (n : Nat) (tag : Byte) (st : Status) (ws : List Word) (s : State) : (respond n tag st ws s).lst = s.lst := by unfold respond; dsimp only; split <;> (try split) <;> simp
@[simp] theorem respond_recs (n : Nat) (tag : Byte) (st : Status) (ws : List Word) (s : State) : (respond n tag st ws s).recs = s.recs := by unfold respond; dsimp only; split <;> (try split) <;> simp
@[simp] theorem respond_nextRec (n : Nat) (tag : Byte) (st : Status) (ws : List Word) (s : State) : (respond n tag st ws s).nextRec = s.nextRec := by unfold respond; dsimp only; split <;> (try split) <;> simp
@[simp] theorem respond_nbrs (n : Nat) (tag : Byte) (st : Status) (ws : List Word) (s : State) : (respond n tag st ws s).nbrs = s.nbrs := by unfold respond; dsimp only; split <;> (try split) <;> simp
@[simp] theorem respond_persist (n : Nat) (tag : Byte) (st : Status) (ws : List Word) (s : State) : (respond n tag st ws s).persist = s.persist := by unfold respond; dsimp only; split <;> (try split) <;> simp
@[simp] theorem respond_trf (n : Nat) (tag : Byte) (st : Status) (ws : List Word) (s : State) : (respond n tag st ws s).trf = s.trf := by unfold respond; dsimp only; split <;> (try split) <;> simp
@[simp] theorem respond_fwd (n : Nat) (tag : Byte) (st : Status) (ws : List Word) (s : State) : (respond n tag st ws s).fwd = s.fwd := by unfold respond; dsimp only; split <;> (try split) <;> simp
@[simp] theorem respond_slm (n : Nat) (tag : Byte) (st : Status) (ws : List Word) (s : State) : (respond n tag st ws s).slm = s.slm := by unfold respond; dsimp only; split <;> (try split) <;> simp
@[simp] theorem respond_gt (n : Nat) (tag : Byte) (st : Status) (ws : List Word) (s : State) : (respond n tag st ws s).gt = s.gt := by unfold respond; dsimp only; split <;> (try split) <;> simp
@[simp] theorem respond_keys (n : Nat) (tag : Byte) (st : Status) (ws : List Word) (s : State) : (respond n tag st ws s).keys = s.keys := by unfold respond; dsimp only; split <;> (try split) <;> simp
@[simp] theorem respond_yow (n : Nat) (tag : Byte) (st : Status) (ws : List Word) (s : State) : (respond n tag st ws s).yow = s.yow := by unfold respond; dsimp only; split <;> (try split) <;> simp
@[simp] theorem respond_torch (n : Nat) (tag : Byte) (st : Status) (ws : List Word) (s : State) : (respond n tag st ws s).torch = s.torch := by unfold respond; dsimp only; split <;> (try split) <;> simp
@[simp] theorem respond_upd (n : Nat) (tag : Byte) (st : Status) (ws : List Word) (s : State) : (respond n tag st ws s).upd = s.upd := by unfold respond; dsimp only; split <;> (try split) <;> simp
@[simp] theorem getF_respond (n : Nat) (tag : Byte) (st : Status) (ws : List Word) (g : Field) (j : Nat) (s : State) : getF g j (respond n tag st ws s) = getF g j s := by simp [getF]
@[simp] theorem getB_respond (n : Nat) (tag : Byte) (st : Status) (ws : List Word) (g : Field) (j : Nat) (s : State) : getB g j (respond n tag st ws s) = getB g j s := by simp [getB]
@[simp] theorem getI_respond (n : Nat) (tag : Byte) (st : Status) (ws : List Word) (g : Field) (j : Nat) (s : State) : getI g j (respond n tag st ws s) = getI g j s := by simp [getI]
@[simp] theorem paramOpt_respond (n : Nat) (tag : Byte) (st : Status) (ws : List Word) (id r : Nat) (s : State) : paramOpt (respond n tag st ws s) id r = paramOpt s id r := by simp [paramOpt]
@[simp] theorem param_respond (n : Nat) (tag : Byte) (st : Status) (ws : List Word) (id r : Nat) (s : State) : param (respond n tag st ws s) id r = param s id r := by simp [param]
@[simp] theorem paramW_respond (n : Nat) (tag : Byte) (st : Status) (ws : List Word) (id r k : Nat) (s : State) : paramW (respond n tag st ws s) id r k = paramW s id r k := by simp [paramW]
@[simp] theorem paramF_respond (n : Nat) (tag : Byte) (st : Status) (ws : List Word) (id r k hi lo : Nat) (s : State) : paramF (respond n tag st ws s) id r k hi lo = paramF s id r k hi lo := by simp [paramF]
@[simp] theorem rfOf_respond (n : Nat) (tag : Byte) (st : Status) (ws : List Word) (k : Nat) (s : State) : rf (respond n tag st ws s) k = rf s k := by simp [rf]
@[simp] theorem emOf_respond (n : Nat) (tag : Byte) (st : Status) (ws : List Word) (k : Nat) (s : State) : em (respond n tag st ws s) k = em s k := by simp [em]

/-! elapse. -/
@[simp] theorem elapse_pending (n : Nat) (s : State) : (elapse n s).pending = s.pending := by unfold elapse; dsimp only; split <;> simp
@[simp] theorem elapse_fuse (n : Nat) (s : State) : (elapse n s).fuse = s.fuse := by unfold elapse; dsimp only; split <;> simp
@[simp] theorem elapse_freeCtr (n : Nat) (s : State) : (elapse n s).freeCtr = s.freeCtr := by unfold elapse; dsimp only; split <;> simp
@[simp] theorem elapse_outs (n : Nat) (s : State) : (elapse n s).outs = s.outs := by unfold elapse; dsimp only; split <;> simp
@[simp] theorem elapse_regs (n : Nat) (s : State) : (elapse n s).regs = s.regs := by unfold elapse; dsimp only; split <;> simp
@[simp] theorem elapse_evq (n : Nat) (s : State) : (elapse n s).evq = s.evq := by unfold elapse; dsimp only; split <;> simp
@[simp] theorem elapse_lanes (n : Nat) (s : State) : (elapse n s).lanes = s.lanes := by unfold elapse; dsimp only; split <;> simp
@[simp] theorem elapse_lastLane (n : Nat) (s : State) : (elapse n s).lastLane = s.lastLane := by unfold elapse; dsimp only; split <;> simp
@[simp] theorem elapse_pwr (n : Nat) (s : State) : (elapse n s).pwr = s.pwr := by unfold elapse; dsimp only; split <;> simp
@[simp] theorem elapse_start (n : Nat) (s : State) : (elapse n s).start = s.start := by unfold elapse; dsimp only; split <;> simp
@[simp] theorem elapse_cfg (n : Nat) (s : State) : (elapse n s).cfg = s.cfg := by unfold elapse; dsimp only; split <;> simp
@[simp] theorem elapse_rf (n : Nat) (s : State) : (elapse n s).rf = s.rf := by unfold elapse; dsimp only; split <;> simp
@[simp] theorem elapse_em (n : Nat) (s : State) : (elapse n s).em = s.em := by unfold elapse; dsimp only; split <;> simp
@[simp] theorem elapse_awaiting (n : Nat) (s : State) : (elapse n s).awaiting = s.awaiting := by unfold elapse; dsimp only; split <;> simp
@[simp] theorem elapse_net (n : Nat) (s : State) : (elapse n s).net = s.net := by unfold elapse; dsimp only; split <;> simp
@[simp] theorem elapse_lst (n : Nat) (s : State) : (elapse n s).lst = s.lst := by unfold elapse; dsimp only; split <;> simp
@[simp] theorem elapse_recs (n : Nat) (s : State) : (elapse n s).recs = s.recs := by unfold elapse; dsimp only; split <;> simp
@[simp] theorem elapse_nextRec (n : Nat) (s : State) : (elapse n s).nextRec = s.nextRec := by unfold elapse; dsimp only; split <;> simp
@[simp] theorem elapse_nbrs (n : Nat) (s : State) : (elapse n s).nbrs = s.nbrs := by unfold elapse; dsimp only; split <;> simp
@[simp] theorem elapse_persist (n : Nat) (s : State) : (elapse n s).persist = s.persist := by unfold elapse; dsimp only; split <;> simp
@[simp] theorem elapse_trf (n : Nat) (s : State) : (elapse n s).trf = s.trf := by unfold elapse; dsimp only; split <;> simp
@[simp] theorem elapse_fwd (n : Nat) (s : State) : (elapse n s).fwd = s.fwd := by unfold elapse; dsimp only; split <;> simp
@[simp] theorem elapse_slm (n : Nat) (s : State) : (elapse n s).slm = s.slm := by unfold elapse; dsimp only; split <;> simp
@[simp] theorem elapse_gt (n : Nat) (s : State) : (elapse n s).gt = s.gt := by unfold elapse; dsimp only; split <;> simp
@[simp] theorem elapse_keys (n : Nat) (s : State) : (elapse n s).keys = s.keys := by unfold elapse; dsimp only; split <;> simp
@[simp] theorem elapse_yow (n : Nat) (s : State) : (elapse n s).yow = s.yow := by unfold elapse; dsimp only; split <;> simp
@[simp] theorem elapse_torch (n : Nat) (s : State) : (elapse n s).torch = s.torch := by unfold elapse; dsimp only; split <;> simp
@[simp] theorem elapse_upd (n : Nat) (s : State) : (elapse n s).upd = s.upd := by unfold elapse; dsimp only; split <;> simp
@[simp] theorem getF_elapse (n : Nat) (g : Field) (j : Nat) (s : State) : getF g j (elapse n s) = getF g j s := by simp [getF]
@[simp] theorem getB_elapse (n : Nat) (g : Field) (j : Nat) (s : State) : getB g j (elapse n s) = getB g j s := by simp [getB]
@[simp] theorem getI_elapse (n : Nat) (g : Field) (j : Nat) (s : State) : getI g j (elapse n s) = getI g j s := by simp [getI]
@[simp] theorem paramOpt_elapse (n : Nat) (id r : Nat) (s : State) : paramOpt (elapse n s) id r = paramOpt s id r := by simp [paramOpt]
@[simp] theorem param_elapse (n : Nat) (id r : Nat) (s : State) : param (elapse n s) id r = param s id r := by simp [param]
@[simp] theorem paramW_elapse (n : Nat) (id r k : Nat) (s : State) : paramW (elapse n s) id r k = paramW s id r k := by simp [paramW]
@[simp] theorem paramF_elapse (n : Nat) (id r k hi lo : Nat) (s : State) : paramF (elapse n s) id r k hi lo = paramF s id r k hi lo := by simp [paramF]
@[simp] theorem laneOf_elapse (n : Nat) (k : Nat) (s : State) : lane (elapse n s) k = lane s k := by simp [lane]
@[simp] theorem rfOf_elapse (n : Nat) (k : Nat) (s : State) : rf (elapse n s) k = rf s k := by simp [rf]
@[simp] theorem emOf_elapse (n : Nat) (k : Nat) (s : State) : em (elapse n s) k = em s k := by simp [em]

/-! waitTill. -/
@[simp] theorem waitTill_pending (n : Nat) (s : State) : (waitTill n s).pending = s.pending := by unfold waitTill; split <;> simp
@[simp] theorem waitTill_fuse (n : Nat) (s : State) : (waitTill n s).fuse = s.fuse := by unfold waitTill; split <;> simp
@[simp] theorem waitTill_freeCtr (n : Nat) (s : State) : (waitTill n s).freeCtr = s.freeCtr := by unfold waitTill; split <;> simp
@[simp] theorem waitTill_outs (n : Nat) (s : State) : (waitTill n s).outs = s.outs := by unfold waitTill; split <;> simp
@[simp] theorem waitTill_regs (n : Nat) (s : State) : (waitTill n s).regs = s.regs := by unfold waitTill; split <;> simp
@[simp] theorem waitTill_evq (n : Nat) (s : State) : (waitTill n s).evq = s.evq := by unfold waitTill; split <;> simp
@[simp] theorem waitTill_lanes (n : Nat) (s : State) : (waitTill n s).lanes = s.lanes := by unfold waitTill; split <;> simp
@[simp] theorem waitTill_lastLane (n : Nat) (s : State) : (waitTill n s).lastLane = s.lastLane := by unfold waitTill; split <;> simp
@[simp] theorem waitTill_pwr (n : Nat) (s : State) : (waitTill n s).pwr = s.pwr := by unfold waitTill; split <;> simp
@[simp] theorem waitTill_start (n : Nat) (s : State) : (waitTill n s).start = s.start := by unfold waitTill; split <;> simp
@[simp] theorem waitTill_cfg (n : Nat) (s : State) : (waitTill n s).cfg = s.cfg := by unfold waitTill; split <;> simp
@[simp] theorem waitTill_rf (n : Nat) (s : State) : (waitTill n s).rf = s.rf := by unfold waitTill; split <;> simp
@[simp] theorem waitTill_em (n : Nat) (s : State) : (waitTill n s).em = s.em := by unfold waitTill; split <;> simp
@[simp] theorem waitTill_awaiting (n : Nat) (s : State) : (waitTill n s).awaiting = s.awaiting := by unfold waitTill; split <;> simp
@[simp] theorem waitTill_net (n : Nat) (s : State) : (waitTill n s).net = s.net := by unfold waitTill; split <;> simp
@[simp] theorem waitTill_lst (n : Nat) (s : State) : (waitTill n s).lst = s.lst := by unfold waitTill; split <;> simp
@[simp] theorem waitTill_recs (n : Nat) (s : State) : (waitTill n s).recs = s.recs := by unfold waitTill; split <;> simp
@[simp] theorem waitTill_nextRec (n : Nat) (s : State) : (waitTill n s).nextRec = s.nextRec := by unfold waitTill; split <;> simp
@[simp] theorem waitTill_nbrs (n : Nat) (s : State) : (waitTill n s).nbrs = s.nbrs := by unfold waitTill; split <;> simp
@[simp] theorem waitTill_persist (n : Nat) (s : State) : (waitTill n s).persist = s.persist := by unfold waitTill; split <;> simp
@[simp] theorem waitTill_trf (n : Nat) (s : State) : (waitTill n s).trf = s.trf := by unfold waitTill; split <;> simp
@[simp] theorem waitTill_fwd (n : Nat) (s : State) : (waitTill n s).fwd = s.fwd := by unfold waitTill; split <;> simp
@[simp] theorem waitTill_slm (n : Nat) (s : State) : (waitTill n s).slm = s.slm := by unfold waitTill; split <;> simp
@[simp] theorem waitTill_gt (n : Nat) (s : State) : (waitTill n s).gt = s.gt := by unfold waitTill; split <;> simp
@[simp] theorem waitTill_keys (n : Nat) (s : State) : (waitTill n s).keys = s.keys := by unfold waitTill; split <;> simp
@[simp] theorem waitTill_yow (n : Nat) (s : State) : (waitTill n s).yow = s.yow := by unfold waitTill; split <;> simp
@[simp] theorem waitTill_torch (n : Nat) (s : State) : (waitTill n s).torch = s.torch := by unfold waitTill; split <;> simp
@[simp] theorem waitTill_upd (n : Nat) (s : State) : (waitTill n s).upd = s.upd := by unfold waitTill; split <;> simp
@[simp] theorem getF_waitTill (n : Nat) (g : Field) (j : Nat) (s : State) : getF g j (waitTill n s) = getF g j s := by simp [getF]
@[simp] theorem getB_waitTill (n : Nat) (g : Field) (j : Nat) (s : State) : getB g j (waitTill n s) = getB g j s := by simp [getB]
@[simp] theorem getI_waitTill (n : Nat) (g : Field) (j : Nat) (s : State) : getI g j (waitTill n s) = getI g j s := by simp [getI]
@[simp] theorem paramOpt_waitTill (n : Nat) (id r : Nat) (s : State) : paramOpt (waitTill n s) id r = paramOpt s id r := by simp [paramOpt]
@[simp] theorem param_waitTill (n : Nat) (id r : Nat) (s : State) : param (waitTill n s) id r = param s id r := by simp [param]
@[simp] theorem paramW_waitTill (n : Nat) (id r k : Nat) (s : State) : paramW (waitTill n s) id r k = paramW s id r k := by simp [paramW]
@[simp] theorem paramF_waitTill (n : Nat) (id r k hi lo : Nat) (s : State) : paramF (waitTill n s) id r k hi lo = paramF s id r k hi lo := by simp [paramF]
@[simp] theorem laneOf_waitTill (n : Nat) (k : Nat) (s : State) : lane (waitTill n s) k = lane s k := by simp [lane]
@[simp] theorem rfOf_waitTill (n : Nat) (k : Nat) (s : State) : rf (waitTill n s) k = rf s k := by simp [rf]
@[simp] theorem emOf_waitTill (n : Nat) (k : Nat) (s : State) : em (waitTill n s) k = em s k := by simp [em]

/-! waitKeep. -/
@[simp] theorem waitKeep_pending (n : Nat) (s : State) : (waitKeep n s).pending = s.pending := by unfold waitKeep; split <;> simp
@[simp] theorem waitKeep_fuse (n : Nat) (s : State) : (waitKeep n s).fuse = s.fuse := by unfold waitKeep; split <;> simp
@[simp] theorem waitKeep_freeCtr (n : Nat) (s : State) : (waitKeep n s).freeCtr = s.freeCtr := by unfold waitKeep; split <;> simp
@[simp] theorem waitKeep_outs (n : Nat) (s : State) : (waitKeep n s).outs = s.outs := by unfold waitKeep; split <;> simp
@[simp] theorem waitKeep_regs (n : Nat) (s : State) : (waitKeep n s).regs = s.regs := by unfold waitKeep; split <;> simp
@[simp] theorem waitKeep_evq (n : Nat) (s : State) : (waitKeep n s).evq = s.evq := by unfold waitKeep; split <;> simp
@[simp] theorem waitKeep_lanes (n : Nat) (s : State) : (waitKeep n s).lanes = s.lanes := by unfold waitKeep; split <;> simp
@[simp] theorem waitKeep_lastLane (n : Nat) (s : State) : (waitKeep n s).lastLane = s.lastLane := by unfold waitKeep; split <;> simp
@[simp] theorem waitKeep_pwr (n : Nat) (s : State) : (waitKeep n s).pwr = s.pwr := by unfold waitKeep; split <;> simp
@[simp] theorem waitKeep_start (n : Nat) (s : State) : (waitKeep n s).start = s.start := by unfold waitKeep; split <;> simp
@[simp] theorem waitKeep_cfg (n : Nat) (s : State) : (waitKeep n s).cfg = s.cfg := by unfold waitKeep; split <;> simp
@[simp] theorem waitKeep_rf (n : Nat) (s : State) : (waitKeep n s).rf = s.rf := by unfold waitKeep; split <;> simp
@[simp] theorem waitKeep_em (n : Nat) (s : State) : (waitKeep n s).em = s.em := by unfold waitKeep; split <;> simp
@[simp] theorem waitKeep_awaiting (n : Nat) (s : State) : (waitKeep n s).awaiting = s.awaiting := by unfold waitKeep; split <;> simp
@[simp] theorem waitKeep_net (n : Nat) (s : State) : (waitKeep n s).net = s.net := by unfold waitKeep; split <;> simp
@[simp] theorem waitKeep_lst (n : Nat) (s : State) : (waitKeep n s).lst = s.lst := by unfold waitKeep; split <;> simp
@[simp] theorem waitKeep_recs (n : Nat) (s : State) : (waitKeep n s).recs = s.recs := by unfold waitKeep; split <;> simp
@[simp] theorem waitKeep_nextRec (n : Nat) (s : State) : (waitKeep n s).nextRec = s.nextRec := by unfold waitKeep; split <;> simp
@[simp] theorem waitKeep_nbrs (n : Nat) (s : State) : (waitKeep n s).nbrs = s.nbrs := by unfold waitKeep; split <;> simp
@[simp] theorem waitKeep_persist (n : Nat) (s : State) : (waitKeep n s).persist = s.persist := by unfold waitKeep; split <;> simp
@[simp] theorem waitKeep_trf (n : Nat) (s : State) : (waitKeep n s).trf = s.trf := by unfold waitKeep; split <;> simp
@[simp] theorem waitKeep_fwd (n : Nat) (s : State) : (waitKeep n s).fwd = s.fwd := by unfold waitKeep; split <;> simp
@[simp] theorem waitKeep_slm (n : Nat) (s : State) : (waitKeep n s).slm = s.slm := by unfold waitKeep; split <;> simp
@[simp] theorem waitKeep_gt (n : Nat) (s : State) : (waitKeep n s).gt = s.gt := by unfold waitKeep; split <;> simp
@[simp] theorem waitKeep_keys (n : Nat) (s : State) : (waitKeep n s).keys = s.keys := by unfold waitKeep; split <;> simp
@[simp] theorem waitKeep_yow (n : Nat) (s : State) : (waitKeep n s).yow = s.yow := by unfold waitKeep; split <;> simp
@[simp] theorem waitKeep_torch (n : Nat) (s : State) : (waitKeep n s).torch = s.torch := by unfold waitKeep; split <;> simp
@[simp] theorem waitKeep_upd (n : Nat) (s : State) : (waitKeep n s).upd = s.upd := by unfold waitKeep; split <;> simp
@[simp] theorem getF_waitKeep (n : Nat) (g : Field) (j : Nat) (s : State) : getF g j (waitKeep n s) = getF g j s := by simp [getF]
@[simp] theorem getB_waitKeep (n : Nat) (g : Field) (j : Nat) (s : State) : getB g j (waitKeep n s) = getB g j s := by simp [getB]
@[simp] theorem getI_waitKeep (n : Nat) (g : Field) (j : Nat) (s : State) : getI g j (waitKeep n s) = getI g j s := by simp [getI]
@[simp] theorem paramOpt_waitKeep (n : Nat) (id r : Nat) (s : State) : paramOpt (waitKeep n s) id r = paramOpt s id r := by simp [paramOpt]
@[simp] theorem param_waitKeep (n : Nat) (id r : Nat) (s : State) : param (waitKeep n s) id r = param s id r := by simp [param]
@[simp] theorem paramW_waitKeep (n : Nat) (id r k : Nat) (s : State) : paramW (waitKeep n s) id r k = paramW s id r k := by simp [paramW]
@[simp] theorem paramF_waitKeep (n : Nat) (id r k hi lo : Nat) (s : State) : paramF (waitKeep n s) id r k hi lo = paramF s id r k hi lo := by simp [paramF]
@[simp] theorem laneOf_waitKeep (n : Nat) (k : Nat) (s : State) : lane (waitKeep n s) k = lane s k := by simp [lane]
@[simp] theorem rfOf_waitKeep (n : Nat) (k : Nat) (s : State) : rf (waitKeep n s) k = rf s k := by simp [rf]
@[simp] theorem emOf_waitKeep (n : Nat) (k : Nat) (s : State) : em (waitKeep n s) k = em s k := by simp [em]

end Sys2Proof.Machine
end

