-- ==== Sys2Proof/Laws/Tab.lean ====
section
/-! SUPPORT. What reading a sparse table gives after an entry or a removal, and that both keep its canonical form. -/

namespace Sys2Proof.Machine
open Sys2Proof

variable {α : Type}

@[simp] theorem tabFind_tabPut_same (t : Tab α) (n : Nat) (x : α) : tabFind (tabPut t n x) n = some x := by
  induction t with
  | nil => simp [tabPut, tabFind]
  | cons e t ih =>
    obtain ⟨k, v⟩ := e
    simp only [tabPut]
    split
    · simp [tabFind]
    · split
      · simp [tabFind]
      · simp_all [tabFind]

theorem tabFind_tabPut_ne {m n : Nat} (t : Tab α) (x : α) (h : m ≠ n) : tabFind (tabPut t n x) m = tabFind t m := by
  induction t with
  | nil => simp [tabPut, tabFind, h]
  | cons e t ih =>
    obtain ⟨k, v⟩ := e
    simp only [tabPut]
    split
    · simp [tabFind, h]
    · split
      · simp_all [tabFind]
      · simp [tabFind, ih]

@[simp] theorem tabFind_tabDel_same (t : Tab α) (n : Nat) : tabFind (tabDel t n) n = none := by
  induction t with
  | nil => simp [tabDel, tabFind]
  | cons e t ih =>
    obtain ⟨k, v⟩ := e
    simp only [tabDel]
    split
    · exact ih
    · simp_all [tabFind]

theorem tabFind_tabDel_ne {m n : Nat} (t : Tab α) (h : m ≠ n) : tabFind (tabDel t n) m = tabFind t m := by
  induction t with
  | nil => simp [tabDel]
  | cons e t ih =>
    obtain ⟨k, v⟩ := e
    simp only [tabDel]
    split
    · subst_vars; simp [tabFind, h, ih]
    · simp [tabFind, ih]

@[simp] theorem tabGet_tabPut_same (t : Tab α) (n : Nat) (x d : α) : tabGet (tabPut t n x) n d = x := by simp [tabGet]

theorem tabGet_tabPut_ne {m n : Nat} (t : Tab α) (x d : α) (h : m ≠ n) : tabGet (tabPut t n x) m d = tabGet t m d := by
  simp [tabGet, tabFind_tabPut_ne t x h]

@[simp] theorem tabGet_tabDel_same (t : Tab α) (n : Nat) (d : α) : tabGet (tabDel t n) n d = d := by simp [tabGet]

theorem tabGet_tabDel_ne {m n : Nat} (t : Tab α) (d : α) (h : m ≠ n) : tabGet (tabDel t n) m d = tabGet t m d := by
  simp [tabGet, tabFind_tabDel_ne t h]

@[simp] theorem tabGet_tabSetN_same (t : Tab Nat) (n x : Nat) : tabGet (tabSetN t n x) n 0 = x := by
  unfold tabSetN
  split
  · simp_all
  · simp

theorem tabGet_tabSetN_ne {m n : Nat} (t : Tab Nat) (x d : Nat) (h : m ≠ n) : tabGet (tabSetN t n x) m d = tabGet t m d := by
  unfold tabSetN
  split
  · exact tabGet_tabDel_ne t d h
  · exact tabGet_tabPut_ne t x d h

@[simp] theorem tabFind_nil (n : Nat) : tabFind ([] : Tab α) n = none := rfl
@[simp] theorem tabGet_nil (n : Nat) (d : α) : tabGet ([] : Tab α) n d = d := rfl

/-- The keys rise above a bound. -/
theorem tabRising_weaken {a b : Nat} {t : Tab α} (h : b ≤ a) (w : tabRising (some a) t = true) : tabRising (some b) t = true := by
  cases t with
  | nil => simp [tabRising]
  | cons e t =>
    obtain ⟨k, v⟩ := e
    simp only [tabRising, Bool.and_eq_true, decide_eq_true_eq] at w ⊢
    exact ⟨by omega, w.2⟩

theorem tabRising_tabPut {b : Option Nat} {t : Tab α} {n : Nat} (x : α) (hb : ∀ a, b = some a → a < n)
    (w : tabRising b t = true) : tabRising b (tabPut t n x) = true := by
  induction t generalizing b with
  | nil =>
    cases b with
    | none => simp [tabPut, tabRising]
    | some a => simpa [tabPut, tabRising] using hb a rfl
  | cons e t ih =>
    obtain ⟨k, v⟩ := e
    have hk : tabRising (some k) t = true := by
      cases b <;> simp_all [tabRising]
    simp only [tabPut]
    split
    · rename_i hlt
      cases b with
      | none => simp [tabRising, hlt, hk]
      | some a => simp [tabRising, hlt, hk, hb a rfl]
    · split
      · subst_vars
        cases b <;> simp_all [tabRising]
      · rename_i h1 h2
        have := ih (b := some k) (fun a ha => by injection ha with ha; omega) hk
        cases b with
        | none => simp [tabRising, this]
        | some a =>
          simp only [tabRising, Bool.and_eq_true, decide_eq_true_eq] at w
          simp [tabRising, this, w.1]

theorem tabRising_tabDel {b : Option Nat} {t : Tab α} (n : Nat) (w : tabRising b t = true) : tabRising b (tabDel t n) = true := by
  induction t generalizing b with
  | nil => simpa [tabDel] using w
  | cons e t ih =>
    obtain ⟨k, v⟩ := e
    have hk : tabRising (some k) t = true := by
      cases b <;> simp_all [tabRising]
    simp only [tabDel]
    split
    · cases b with
      | none =>
        have := ih (b := none) (by cases t with
          | nil => simp [tabRising]
          | cons e t => obtain ⟨k', v'⟩ := e; simp_all [tabRising])
        exact this
      | some a =>
        simp only [tabRising, Bool.and_eq_true, decide_eq_true_eq] at w
        exact ih (tabRising_weaken (by omega) w.2)
    · cases b with
      | none => simp [tabRising, ih hk]
      | some a =>
        simp only [tabRising, Bool.and_eq_true, decide_eq_true_eq] at w
        simp [tabRising, ih hk, w.1]

/-- Entering a value keeps the canonical form. -/
theorem tabWf_tabPut {t : Tab α} (n : Nat) (x : α) (w : tabWf t = true) : tabWf (tabPut t n x) = true :=
  tabRising_tabPut x (by simp) w

/-- Removing an entry keeps the canonical form. -/
theorem tabWf_tabDel {t : Tab α} (n : Nat) (w : tabWf t = true) : tabWf (tabDel t n) = true := tabRising_tabDel n w

theorem all_tabPut {t : Tab Nat} {n x : Nat} (hx : x ≠ 0) (h : t.all (fun e => e.2 != 0) = true) :
    (tabPut t n x).all (fun e => e.2 != 0) = true := by
  induction t with
  | nil => simp [tabPut, hx]
  | cons e t ih =>
    obtain ⟨k, v⟩ := e
    simp only [List.all_cons, Bool.and_eq_true] at h
    simp only [tabPut]
    split
    · simp only [List.all_cons, Bool.and_eq_true]
      exact ⟨by simpa using hx, h.1, h.2⟩
    · split
      · simp only [List.all_cons, Bool.and_eq_true]
        exact ⟨by simpa using hx, h.2⟩
      · simp only [List.all_cons, Bool.and_eq_true]
        exact ⟨h.1, ih h.2⟩

theorem all_tabDel {t : Tab Nat} (n : Nat) (h : t.all (fun e => e.2 != 0) = true) :
    (tabDel t n).all (fun e => e.2 != 0) = true := by
  induction t with
  | nil => simp [tabDel]
  | cons e t ih =>
    obtain ⟨k, v⟩ := e
    simp only [List.all_cons, Bool.and_eq_true] at h
    simp only [tabDel]
    split
    · exact ih h.2
    · simp only [List.all_cons, Bool.and_eq_true]
      exact ⟨h.1, ih h.2⟩

/-- Setting a number keeps the canonical form of a table of numbers. -/
theorem tabWfN_tabSetN {t : Tab Nat} (n x : Nat) (w : tabWfN t = true) : tabWfN (tabSetN t n x) = true := by
  simp only [tabWfN, Bool.and_eq_true] at w ⊢
  unfold tabSetN
  split
  · exact ⟨tabWf_tabDel n w.1, all_tabDel n w.2⟩
  · rename_i h
    exact ⟨tabWf_tabPut n x w.1, all_tabPut h w.2⟩

end Sys2Proof.Machine
end

