-- ==== Sys2Proof/Laws/Ops.lean ====
section
/-! SUPPORT. What the shared operations do: register fields, counters, time, events, lanes and responses. -/

namespace Sys2Proof.Machine
open Sys2Proof

/-! A meaning that has run. -/

theorem done_eq (s s' : State) : done s s' = .next { s' with pending := s.pending, fuse := s.fuse } := rfl
/-- A meaning that leaves the state as it is. -/
@[simp] theorem done_self (s : State) : done s s = .next s := rfl
/-- A result that keeps the queue and the fuse word is the next state. -/
theorem done_of_keeps {s s' : State} (hp : s'.pending = s.pending) (hf : s'.fuse = s.fuse) : done s s' = .next s' := by
  cases s'; simp_all [done]

/-! Register fields. -/

/-- A field set reads as the value, in its width. -/
@[simp] theorem getF_setF_same (f : Field) (i v : Nat) (s : State) : getF f i (setF f i v s) = v % 2 ^ f.w := by
  simp [getF, setF, Nat.xor_assoc]
/-- Another field, or another member, reads as before. -/
theorem getF_setF_ne {g f : Field} {j i : Nat} (h : g.key j ≠ f.key i) (v : Nat) (s : State) :
    getF g j (setF f i v s) = getF g j s := by
  simp [getF, setF, tabGet_tabSetN_ne _ _ _ h]
@[simp] theorem getF_setB_same (f : Field) (i : Nat) (b : Bool) (s : State) : getF f i (setB f i b s) = b2n b % 2 ^ f.w := by
  simp [setB]
theorem getF_setB_ne {g f : Field} {j i : Nat} (h : g.key j ≠ f.key i) (b : Bool) (s : State) :
    getF g j (setB f i b s) = getF g j s := getF_setF_ne h _ s
theorem getF_setI_ne {g f : Field} {j i : Nat} (h : g.key j ≠ f.key i) (v : Int) (s : State) :
    getF g j (setI f i v s) = getF g j s := getF_setF_ne h _ s
/-- Two states with the same registers read alike. -/
theorem getF_congr {s t : State} (h : s.regs = t.regs) (f : Field) (i : Nat) : getF f i s = getF f i t := by simp [getF, h]
theorem getB_congr {s t : State} (h : s.regs = t.regs) (f : Field) (i : Nat) : getB f i s = getB f i t := by simp [getB, getF_congr h]

/-- A counter field counts, saturating at its width. -/
theorem getF_countBy_same (f : Field) (i n : Nat) (s : State) : getF f i (countBy f i n s) = satAdd f.w (getF f i s) n % 2 ^ f.w := by
  unfold countBy
  dsimp only
  split <;> simp
theorem getF_countBy_ne {g f : Field} {j i : Nat} (h : g.key j ≠ f.key i) (n : Nat) (s : State) :
    getF g j (countBy f i n s) = getF g j s := by
  unfold countBy
  dsimp only
  split <;> simp [getF_setF_ne h]
theorem satAdd_mod (w a n : Nat) : satAdd w a n % 2 ^ w = satAdd w a n := by
  apply Nat.mod_eq_of_lt
  have : 0 < 2 ^ w := Nat.two_pow_pos w
  unfold satAdd
  omega
/-- A counter field counts one, saturating. -/
theorem getF_count (f : Field) (i : Nat) (s : State) : getF f i (count f i s) = satAdd f.w (getF f i s) 1 := by
  rw [← satAdd_mod, ← getF_countBy_same]
  rfl
theorem getF_count_same (f : Field) (i : Nat) (s : State) : getF f i (count f i s) = satAdd f.w (getF f i s) 1 % 2 ^ f.w :=
  getF_countBy_same f i 1 s
theorem getF_count_ne {g f : Field} {j i : Nat} (h : g.key j ≠ f.key i) (s : State) : getF g j (count f i s) = getF g j s :=
  getF_countBy_ne h 1 s

/-- Setting a field keeps the canonical form of the register table. -/
theorem setF_wf {s : State} (f : Field) (i v : Nat) (w : tabWfN s.regs = true) : tabWfN (setF f i v s).regs = true :=
  tabWfN_tabSetN _ _ w
theorem countBy_wf {s : State} (f : Field) (i n : Nat) (w : tabWfN s.regs = true) : tabWfN (countBy f i n s).regs = true := by
  unfold countBy
  dsimp only
  split <;> exact setF_wf _ _ _ w
/-- Counting keeps the canonical form of the lifetime counters. -/
theorem lifeAdd_wf {s : State} (k n : Nat) (w : tabWfN s.diag.life = true) : tabWfN (lifeAdd k n s).diag.life = true :=
  tabWfN_tabSetN _ _ w

/-! Lanes, ports and emitters. -/

@[simp] theorem lane_setLane_same (n : Nat) (l : Lane) (s : State) : lane (setLane n l s) n = l := by simp [lane, setLane]
theorem lane_setLane_ne {m n : Nat} (h : m ≠ n) (l : Lane) (s : State) : lane (setLane n l s) m = lane s m := by
  simp [lane, setLane, tabGet_tabPut_ne _ _ _ h]
@[simp] theorem rf_setRf_same (p : Nat) (x : RfPort) (s : State) : rf (setRf p x s) p = x := by simp [rf, setRf]
theorem rf_setRf_ne {q p : Nat} (h : q ≠ p) (x : RfPort) (s : State) : rf (setRf p x s) q = rf s q := by
  simp [rf, setRf, tabGet_tabPut_ne _ _ _ h]
@[simp] theorem em_setEm_same (e : Nat) (x : Em) (s : State) : em (setEm e x s) e = x := by simp [em, setEm]
theorem em_setEm_ne {d e : Nat} (h : d ≠ e) (x : Em) (s : State) : em (setEm e x s) d = em s d := by
  simp [em, setEm, tabGet_tabPut_ne _ _ _ h]

/-! Events. -/

/-- With room in the event queue a raised event is its last record. -/
theorem raise_evq {s : State} (e : Nat × Nat) (items : List (Nat × Nat)) (h : s.evq.q.length < 256) :
    (raise e items s).evq = { s.evq with q := s.evq.q ++ [⟨e.1, e.2, s.time.ns, packItems items % 2 ^ 96⟩] } := by
  simp [raise, h]
/-- Without room it is lost and counted. -/
theorem raise_lost {s : State} (e : Nat × Nat) (items : List (Nat × Nat)) (h : ¬ s.evq.q.length < 256) :
    (raise e items s).evq = { s.evq with lost := satAdd 16 s.evq.lost 1 } := by
  simp [raise, h]

/-! Time. -/

@[simp] theorem elapse_now (n : Nat) (s : State) : (elapse n s).now = s.now + n := by
  unfold elapse; dsimp only; split <;> simp
/-- Time passes up to an instant and no further. -/
theorem waitTill_now (t : Nat) (s : State) : (waitTill t s).now = max t s.now := by
  unfold waitTill
  split
  · omega
  · rw [elapse_now]; omega
theorem waitTill_past {t : Nat} {s : State} (h : t ≤ s.now) : waitTill t s = s := by simp [waitTill, h]
theorem waitKeep_past {k : Nat} {s : State} (h : k ≤ s.time.ns) : waitKeep k s = s := by simp [waitKeep, h]

/-! Domains. -/

/-- A domain that is on is not woken. -/
theorem wake_on {src d : Nat} {s : State} (h : domOn s d = true) : wake src d s = s := by
  simp [domOn] at h
  simp [wake, h]

/-! Responses. -/

/-- The response of a command on a lane that is free: its words follow those in the response FTQ. -/
theorem respond_resp {n : Nat} {s : State} (tag : Byte) (st : Status) (ws : List Word)
    (hx : (lane s n).ex = none) (he : (lane s n).errDue = false) :
    (lane (respond n tag st ws s) n).resp = (lane s n).resp ++ response st tag ws := by
  unfold respond laneErrorDue laneWrite
  simp only [hx, lane_setLane_same]
  simp only [Bool.false_eq_true, if_false]
  split <;> simp [he, laneOf_laneSignal]

end Sys2Proof.Machine
end

