-- ==== Sys2Proof/Laws/Commands.lean ====
section
/-! SUPPORT. What a Goruz command that is taken comes to, from what its body answers. -/

namespace Sys2Proof.Machine
open Sys2Proof

/-- What `laneTakes` says. -/
theorem laneTakes_iff (g : Goruz) (s : State) : laneTakes g s = true ↔
    laneReached g.lane.val s = true ∧ laneServed g.lane.val s = true ∧ laneFree g.lane.val s = true
      ∧ (lane s g.lane.val).errDue = false ∧ g.words.length < 256 ∧ domOn s 1 = true := by
  simp [laneTakes, and_assoc]

/-- The lane taken last has no part in the judgement of a command. -/
theorem judge_lastLane (n op len m : Nat) (s : State) : judge n op len { s with lastLane := m } = judge n op len s := rfl

/-- A command that the lane takes runs. -/
theorem serve_takes {op : Nat} {body : Goruz → State → Res} {g : Goruz} {s : State} (h : laneTakes g s = true) :
    serve op body g s = runCommand op body g s := by
  obtain ⟨h1, h2, h3, _, h5, h6⟩ := (laneTakes_iff g s).1 h
  simp [serve, h1, h2, h3, h5, wake_on h6]

/-- A command that steps 2 to 4 of R125 turn away is answered with their status and has no other effect. -/
theorem serve_judged {op : Nat} {body : Goruz → State → Res} {g : Goruz} {s : State} {st : Status} (h : laneTakes g s = true)
    (hj : judge g.lane.val op g.words.length s = some st) : done s (serve op body g s) = .next (answered g st [] s) := by
  rw [serve_takes h, runCommand]
  simp only [judge_lastLane, hj]
  exact done_of_keeps (by simp) (by simp)

/-- A command that is taken and whose body answers now. -/
theorem serve_now {op : Nat} {body : Goruz → State → Res} {g : Goruz} {s s' : State} {st : Status} {ws : List Word}
    (h : taken op g s = true) (hb : body g { s with lastLane := g.lane.val } = .now st ws s')
    (hp : s'.pending = s.pending) (hf : s'.fuse = s.fuse) :
    done s (serve op body g s) = .next (respond g.lane.val g.tag st ws s') := by
  simp only [taken, Bool.and_eq_true, Option.isNone_iff_eq_none] at h
  rw [serve_takes h.1, runCommand]
  simp only [judge_lastLane, h.2, hb]
  exact done_of_keeps (by simp [hp]) (by simp [hf])

/-- A command that is taken and whose response comes later. -/
theorem serve_later {op : Nat} {body : Goruz → State → Res} {g : Goruz} {s s' : State} {d : List Nat}
    (h : taken op g s = true) (hb : body g { s with lastLane := g.lane.val } = .later d s')
    (hp : s'.pending = s.pending) (hf : s'.fuse = s.fuse) :
    done s (serve op body g s) = .next (setLane g.lane.val { lane s' g.lane.val with
      ex := some { opcode := op, tag := g.tag, data := d } } s') := by
  simp only [taken, Bool.and_eq_true, Option.isNone_iff_eq_none] at h
  rw [serve_takes h.1, runCommand]
  simp only [judge_lastLane, h.2, hb]
  exact done_of_keeps (by simp [hp]) (by simp [hf])

/-- What a command that answers now comes to. -/
theorem serve_answers {op : Nat} {body : Goruz → State → Res} {f : Goruz → State → Status × List Word × State}
    (hb : ∀ (g : Goruz) (s : State), body g s = .now (f g s).1 (f g s).2.1 (f g s).2.2)
    {g : Goruz} {s : State} (h : taken op g s = true) :
    done s (serve op body g s) = .next (atQueue s (respond g.lane.val g.tag (f g (inLane g.lane.val s)).1
      (f g (inLane g.lane.val s)).2.1 (f g (inLane g.lane.val s)).2.2)) := by
  simp only [taken, Bool.and_eq_true, Option.isNone_iff_eq_none] at h
  rw [serve_takes h.1, runCommand]
  simp only [judge_lastLane, h.2]
  rw [show body g { s with lastLane := g.lane.val } = _ from hb g (inLane g.lane.val s)]
  rfl

/-- What a command that only reads comes to. -/
theorem serve_reads {op : Nat} {body : Goruz → State → Res} {f : Goruz → State → Status × List Word}
    (hb : ∀ (g : Goruz) (s : State), body g s = .now (f g s).1 (f g s).2 s)
    {g : Goruz} {s : State} (h : taken op g s = true) :
    done s (serve op body g s) = .next (answered g (f g (inLane g.lane.val s)).1 (f g (inLane g.lane.val s)).2 s) :=
  serve_now (s' := inLane g.lane.val s) h (hb g (inLane g.lane.val s)) rfl rfl

end Sys2Proof.Machine
end

