-- ==== Sys2Proof/Laws/Views.lean ====
section
/-! SUPPORT. What the named operations leave of the views of the state: presence, the states of domains, the gate and the phase. -/

namespace Sys2Proof.Machine
open Sys2Proof

/-! Each view is given by what it reads. -/

theorem domPresent_congr {s t : State} (d : Nat) (h1 : t.start = s.start) (h2 : t.fuse = s.fuse) : domPresent t d = domPresent s d := by
  unfold domPresent portPresent blockPresent ethPresent ddrPresent capAir capNet
  rw [h1, h2]
theorem pcieUsed_congr {s t : State} (h1 : t.cfg = s.cfg) : pcieUsed t = pcieUsed s := by
  unfold pcieUsed paramW param paramOpt
  rw [h1]
theorem domState_congr {s t : State} (d : Nat) (h1 : t.start = s.start) (h2 : t.fuse = s.fuse)
    (h3 : getF F.keepPwrState_state d t = getF F.keepPwrState_state d s) : domState t d = domState s d := by
  unfold domState
  rw [domPresent_congr d h1 h2, h3]
theorem domOn_congr {s t : State} (d : Nat) (h1 : t.start = s.start) (h2 : t.fuse = s.fuse)
    (h3 : getF F.keepPwrState_state d t = getF F.keepPwrState_state d s) : domOn t d = domOn s d := by
  unfold domOn
  rw [domState_congr d h1 h2 h3]
theorem domDead_congr {s t : State} (d : Nat) (h1 : t.start = s.start) (h2 : t.fuse = s.fuse)
    (h3 : getF F.keepPwrState_state d t = getF F.keepPwrState_state d s)
    (h4 : getF F.keepPwrState_blocked d t = getF F.keepPwrState_blocked d s) : domDead t d = domDead s d := by
  unfold domDead getB
  rw [domState_congr d h1 h2 h3, domPresent_congr d h1 h2, h4]
theorem deferring_congr {s t : State} (h : getF F.keepPwrSupply_tx_hold 0 t = getF F.keepPwrSupply_tx_hold 0 s) :
    deferring t = deferring s := by simp [deferring, getB, h]
theorem gateReasons_congr {s t : State} (h : getF F.keepGate_reasons 0 t = getF F.keepGate_reasons 0 s) :
    gateReasons t = gateReasons s := h
theorem reason_congr {s t : State} (k : Nat) (h : getF F.keepGate_reasons 0 t = getF F.keepGate_reasons 0 s) :
    reason t k = reason s k := by simp [reason, gateReasons, h]
theorem gateWanted_congr {s t : State} (h1 : t.start = s.start) (h : getF F.keepGate_reasons 0 t = getF F.keepGate_reasons 0 s) :
    gateWanted t = gateWanted s := by
  unfold gateWanted gateReasons
  rw [h1, h]
theorem txOpen_congr {s t : State} (h : getF F.keepGate_tx_open 0 t = getF F.keepGate_tx_open 0 s) : txOpen t = txOpen s := by
  simp [txOpen, getB, h]
theorem serving_congr {s t : State} (h1 : t.start = s.start) (h : getF F.keepStart_phase 0 t = getF F.keepStart_phase 0 s) :
    serving t = serving s := by
  unfold serving
  rw [h1, h]

@[simp] theorem domPresent_setF (f : Field) (i v : Nat) (d : Nat) (s : State) : domPresent (setF f i v s) d = domPresent s d :=
  domPresent_congr d (by simp) (by simp)
@[simp] theorem pcieUsed_setF (f : Field) (i v : Nat) (s : State) : pcieUsed (setF f i v s) = pcieUsed s :=
  pcieUsed_congr (by simp)
theorem domState_setF {f : Field} {i : Nat} (v : Nat) {d : Nat} (h0 : F.keepPwrState_state.key d ≠ f.key i) (s : State) : domState (setF f i v s) d = domState s d :=
  domState_congr d (by simp) (by simp) (getF_setF_ne h0 v s)
theorem domOn_setF {f : Field} {i : Nat} (v : Nat) {d : Nat} (h0 : F.keepPwrState_state.key d ≠ f.key i) (s : State) : domOn (setF f i v s) d = domOn s d :=
  domOn_congr d (by simp) (by simp) (getF_setF_ne h0 v s)
theorem domDead_setF {f : Field} {i : Nat} (v : Nat) {d : Nat} (h0 : F.keepPwrState_state.key d ≠ f.key i) (h1 : F.keepPwrState_blocked.key d ≠ f.key i) (s : State) : domDead (setF f i v s) d = domDead s d :=
  domDead_congr d (by simp) (by simp) (getF_setF_ne h0 v s) (getF_setF_ne h1 v s)
theorem deferring_setF {f : Field} {i : Nat} (v : Nat) (h0 : F.keepPwrSupply_tx_hold.key 0 ≠ f.key i) (s : State) : deferring (setF f i v s) = deferring s :=
  deferring_congr (getF_setF_ne h0 v s)
theorem gateReasons_setF {f : Field} {i : Nat} (v : Nat) (h0 : F.keepGate_reasons.key 0 ≠ f.key i) (s : State) : gateReasons (setF f i v s) = gateReasons s :=
  gateReasons_congr (getF_setF_ne h0 v s)
theorem reason_setF {f : Field} {i : Nat} (v : Nat) (k : Nat) (h0 : F.keepGate_reasons.key 0 ≠ f.key i) (s : State) : reason (setF f i v s) k = reason s k :=
  reason_congr k (getF_setF_ne h0 v s)
theorem gateWanted_setF {f : Field} {i : Nat} (v : Nat) (h0 : F.keepGate_reasons.key 0 ≠ f.key i) (s : State) : gateWanted (setF f i v s) = gateWanted s :=
  gateWanted_congr (by simp) (getF_setF_ne h0 v s)
theorem txOpen_setF {f : Field} {i : Nat} (v : Nat) (h0 : F.keepGate_tx_open.key 0 ≠ f.key i) (s : State) : txOpen (setF f i v s) = txOpen s :=
  txOpen_congr (getF_setF_ne h0 v s)
theorem serving_setF {f : Field} {i : Nat} (v : Nat) (h0 : F.keepStart_phase.key 0 ≠ f.key i) (s : State) : serving (setF f i v s) = serving s :=
  serving_congr (by simp) (getF_setF_ne h0 v s)
@[simp] theorem domPresent_setB (f : Field) (i : Nat) (b : Bool) (d : Nat) (s : State) : domPresent (setB f i b s) d = domPresent s d :=
  domPresent_congr d (by simp) (by simp)
@[simp] theorem pcieUsed_setB (f : Field) (i : Nat) (b : Bool) (s : State) : pcieUsed (setB f i b s) = pcieUsed s :=
  pcieUsed_congr (by simp)
theorem domState_setB {f : Field} {i : Nat} (b : Bool) {d : Nat} (h0 : F.keepPwrState_state.key d ≠ f.key i) (s : State) : domState (setB f i b s) d = domState s d :=
  domState_congr d (by simp) (by simp) (getF_setB_ne h0 b s)
theorem domOn_setB {f : Field} {i : Nat} (b : Bool) {d : Nat} (h0 : F.keepPwrState_state.key d ≠ f.key i) (s : State) : domOn (setB f i b s) d = domOn s d :=
  domOn_congr d (by simp) (by simp) (getF_setB_ne h0 b s)
theorem domDead_setB {f : Field} {i : Nat} (b : Bool) {d : Nat} (h0 : F.keepPwrState_state.key d ≠ f.key i) (h1 : F.keepPwrState_blocked.key d ≠ f.key i) (s : State) : domDead (setB f i b s) d = domDead s d :=
  domDead_congr d (by simp) (by simp) (getF_setB_ne h0 b s) (getF_setB_ne h1 b s)
theorem deferring_setB {f : Field} {i : Nat} (b : Bool) (h0 : F.keepPwrSupply_tx_hold.key 0 ≠ f.key i) (s : State) : deferring (setB f i b s) = deferring s :=
  deferring_congr (getF_setB_ne h0 b s)
theorem gateReasons_setB {f : Field} {i : Nat} (b : Bool) (h0 : F.keepGate_reasons.key 0 ≠ f.key i) (s : State) : gateReasons (setB f i b s) = gateReasons s :=
  gateReasons_congr (getF_setB_ne h0 b s)
theorem reason_setB {f : Field} {i : Nat} (b : Bool) (k : Nat) (h0 : F.keepGate_reasons.key 0 ≠ f.key i) (s : State) : reason (setB f i b s) k = reason s k :=
  reason_congr k (getF_setB_ne h0 b s)
theorem gateWanted_setB {f : Field} {i : Nat} (b : Bool) (h0 : F.keepGate_reasons.key 0 ≠ f.key i) (s : State) : gateWanted (setB f i b s) = gateWanted s :=
  gateWanted_congr (by simp) (getF_setB_ne h0 b s)
theorem txOpen_setB {f : Field} {i : Nat} (b : Bool) (h0 : F.keepGate_tx_open.key 0 ≠ f.key i) (s : State) : txOpen (setB f i b s) = txOpen s :=
  txOpen_congr (getF_setB_ne h0 b s)
theorem serving_setB {f : Field} {i : Nat} (b : Bool) (h0 : F.keepStart_phase.key 0 ≠ f.key i) (s : State) : serving (setB f i b s) = serving s :=
  serving_congr (by simp) (getF_setB_ne h0 b s)
@[simp] theorem domPresent_setI (f : Field) (i : Nat) (v : Int) (d : Nat) (s : State) : domPresent (setI f i v s) d = domPresent s d :=
  domPresent_congr d (by simp) (by simp)
@[simp] theorem pcieUsed_setI (f : Field) (i : Nat) (v : Int) (s : State) : pcieUsed (setI f i v s) = pcieUsed s :=
  pcieUsed_congr (by simp)
theorem domState_setI {f : Field} {i : Nat} (v : Int) {d : Nat} (h0 : F.keepPwrState_state.key d ≠ f.key i) (s : State) : domState (setI f i v s) d = domState s d :=
  domState_congr d (by simp) (by simp) (getF_setI_ne h0 v s)
theorem domOn_setI {f : Field} {i : Nat} (v : Int) {d : Nat} (h0 : F.keepPwrState_state.key d ≠ f.key i) (s : State) : domOn (setI f i v s) d = domOn s d :=
  domOn_congr d (by simp) (by simp) (getF_setI_ne h0 v s)
theorem domDead_setI {f : Field} {i : Nat} (v : Int) {d : Nat} (h0 : F.keepPwrState_state.key d ≠ f.key i) (h1 : F.keepPwrState_blocked.key d ≠ f.key i) (s : State) : domDead (setI f i v s) d = domDead s d :=
  domDead_congr d (by simp) (by simp) (getF_setI_ne h0 v s) (getF_setI_ne h1 v s)
theorem deferring_setI {f : Field} {i : Nat} (v : Int) (h0 : F.keepPwrSupply_tx_hold.key 0 ≠ f.key i) (s : State) : deferring (setI f i v s) = deferring s :=
  deferring_congr (getF_setI_ne h0 v s)
theorem gateReasons_setI {f : Field} {i : Nat} (v : Int) (h0 : F.keepGate_reasons.key 0 ≠ f.key i) (s : State) : gateReasons (setI f i v s) = gateReasons s :=
  gateReasons_congr (getF_setI_ne h0 v s)
theorem reason_setI {f : Field} {i : Nat} (v : Int) (k : Nat) (h0 : F.keepGate_reasons.key 0 ≠ f.key i) (s : State) : reason (setI f i v s) k = reason s k :=
  reason_congr k (getF_setI_ne h0 v s)
theorem gateWanted_setI {f : Field} {i : Nat} (v : Int) (h0 : F.keepGate_reasons.key 0 ≠ f.key i) (s : State) : gateWanted (setI f i v s) = gateWanted s :=
  gateWanted_congr (by simp) (getF_setI_ne h0 v s)
theorem txOpen_setI {f : Field} {i : Nat} (v : Int) (h0 : F.keepGate_tx_open.key 0 ≠ f.key i) (s : State) : txOpen (setI f i v s) = txOpen s :=
  txOpen_congr (getF_setI_ne h0 v s)
theorem serving_setI {f : Field} {i : Nat} (v : Int) (h0 : F.keepStart_phase.key 0 ≠ f.key i) (s : State) : serving (setI f i v s) = serving s :=
  serving_congr (by simp) (getF_setI_ne h0 v s)
@[simp] theorem domPresent_lifeAdd (a1 a2 : Nat) (d : Nat) (s : State) : domPresent (lifeAdd a1 a2 s) d = domPresent s d :=
  domPresent_congr d (by simp) (by simp)
@[simp] theorem pcieUsed_lifeAdd (a1 a2 : Nat) (s : State) : pcieUsed (lifeAdd a1 a2 s) = pcieUsed s :=
  pcieUsed_congr (by simp)
@[simp] theorem domState_lifeAdd (a1 a2 : Nat) (d : Nat) (s : State) : domState (lifeAdd a1 a2 s) d = domState s d :=
  domState_congr d (by simp) (by simp) (by simp)
@[simp] theorem domOn_lifeAdd (a1 a2 : Nat) (d : Nat) (s : State) : domOn (lifeAdd a1 a2 s) d = domOn s d :=
  domOn_congr d (by simp) (by simp) (by simp)
@[simp] theorem domDead_lifeAdd (a1 a2 : Nat) (d : Nat) (s : State) : domDead (lifeAdd a1 a2 s) d = domDead s d :=
  domDead_congr d (by simp) (by simp) (by simp) (by simp)
@[simp] theorem deferring_lifeAdd (a1 a2 : Nat) (s : State) : deferring (lifeAdd a1 a2 s) = deferring s :=
  deferring_congr (by simp)
@[simp] theorem gateReasons_lifeAdd (a1 a2 : Nat) (s : State) : gateReasons (lifeAdd a1 a2 s) = gateReasons s :=
  gateReasons_congr (by simp)
@[simp] theorem reason_lifeAdd (a1 a2 : Nat) (k : Nat) (s : State) : reason (lifeAdd a1 a2 s) k = reason s k :=
  reason_congr k (by simp)
@[simp] theorem gateWanted_lifeAdd (a1 a2 : Nat) (s : State) : gateWanted (lifeAdd a1 a2 s) = gateWanted s :=
  gateWanted_congr (by simp) (by simp)
@[simp] theorem txOpen_lifeAdd (a1 a2 : Nat) (s : State) : txOpen (lifeAdd a1 a2 s) = txOpen s :=
  txOpen_congr (by simp)
@[simp] theorem serving_lifeAdd (a1 a2 : Nat) (s : State) : serving (lifeAdd a1 a2 s) = serving s :=
  serving_congr (by simp) (by simp)
@[simp] theorem domPresent_histAdd (a1 a2 a3 : Nat) (d : Nat) (s : State) : domPresent (histAdd a1 a2 a3 s) d = domPresent s d :=
  domPresent_congr d (by simp) (by simp)
@[simp] theorem pcieUsed_histAdd (a1 a2 a3 : Nat) (s : State) : pcieUsed (histAdd a1 a2 a3 s) = pcieUsed s :=
  pcieUsed_congr (by simp)
@[simp] theorem domState_histAdd (a1 a2 a3 : Nat) (d : Nat) (s : State) : domState (histAdd a1 a2 a3 s) d = domState s d :=
  domState_congr d (by simp) (by simp) (by simp)
@[simp] theorem domOn_histAdd (a1 a2 a3 : Nat) (d : Nat) (s : State) : domOn (histAdd a1 a2 a3 s) d = domOn s d :=
  domOn_congr d (by simp) (by simp) (by simp)
@[simp] theorem domDead_histAdd (a1 a2 a3 : Nat) (d : Nat) (s : State) : domDead (histAdd a1 a2 a3 s) d = domDead s d :=
  domDead_congr d (by simp) (by simp) (by simp) (by simp)
@[simp] theorem deferring_histAdd (a1 a2 a3 : Nat) (s : State) : deferring (histAdd a1 a2 a3 s) = deferring s :=
  deferring_congr (by simp)
@[simp] theorem gateReasons_histAdd (a1 a2 a3 : Nat) (s : State) : gateReasons (histAdd a1 a2 a3 s) = gateReasons s :=
  gateReasons_congr (by simp)
@[simp] theorem reason_histAdd (a1 a2 a3 : Nat) (k : Nat) (s : State) : reason (histAdd a1 a2 a3 s) k = reason s k :=
  reason_congr k (by simp)
@[simp] theorem gateWanted_histAdd (a1 a2 a3 : Nat) (s : State) : gateWanted (histAdd a1 a2 a3 s) = gateWanted s :=
  gateWanted_congr (by simp) (by simp)
@[simp] theorem txOpen_histAdd (a1 a2 a3 : Nat) (s : State) : txOpen (histAdd a1 a2 a3 s) = txOpen s :=
  txOpen_congr (by simp)
@[simp] theorem serving_histAdd (a1 a2 a3 : Nat) (s : State) : serving (histAdd a1 a2 a3 s) = serving s :=
  serving_congr (by simp) (by simp)
@[simp] theorem domPresent_classAdd (a1 a2 : Nat) (d : Nat) (s : State) : domPresent (classAdd a1 a2 s) d = domPresent s d :=
  domPresent_congr d (by simp) (by simp)
@[simp] theorem pcieUsed_classAdd (a1 a2 : Nat) (s : State) : pcieUsed (classAdd a1 a2 s) = pcieUsed s :=
  pcieUsed_congr (by simp)
@[simp] theorem domState_classAdd (a1 a2 : Nat) (d : Nat) (s : State) : domState (classAdd a1 a2 s) d = domState s d :=
  domState_congr d (by simp) (by simp) (by simp)
@[simp] theorem domOn_classAdd (a1 a2 : Nat) (d : Nat) (s : State) : domOn (classAdd a1 a2 s) d = domOn s d :=
  domOn_congr d (by simp) (by simp) (by simp)
@[simp] theorem domDead_classAdd (a1 a2 : Nat) (d : Nat) (s : State) : domDead (classAdd a1 a2 s) d = domDead s d :=
  domDead_congr d (by simp) (by simp) (by simp) (by simp)
@[simp] theorem deferring_classAdd (a1 a2 : Nat) (s : State) : deferring (classAdd a1 a2 s) = deferring s :=
  deferring_congr (by simp)
@[simp] theorem gateReasons_classAdd (a1 a2 : Nat) (s : State) : gateReasons (classAdd a1 a2 s) = gateReasons s :=
  gateReasons_congr (by simp)
@[simp] theorem reason_classAdd (a1 a2 : Nat) (k : Nat) (s : State) : reason (classAdd a1 a2 s) k = reason s k :=
  reason_congr k (by simp)
@[simp] theorem gateWanted_classAdd (a1 a2 : Nat) (s : State) : gateWanted (classAdd a1 a2 s) = gateWanted s :=
  gateWanted_congr (by simp) (by simp)
@[simp] theorem txOpen_classAdd (a1 a2 : Nat) (s : State) : txOpen (classAdd a1 a2 s) = txOpen s :=
  txOpen_congr (by simp)
@[simp] theorem serving_classAdd (a1 a2 : Nat) (s : State) : serving (classAdd a1 a2 s) = serving s :=
  serving_congr (by simp) (by simp)
@[simp] theorem domPresent_journal (ty c : Nat) (d : Nat) (s : State) : domPresent (journal ty c s) d = domPresent s d :=
  domPresent_congr d (by simp) (by simp)
@[simp] theorem pcieUsed_journal (ty c : Nat) (s : State) : pcieUsed (journal ty c s) = pcieUsed s :=
  pcieUsed_congr (by simp)
@[simp] theorem domState_journal (ty c : Nat) (d : Nat) (s : State) : domState (journal ty c s) d = domState s d :=
  domState_congr d (by simp) (by simp) (by simp)
@[simp] theorem domOn_journal (ty c : Nat) (d : Nat) (s : State) : domOn (journal ty c s) d = domOn s d :=
  domOn_congr d (by simp) (by simp) (by simp)
@[simp] theorem domDead_journal (ty c : Nat) (d : Nat) (s : State) : domDead (journal ty c s) d = domDead s d :=
  domDead_congr d (by simp) (by simp) (by simp) (by simp)
@[simp] theorem deferring_journal (ty c : Nat) (s : State) : deferring (journal ty c s) = deferring s :=
  deferring_congr (by simp)
@[simp] theorem gateReasons_journal (ty c : Nat) (s : State) : gateReasons (journal ty c s) = gateReasons s :=
  gateReasons_congr (by simp)
@[simp] theorem reason_journal (ty c : Nat) (k : Nat) (s : State) : reason (journal ty c s) k = reason s k :=
  reason_congr k (by simp)
@[simp] theorem gateWanted_journal (ty c : Nat) (s : State) : gateWanted (journal ty c s) = gateWanted s :=
  gateWanted_congr (by simp) (by simp)
@[simp] theorem txOpen_journal (ty c : Nat) (s : State) : txOpen (journal ty c s) = txOpen s :=
  txOpen_congr (by simp)
@[simp] theorem serving_journal (ty c : Nat) (s : State) : serving (journal ty c s) = serving s :=
  serving_congr (by simp) (by simp)
@[simp] theorem domPresent_put (o : Out) (d : Nat) (s : State) : domPresent (put o s) d = domPresent s d :=
  domPresent_congr d (by simp) (by simp)
@[simp] theorem pcieUsed_put (o : Out) (s : State) : pcieUsed (put o s) = pcieUsed s :=
  pcieUsed_congr (by simp)
@[simp] theorem domState_put (o : Out) (d : Nat) (s : State) : domState (put o s) d = domState s d :=
  domState_congr d (by simp) (by simp) (by simp)
@[simp] theorem domOn_put (o : Out) (d : Nat) (s : State) : domOn (put o s) d = domOn s d :=
  domOn_congr d (by simp) (by simp) (by simp)
@[simp] theorem domDead_put (o : Out) (d : Nat) (s : State) : domDead (put o s) d = domDead s d :=
  domDead_congr d (by simp) (by simp) (by simp) (by simp)
@[simp] theorem deferring_put (o : Out) (s : State) : deferring (put o s) = deferring s :=
  deferring_congr (by simp)
@[simp] theorem gateReasons_put (o : Out) (s : State) : gateReasons (put o s) = gateReasons s :=
  gateReasons_congr (by simp)
@[simp] theorem reason_put (o : Out) (k : Nat) (s : State) : reason (put o s) k = reason s k :=
  reason_congr k (by simp)
@[simp] theorem gateWanted_put (o : Out) (s : State) : gateWanted (put o s) = gateWanted s :=
  gateWanted_congr (by simp) (by simp)
@[simp] theorem txOpen_put (o : Out) (s : State) : txOpen (put o s) = txOpen s :=
  txOpen_congr (by simp)
@[simp] theorem serving_put (o : Out) (s : State) : serving (put o s) = serving s :=
  serving_congr (by simp) (by simp)
@[simp] theorem domPresent_freeNext (d : Nat) (s : State) : domPresent (freeNext s) d = domPresent s d :=
  domPresent_congr d (by simp) (by simp)
@[simp] theorem pcieUsed_freeNext (s : State) : pcieUsed (freeNext s) = pcieUsed s :=
  pcieUsed_congr (by simp)
@[simp] theorem domState_freeNext (d : Nat) (s : State) : domState (freeNext s) d = domState s d :=
  domState_congr d (by simp) (by simp) (by simp)
@[simp] theorem domOn_freeNext (d : Nat) (s : State) : domOn (freeNext s) d = domOn s d :=
  domOn_congr d (by simp) (by simp) (by simp)
@[simp] theorem domDead_freeNext (d : Nat) (s : State) : domDead (freeNext s) d = domDead s d :=
  domDead_congr d (by simp) (by simp) (by simp) (by simp)
@[simp] theorem deferring_freeNext (s : State) : deferring (freeNext s) = deferring s :=
  deferring_congr (by simp)
@[simp] theorem gateReasons_freeNext (s : State) : gateReasons (freeNext s) = gateReasons s :=
  gateReasons_congr (by simp)
@[simp] theorem reason_freeNext (k : Nat) (s : State) : reason (freeNext s) k = reason s k :=
  reason_congr k (by simp)
@[simp] theorem gateWanted_freeNext (s : State) : gateWanted (freeNext s) = gateWanted s :=
  gateWanted_congr (by simp) (by simp)
@[simp] theorem txOpen_freeNext (s : State) : txOpen (freeNext s) = txOpen s :=
  txOpen_congr (by simp)
@[simp] theorem serving_freeNext (s : State) : serving (freeNext s) = serving s :=
  serving_congr (by simp) (by simp)
@[simp] theorem domPresent_setLane (n : Nat) (l : Lane) (d : Nat) (s : State) : domPresent (setLane n l s) d = domPresent s d :=
  domPresent_congr d (by simp) (by simp)
@[simp] theorem pcieUsed_setLane (n : Nat) (l : Lane) (s : State) : pcieUsed (setLane n l s) = pcieUsed s :=
  pcieUsed_congr (by simp)
@[simp] theorem domState_setLane (n : Nat) (l : Lane) (d : Nat) (s : State) : domState (setLane n l s) d = domState s d :=
  domState_congr d (by simp) (by simp) (by simp)
@[simp] theorem domOn_setLane (n : Nat) (l : Lane) (d : Nat) (s : State) : domOn (setLane n l s) d = domOn s d :=
  domOn_congr d (by simp) (by simp) (by simp)
@[simp] theorem domDead_setLane (n : Nat) (l : Lane) (d : Nat) (s : State) : domDead (setLane n l s) d = domDead s d :=
  domDead_congr d (by simp) (by simp) (by simp) (by simp)
@[simp] theorem deferring_setLane (n : Nat) (l : Lane) (s : State) : deferring (setLane n l s) = deferring s :=
  deferring_congr (by simp)
@[simp] theorem gateReasons_setLane (n : Nat) (l : Lane) (s : State) : gateReasons (setLane n l s) = gateReasons s :=
  gateReasons_congr (by simp)
@[simp] theorem reason_setLane (n : Nat) (l : Lane) (k : Nat) (s : State) : reason (setLane n l s) k = reason s k :=
  reason_congr k (by simp)
@[simp] theorem gateWanted_setLane (n : Nat) (l : Lane) (s : State) : gateWanted (setLane n l s) = gateWanted s :=
  gateWanted_congr (by simp) (by simp)
@[simp] theorem txOpen_setLane (n : Nat) (l : Lane) (s : State) : txOpen (setLane n l s) = txOpen s :=
  txOpen_congr (by simp)
@[simp] theorem serving_setLane (n : Nat) (l : Lane) (s : State) : serving (setLane n l s) = serving s :=
  serving_congr (by simp) (by simp)
@[simp] theorem domPresent_setRf (p : Nat) (x : RfPort) (d : Nat) (s : State) : domPresent (setRf p x s) d = domPresent s d :=
  domPresent_congr d (by simp) (by simp)
@[simp] theorem pcieUsed_setRf (p : Nat) (x : RfPort) (s : State) : pcieUsed (setRf p x s) = pcieUsed s :=
  pcieUsed_congr (by simp)
@[simp] theorem domState_setRf (p : Nat) (x : RfPort) (d : Nat) (s : State) : domState (setRf p x s) d = domState s d :=
  domState_congr d (by simp) (by simp) (by simp)
@[simp] theorem domOn_setRf (p : Nat) (x : RfPort) (d : Nat) (s : State) : domOn (setRf p x s) d = domOn s d :=
  domOn_congr d (by simp) (by simp) (by simp)
@[simp] theorem domDead_setRf (p : Nat) (x : RfPort) (d : Nat) (s : State) : domDead (setRf p x s) d = domDead s d :=
  domDead_congr d (by simp) (by simp) (by simp) (by simp)
@[simp] theorem deferring_setRf (p : Nat) (x : RfPort) (s : State) : deferring (setRf p x s) = deferring s :=
  deferring_congr (by simp)
@[simp] theorem gateReasons_setRf (p : Nat) (x : RfPort) (s : State) : gateReasons (setRf p x s) = gateReasons s :=
  gateReasons_congr (by simp)
@[simp] theorem reason_setRf (p : Nat) (x : RfPort) (k : Nat) (s : State) : reason (setRf p x s) k = reason s k :=
  reason_congr k (by simp)
@[simp] theorem gateWanted_setRf (p : Nat) (x : RfPort) (s : State) : gateWanted (setRf p x s) = gateWanted s :=
  gateWanted_congr (by simp) (by simp)
@[simp] theorem txOpen_setRf (p : Nat) (x : RfPort) (s : State) : txOpen (setRf p x s) = txOpen s :=
  txOpen_congr (by simp)
@[simp] theorem serving_setRf (p : Nat) (x : RfPort) (s : State) : serving (setRf p x s) = serving s :=
  serving_congr (by simp) (by simp)
@[simp] theorem domPresent_setEm (e : Nat) (x : Em) (d : Nat) (s : State) : domPresent (setEm e x s) d = domPresent s d :=
  domPresent_congr d (by simp) (by simp)
@[simp] theorem pcieUsed_setEm (e : Nat) (x : Em) (s : State) : pcieUsed (setEm e x s) = pcieUsed s :=
  pcieUsed_congr (by simp)
@[simp] theorem domState_setEm (e : Nat) (x : Em) (d : Nat) (s : State) : domState (setEm e x s) d = domState s d :=
  domState_congr d (by simp) (by simp) (by simp)
@[simp] theorem domOn_setEm (e : Nat) (x : Em) (d : Nat) (s : State) : domOn (setEm e x s) d = domOn s d :=
  domOn_congr d (by simp) (by simp) (by simp)
@[simp] theorem domDead_setEm (e : Nat) (x : Em) (d : Nat) (s : State) : domDead (setEm e x s) d = domDead s d :=
  domDead_congr d (by simp) (by simp) (by simp) (by simp)
@[simp] theorem deferring_setEm (e : Nat) (x : Em) (s : State) : deferring (setEm e x s) = deferring s :=
  deferring_congr (by simp)
@[simp] theorem gateReasons_setEm (e : Nat) (x : Em) (s : State) : gateReasons (setEm e x s) = gateReasons s :=
  gateReasons_congr (by simp)
@[simp] theorem reason_setEm (e : Nat) (x : Em) (k : Nat) (s : State) : reason (setEm e x s) k = reason s k :=
  reason_congr k (by simp)
@[simp] theorem gateWanted_setEm (e : Nat) (x : Em) (s : State) : gateWanted (setEm e x s) = gateWanted s :=
  gateWanted_congr (by simp) (by simp)
@[simp] theorem txOpen_setEm (e : Nat) (x : Em) (s : State) : txOpen (setEm e x s) = txOpen s :=
  txOpen_congr (by simp)
@[simp] theorem serving_setEm (e : Nat) (x : Em) (s : State) : serving (setEm e x s) = serving s :=
  serving_congr (by simp) (by simp)
@[simp] theorem domPresent_raise (e : Nat × Nat) (l : List (Nat × Nat)) (d : Nat) (s : State) : domPresent (raise e l s) d = domPresent s d :=
  domPresent_congr d (by simp) (by simp)
@[simp] theorem pcieUsed_raise (e : Nat × Nat) (l : List (Nat × Nat)) (s : State) : pcieUsed (raise e l s) = pcieUsed s :=
  pcieUsed_congr (by simp)
@[simp] theorem domState_raise (e : Nat × Nat) (l : List (Nat × Nat)) (d : Nat) (s : State) : domState (raise e l s) d = domState s d :=
  domState_congr d (by simp) (by simp) (by simp)
@[simp] theorem domOn_raise (e : Nat × Nat) (l : List (Nat × Nat)) (d : Nat) (s : State) : domOn (raise e l s) d = domOn s d :=
  domOn_congr d (by simp) (by simp) (by simp)
@[simp] theorem domDead_raise (e : Nat × Nat) (l : List (Nat × Nat)) (d : Nat) (s : State) : domDead (raise e l s) d = domDead s d :=
  domDead_congr d (by simp) (by simp) (by simp) (by simp)
@[simp] theorem deferring_raise (e : Nat × Nat) (l : List (Nat × Nat)) (s : State) : deferring (raise e l s) = deferring s :=
  deferring_congr (by simp)
@[simp] theorem gateReasons_raise (e : Nat × Nat) (l : List (Nat × Nat)) (s : State) : gateReasons (raise e l s) = gateReasons s :=
  gateReasons_congr (by simp)
@[simp] theorem reason_raise (e : Nat × Nat) (l : List (Nat × Nat)) (k : Nat) (s : State) : reason (raise e l s) k = reason s k :=
  reason_congr k (by simp)
@[simp] theorem gateWanted_raise (e : Nat × Nat) (l : List (Nat × Nat)) (s : State) : gateWanted (raise e l s) = gateWanted s :=
  gateWanted_congr (by simp) (by simp)
@[simp] theorem txOpen_raise (e : Nat × Nat) (l : List (Nat × Nat)) (s : State) : txOpen (raise e l s) = txOpen s :=
  txOpen_congr (by simp)
@[simp] theorem serving_raise (e : Nat × Nat) (l : List (Nat × Nat)) (s : State) : serving (raise e l s) = serving s :=
  serving_congr (by simp) (by simp)
@[simp] theorem domPresent_raiseOnce (e : Nat × Nat) (a1 : Nat) (o : Nat → List (Nat × Nat)) (d : Nat) (s : State) : domPresent (raiseOnce e a1 o s) d = domPresent s d :=
  domPresent_congr d (by simp) (by simp)
@[simp] theorem pcieUsed_raiseOnce (e : Nat × Nat) (a1 : Nat) (o : Nat → List (Nat × Nat)) (s : State) : pcieUsed (raiseOnce e a1 o s) = pcieUsed s :=
  pcieUsed_congr (by simp)
@[simp] theorem domState_raiseOnce (e : Nat × Nat) (a1 : Nat) (o : Nat → List (Nat × Nat)) (d : Nat) (s : State) : domState (raiseOnce e a1 o s) d = domState s d :=
  domState_congr d (by simp) (by simp) (by simp)
@[simp] theorem domOn_raiseOnce (e : Nat × Nat) (a1 : Nat) (o : Nat → List (Nat × Nat)) (d : Nat) (s : State) : domOn (raiseOnce e a1 o s) d = domOn s d :=
  domOn_congr d (by simp) (by simp) (by simp)
@[simp] theorem domDead_raiseOnce (e : Nat × Nat) (a1 : Nat) (o : Nat → List (Nat × Nat)) (d : Nat) (s : State) : domDead (raiseOnce e a1 o s) d = domDead s d :=
  domDead_congr d (by simp) (by simp) (by simp) (by simp)
@[simp] theorem deferring_raiseOnce (e : Nat × Nat) (a1 : Nat) (o : Nat → List (Nat × Nat)) (s : State) : deferring (raiseOnce e a1 o s) = deferring s :=
  deferring_congr (by simp)
@[simp] theorem gateReasons_raiseOnce (e : Nat × Nat) (a1 : Nat) (o : Nat → List (Nat × Nat)) (s : State) : gateReasons (raiseOnce e a1 o s) = gateReasons s :=
  gateReasons_congr (by simp)
@[simp] theorem reason_raiseOnce (e : Nat × Nat) (a1 : Nat) (o : Nat → List (Nat × Nat)) (k : Nat) (s : State) : reason (raiseOnce e a1 o s) k = reason s k :=
  reason_congr k (by simp)
@[simp] theorem gateWanted_raiseOnce (e : Nat × Nat) (a1 : Nat) (o : Nat → List (Nat × Nat)) (s : State) : gateWanted (raiseOnce e a1 o s) = gateWanted s :=
  gateWanted_congr (by simp) (by simp)
@[simp] theorem txOpen_raiseOnce (e : Nat × Nat) (a1 : Nat) (o : Nat → List (Nat × Nat)) (s : State) : txOpen (raiseOnce e a1 o s) = txOpen s :=
  txOpen_congr (by simp)
@[simp] theorem serving_raiseOnce (e : Nat × Nat) (a1 : Nat) (o : Nat → List (Nat × Nat)) (s : State) : serving (raiseOnce e a1 o s) = serving s :=
  serving_congr (by simp) (by simp)
@[simp] theorem domPresent_raisePerSecond (e : Nat × Nat) (a1 : Nat) (l : List (Nat × Nat)) (d : Nat) (s : State) : domPresent (raisePerSecond e a1 l s) d = domPresent s d :=
  domPresent_congr d (by simp) (by simp)
@[simp] theorem pcieUsed_raisePerSecond (e : Nat × Nat) (a1 : Nat) (l : List (Nat × Nat)) (s : State) : pcieUsed (raisePerSecond e a1 l s) = pcieUsed s :=
  pcieUsed_congr (by simp)
@[simp] theorem domState_raisePerSecond (e : Nat × Nat) (a1 : Nat) (l : List (Nat × Nat)) (d : Nat) (s : State) : domState (raisePerSecond e a1 l s) d = domState s d :=
  domState_congr d (by simp) (by simp) (by simp)
@[simp] theorem domOn_raisePerSecond (e : Nat × Nat) (a1 : Nat) (l : List (Nat × Nat)) (d : Nat) (s : State) : domOn (raisePerSecond e a1 l s) d = domOn s d :=
  domOn_congr d (by simp) (by simp) (by simp)
@[simp] theorem domDead_raisePerSecond (e : Nat × Nat) (a1 : Nat) (l : List (Nat × Nat)) (d : Nat) (s : State) : domDead (raisePerSecond e a1 l s) d = domDead s d :=
  domDead_congr d (by simp) (by simp) (by simp) (by simp)
@[simp] theorem deferring_raisePerSecond (e : Nat × Nat) (a1 : Nat) (l : List (Nat × Nat)) (s : State) : deferring (raisePerSecond e a1 l s) = deferring s :=
  deferring_congr (by simp)
@[simp] theorem gateReasons_raisePerSecond (e : Nat × Nat) (a1 : Nat) (l : List (Nat × Nat)) (s : State) : gateReasons (raisePerSecond e a1 l s) = gateReasons s :=
  gateReasons_congr (by simp)
@[simp] theorem reason_raisePerSecond (e : Nat × Nat) (a1 : Nat) (l : List (Nat × Nat)) (k : Nat) (s : State) : reason (raisePerSecond e a1 l s) k = reason s k :=
  reason_congr k (by simp)
@[simp] theorem gateWanted_raisePerSecond (e : Nat × Nat) (a1 : Nat) (l : List (Nat × Nat)) (s : State) : gateWanted (raisePerSecond e a1 l s) = gateWanted s :=
  gateWanted_congr (by simp) (by simp)
@[simp] theorem txOpen_raisePerSecond (e : Nat × Nat) (a1 : Nat) (l : List (Nat × Nat)) (s : State) : txOpen (raisePerSecond e a1 l s) = txOpen s :=
  txOpen_congr (by simp)
@[simp] theorem serving_raisePerSecond (e : Nat × Nat) (a1 : Nat) (l : List (Nat × Nat)) (s : State) : serving (raisePerSecond e a1 l s) = serving s :=
  serving_congr (by simp) (by simp)
@[simp] theorem domPresent_countBy (f : Field) (i n : Nat) (d : Nat) (s : State) : domPresent (countBy f i n s) d = domPresent s d :=
  domPresent_congr d (by simp) (by simp)
@[simp] theorem pcieUsed_countBy (f : Field) (i n : Nat) (s : State) : pcieUsed (countBy f i n s) = pcieUsed s :=
  pcieUsed_congr (by simp)
theorem domState_countBy {f : Field} {i : Nat} (n : Nat) {d : Nat} (h0 : F.keepPwrState_state.key d ≠ f.key i) (s : State) : domState (countBy f i n s) d = domState s d :=
  domState_congr d (by simp) (by simp) (getF_countBy_ne h0 n s)
theorem domOn_countBy {f : Field} {i : Nat} (n : Nat) {d : Nat} (h0 : F.keepPwrState_state.key d ≠ f.key i) (s : State) : domOn (countBy f i n s) d = domOn s d :=
  domOn_congr d (by simp) (by simp) (getF_countBy_ne h0 n s)
theorem domDead_countBy {f : Field} {i : Nat} (n : Nat) {d : Nat} (h0 : F.keepPwrState_state.key d ≠ f.key i) (h1 : F.keepPwrState_blocked.key d ≠ f.key i) (s : State) : domDead (countBy f i n s) d = domDead s d :=
  domDead_congr d (by simp) (by simp) (getF_countBy_ne h0 n s) (getF_countBy_ne h1 n s)
theorem deferring_countBy {f : Field} {i : Nat} (n : Nat) (h0 : F.keepPwrSupply_tx_hold.key 0 ≠ f.key i) (s : State) : deferring (countBy f i n s) = deferring s :=
  deferring_congr (getF_countBy_ne h0 n s)
theorem gateReasons_countBy {f : Field} {i : Nat} (n : Nat) (h0 : F.keepGate_reasons.key 0 ≠ f.key i) (s : State) : gateReasons (countBy f i n s) = gateReasons s :=
  gateReasons_congr (getF_countBy_ne h0 n s)
theorem reason_countBy {f : Field} {i : Nat} (n : Nat) (k : Nat) (h0 : F.keepGate_reasons.key 0 ≠ f.key i) (s : State) : reason (countBy f i n s) k = reason s k :=
  reason_congr k (getF_countBy_ne h0 n s)
theorem gateWanted_countBy {f : Field} {i : Nat} (n : Nat) (h0 : F.keepGate_reasons.key 0 ≠ f.key i) (s : State) : gateWanted (countBy f i n s) = gateWanted s :=
  gateWanted_congr (by simp) (getF_countBy_ne h0 n s)
theorem txOpen_countBy {f : Field} {i : Nat} (n : Nat) (h0 : F.keepGate_tx_open.key 0 ≠ f.key i) (s : State) : txOpen (countBy f i n s) = txOpen s :=
  txOpen_congr (getF_countBy_ne h0 n s)
theorem serving_countBy {f : Field} {i : Nat} (n : Nat) (h0 : F.keepStart_phase.key 0 ≠ f.key i) (s : State) : serving (countBy f i n s) = serving s :=
  serving_congr (by simp) (getF_countBy_ne h0 n s)
@[simp] theorem domPresent_count (f : Field) (i : Nat) (d : Nat) (s : State) : domPresent (count f i s) d = domPresent s d :=
  domPresent_congr d (by simp) (by simp)
@[simp] theorem pcieUsed_count (f : Field) (i : Nat) (s : State) : pcieUsed (count f i s) = pcieUsed s :=
  pcieUsed_congr (by simp)
theorem domState_count {f : Field} {i : Nat} {d : Nat} (h0 : F.keepPwrState_state.key d ≠ f.key i) (s : State) : domState (count f i s) d = domState s d :=
  domState_congr d (by simp) (by simp) (getF_count_ne h0 s)
theorem domOn_count {f : Field} {i : Nat} {d : Nat} (h0 : F.keepPwrState_state.key d ≠ f.key i) (s : State) : domOn (count f i s) d = domOn s d :=
  domOn_congr d (by simp) (by simp) (getF_count_ne h0 s)
theorem domDead_count {f : Field} {i : Nat} {d : Nat} (h0 : F.keepPwrState_state.key d ≠ f.key i) (h1 : F.keepPwrState_blocked.key d ≠ f.key i) (s : State) : domDead (count f i s) d = domDead s d :=
  domDead_congr d (by simp) (by simp) (getF_count_ne h0 s) (getF_count_ne h1 s)
theorem deferring_count {f : Field} {i : Nat} (h0 : F.keepPwrSupply_tx_hold.key 0 ≠ f.key i) (s : State) : deferring (count f i s) = deferring s :=
  deferring_congr (getF_count_ne h0 s)
theorem gateReasons_count {f : Field} {i : Nat} (h0 : F.keepGate_reasons.key 0 ≠ f.key i) (s : State) : gateReasons (count f i s) = gateReasons s :=
  gateReasons_congr (getF_count_ne h0 s)
theorem reason_count {f : Field} {i : Nat} (k : Nat) (h0 : F.keepGate_reasons.key 0 ≠ f.key i) (s : State) : reason (count f i s) k = reason s k :=
  reason_congr k (getF_count_ne h0 s)
theorem gateWanted_count {f : Field} {i : Nat} (h0 : F.keepGate_reasons.key 0 ≠ f.key i) (s : State) : gateWanted (count f i s) = gateWanted s :=
  gateWanted_congr (by simp) (getF_count_ne h0 s)
theorem txOpen_count {f : Field} {i : Nat} (h0 : F.keepGate_tx_open.key 0 ≠ f.key i) (s : State) : txOpen (count f i s) = txOpen s :=
  txOpen_congr (getF_count_ne h0 s)
theorem serving_count {f : Field} {i : Nat} (h0 : F.keepStart_phase.key 0 ≠ f.key i) (s : State) : serving (count f i s) = serving s :=
  serving_congr (by simp) (getF_count_ne h0 s)
@[simp] theorem domPresent_msixSend (v : Nat) (d : Nat) (s : State) : domPresent (msixSend v s) d = domPresent s d :=
  domPresent_congr d (by simp) (by simp)
@[simp] theorem pcieUsed_msixSend (v : Nat) (s : State) : pcieUsed (msixSend v s) = pcieUsed s :=
  pcieUsed_congr (by simp)
@[simp] theorem domState_msixSend (v : Nat) (d : Nat) (s : State) : domState (msixSend v s) d = domState s d :=
  domState_congr d (by simp) (by simp) (by simp)
@[simp] theorem domOn_msixSend (v : Nat) (d : Nat) (s : State) : domOn (msixSend v s) d = domOn s d :=
  domOn_congr d (by simp) (by simp) (by simp)
@[simp] theorem domDead_msixSend (v : Nat) (d : Nat) (s : State) : domDead (msixSend v s) d = domDead s d :=
  domDead_congr d (by simp) (by simp) (by simp) (by simp)
@[simp] theorem deferring_msixSend (v : Nat) (s : State) : deferring (msixSend v s) = deferring s :=
  deferring_congr (by simp)
@[simp] theorem gateReasons_msixSend (v : Nat) (s : State) : gateReasons (msixSend v s) = gateReasons s :=
  gateReasons_congr (by simp)
@[simp] theorem reason_msixSend (v : Nat) (k : Nat) (s : State) : reason (msixSend v s) k = reason s k :=
  reason_congr k (by simp)
@[simp] theorem gateWanted_msixSend (v : Nat) (s : State) : gateWanted (msixSend v s) = gateWanted s :=
  gateWanted_congr (by simp) (by simp)
@[simp] theorem txOpen_msixSend (v : Nat) (s : State) : txOpen (msixSend v s) = txOpen s :=
  txOpen_congr (by simp)
@[simp] theorem serving_msixSend (v : Nat) (s : State) : serving (msixSend v s) = serving s :=
  serving_congr (by simp) (by simp)
@[simp] theorem domPresent_laneSignal (n : Nat) (d : Nat) (s : State) : domPresent (laneSignal n s) d = domPresent s d :=
  domPresent_congr d (by simp) (by simp)
@[simp] theorem pcieUsed_laneSignal (n : Nat) (s : State) : pcieUsed (laneSignal n s) = pcieUsed s :=
  pcieUsed_congr (by simp)
@[simp] theorem domState_laneSignal (n : Nat) (d : Nat) (s : State) : domState (laneSignal n s) d = domState s d :=
  domState_congr d (by simp) (by simp) (by simp)
@[simp] theorem domOn_laneSignal (n : Nat) (d : Nat) (s : State) : domOn (laneSignal n s) d = domOn s d :=
  domOn_congr d (by simp) (by simp) (by simp)
@[simp] theorem domDead_laneSignal (n : Nat) (d : Nat) (s : State) : domDead (laneSignal n s) d = domDead s d :=
  domDead_congr d (by simp) (by simp) (by simp) (by simp)
@[simp] theorem deferring_laneSignal (n : Nat) (s : State) : deferring (laneSignal n s) = deferring s :=
  deferring_congr (by simp)
@[simp] theorem gateReasons_laneSignal (n : Nat) (s : State) : gateReasons (laneSignal n s) = gateReasons s :=
  gateReasons_congr (by simp)
@[simp] theorem reason_laneSignal (n : Nat) (k : Nat) (s : State) : reason (laneSignal n s) k = reason s k :=
  reason_congr k (by simp)
@[simp] theorem gateWanted_laneSignal (n : Nat) (s : State) : gateWanted (laneSignal n s) = gateWanted s :=
  gateWanted_congr (by simp) (by simp)
@[simp] theorem txOpen_laneSignal (n : Nat) (s : State) : txOpen (laneSignal n s) = txOpen s :=
  txOpen_congr (by simp)
@[simp] theorem serving_laneSignal (n : Nat) (s : State) : serving (laneSignal n s) = serving s :=
  serving_congr (by simp) (by simp)
@[simp] theorem domPresent_laneWrite (n : Nat) (ws : List Word) (d : Nat) (s : State) : domPresent (laneWrite n ws s) d = domPresent s d :=
  domPresent_congr d (by simp) (by simp)
@[simp] theorem pcieUsed_laneWrite (n : Nat) (ws : List Word) (s : State) : pcieUsed (laneWrite n ws s) = pcieUsed s :=
  pcieUsed_congr (by simp)
@[simp] theorem domState_laneWrite (n : Nat) (ws : List Word) (d : Nat) (s : State) : domState (laneWrite n ws s) d = domState s d :=
  domState_congr d (by simp) (by simp) (by simp)
@[simp] theorem domOn_laneWrite (n : Nat) (ws : List Word) (d : Nat) (s : State) : domOn (laneWrite n ws s) d = domOn s d :=
  domOn_congr d (by simp) (by simp) (by simp)
@[simp] theorem domDead_laneWrite (n : Nat) (ws : List Word) (d : Nat) (s : State) : domDead (laneWrite n ws s) d = domDead s d :=
  domDead_congr d (by simp) (by simp) (by simp) (by simp)
@[simp] theorem deferring_laneWrite (n : Nat) (ws : List Word) (s : State) : deferring (laneWrite n ws s) = deferring s :=
  deferring_congr (by simp)
@[simp] theorem gateReasons_laneWrite (n : Nat) (ws : List Word) (s : State) : gateReasons (laneWrite n ws s) = gateReasons s :=
  gateReasons_congr (by simp)
@[simp] theorem reason_laneWrite (n : Nat) (ws : List Word) (k : Nat) (s : State) : reason (laneWrite n ws s) k = reason s k :=
  reason_congr k (by simp)
@[simp] theorem gateWanted_laneWrite (n : Nat) (ws : List Word) (s : State) : gateWanted (laneWrite n ws s) = gateWanted s :=
  gateWanted_congr (by simp) (by simp)
@[simp] theorem txOpen_laneWrite (n : Nat) (ws : List Word) (s : State) : txOpen (laneWrite n ws s) = txOpen s :=
  txOpen_congr (by simp)
@[simp] theorem serving_laneWrite (n : Nat) (ws : List Word) (s : State) : serving (laneWrite n ws s) = serving s :=
  serving_congr (by simp) (by simp)
@[simp] theorem domPresent_laneErrorDue (n : Nat) (d : Nat) (s : State) : domPresent (laneErrorDue n s) d = domPresent s d :=
  domPresent_congr d (by simp) (by simp)
@[simp] theorem pcieUsed_laneErrorDue (n : Nat) (s : State) : pcieUsed (laneErrorDue n s) = pcieUsed s :=
  pcieUsed_congr (by simp)
@[simp] theorem domState_laneErrorDue (n : Nat) (d : Nat) (s : State) : domState (laneErrorDue n s) d = domState s d :=
  domState_congr d (by simp) (by simp) (by simp)
@[simp] theorem domOn_laneErrorDue (n : Nat) (d : Nat) (s : State) : domOn (laneErrorDue n s) d = domOn s d :=
  domOn_congr d (by simp) (by simp) (by simp)
@[simp] theorem domDead_laneErrorDue (n : Nat) (d : Nat) (s : State) : domDead (laneErrorDue n s) d = domDead s d :=
  domDead_congr d (by simp) (by simp) (by simp) (by simp)
@[simp] theorem deferring_laneErrorDue (n : Nat) (s : State) : deferring (laneErrorDue n s) = deferring s :=
  deferring_congr (by simp)
@[simp] theorem gateReasons_laneErrorDue (n : Nat) (s : State) : gateReasons (laneErrorDue n s) = gateReasons s :=
  gateReasons_congr (by simp)
@[simp] theorem reason_laneErrorDue (n : Nat) (k : Nat) (s : State) : reason (laneErrorDue n s) k = reason s k :=
  reason_congr k (by simp)
@[simp] theorem gateWanted_laneErrorDue (n : Nat) (s : State) : gateWanted (laneErrorDue n s) = gateWanted s :=
  gateWanted_congr (by simp) (by simp)
@[simp] theorem txOpen_laneErrorDue (n : Nat) (s : State) : txOpen (laneErrorDue n s) = txOpen s :=
  txOpen_congr (by simp)
@[simp] theorem serving_laneErrorDue (n : Nat) (s : State) : serving (laneErrorDue n s) = serving s :=
  serving_congr (by simp) (by simp)
@[simp] theorem domPresent_respond (n : Nat) (tag : Byte) (st : Status) (ws : List Word) (d : Nat) (s : State) : domPresent (respond n tag st ws s) d = domPresent s d :=
  domPresent_congr d (by simp) (by simp)
@[simp] theorem pcieUsed_respond (n : Nat) (tag : Byte) (st : Status) (ws : List Word) (s : State) : pcieUsed (respond n tag st ws s) = pcieUsed s :=
  pcieUsed_congr (by simp)
@[simp] theorem domState_respond (n : Nat) (tag : Byte) (st : Status) (ws : List Word) (d : Nat) (s : State) : domState (respond n tag st ws s) d = domState s d :=
  domState_congr d (by simp) (by simp) (by simp)
@[simp] theorem domOn_respond (n : Nat) (tag : Byte) (st : Status) (ws : List Word) (d : Nat) (s : State) : domOn (respond n tag st ws s) d = domOn s d :=
  domOn_congr d (by simp) (by simp) (by simp)
@[simp] theorem domDead_respond (n : Nat) (tag : Byte) (st : Status) (ws : List Word) (d : Nat) (s : State) : domDead (respond n tag st ws s) d = domDead s d :=
  domDead_congr d (by simp) (by simp) (by simp) (by simp)
@[simp] theorem deferring_respond (n : Nat) (tag : Byte) (st : Status) (ws : List Word) (s : State) : deferring (respond n tag st ws s) = deferring s :=
  deferring_congr (by simp)
@[simp] theorem gateReasons_respond (n : Nat) (tag : Byte) (st : Status) (ws : List Word) (s : State) : gateReasons (respond n tag st ws s) = gateReasons s :=
  gateReasons_congr (by simp)
@[simp] theorem reason_respond (n : Nat) (tag : Byte) (st : Status) (ws : List Word) (k : Nat) (s : State) : reason (respond n tag st ws s) k = reason s k :=
  reason_congr k (by simp)
@[simp] theorem gateWanted_respond (n : Nat) (tag : Byte) (st : Status) (ws : List Word) (s : State) : gateWanted (respond n tag st ws s) = gateWanted s :=
  gateWanted_congr (by simp) (by simp)
@[simp] theorem txOpen_respond (n : Nat) (tag : Byte) (st : Status) (ws : List Word) (s : State) : txOpen (respond n tag st ws s) = txOpen s :=
  txOpen_congr (by simp)
@[simp] theorem serving_respond (n : Nat) (tag : Byte) (st : Status) (ws : List Word) (s : State) : serving (respond n tag st ws s) = serving s :=
  serving_congr (by simp) (by simp)
@[simp] theorem domPresent_elapse (n : Nat) (d : Nat) (s : State) : domPresent (elapse n s) d = domPresent s d :=
  domPresent_congr d (by simp) (by simp)
@[simp] theorem pcieUsed_elapse (n : Nat) (s : State) : pcieUsed (elapse n s) = pcieUsed s :=
  pcieUsed_congr (by simp)
@[simp] theorem domState_elapse (n : Nat) (d : Nat) (s : State) : domState (elapse n s) d = domState s d :=
  domState_congr d (by simp) (by simp) (by simp)
@[simp] theorem domOn_elapse (n : Nat) (d : Nat) (s : State) : domOn (elapse n s) d = domOn s d :=
  domOn_congr d (by simp) (by simp) (by simp)
@[simp] theorem domDead_elapse (n : Nat) (d : Nat) (s : State) : domDead (elapse n s) d = domDead s d :=
  domDead_congr d (by simp) (by simp) (by simp) (by simp)
@[simp] theorem deferring_elapse (n : Nat) (s : State) : deferring (elapse n s) = deferring s :=
  deferring_congr (by simp)
@[simp] theorem gateReasons_elapse (n : Nat) (s : State) : gateReasons (elapse n s) = gateReasons s :=
  gateReasons_congr (by simp)
@[simp] theorem reason_elapse (n : Nat) (k : Nat) (s : State) : reason (elapse n s) k = reason s k :=
  reason_congr k (by simp)
@[simp] theorem gateWanted_elapse (n : Nat) (s : State) : gateWanted (elapse n s) = gateWanted s :=
  gateWanted_congr (by simp) (by simp)
@[simp] theorem txOpen_elapse (n : Nat) (s : State) : txOpen (elapse n s) = txOpen s :=
  txOpen_congr (by simp)
@[simp] theorem serving_elapse (n : Nat) (s : State) : serving (elapse n s) = serving s :=
  serving_congr (by simp) (by simp)
@[simp] theorem domPresent_waitTill (n : Nat) (d : Nat) (s : State) : domPresent (waitTill n s) d = domPresent s d :=
  domPresent_congr d (by simp) (by simp)
@[simp] theorem pcieUsed_waitTill (n : Nat) (s : State) : pcieUsed (waitTill n s) = pcieUsed s :=
  pcieUsed_congr (by simp)
@[simp] theorem domState_waitTill (n : Nat) (d : Nat) (s : State) : domState (waitTill n s) d = domState s d :=
  domState_congr d (by simp) (by simp) (by simp)
@[simp] theorem domOn_waitTill (n : Nat) (d : Nat) (s : State) : domOn (waitTill n s) d = domOn s d :=
  domOn_congr d (by simp) (by simp) (by simp)
@[simp] theorem domDead_waitTill (n : Nat) (d : Nat) (s : State) : domDead (waitTill n s) d = domDead s d :=
  domDead_congr d (by simp) (by simp) (by simp) (by simp)
@[simp] theorem deferring_waitTill (n : Nat) (s : State) : deferring (waitTill n s) = deferring s :=
  deferring_congr (by simp)
@[simp] theorem gateReasons_waitTill (n : Nat) (s : State) : gateReasons (waitTill n s) = gateReasons s :=
  gateReasons_congr (by simp)
@[simp] theorem reason_waitTill (n : Nat) (k : Nat) (s : State) : reason (waitTill n s) k = reason s k :=
  reason_congr k (by simp)
@[simp] theorem gateWanted_waitTill (n : Nat) (s : State) : gateWanted (waitTill n s) = gateWanted s :=
  gateWanted_congr (by simp) (by simp)
@[simp] theorem txOpen_waitTill (n : Nat) (s : State) : txOpen (waitTill n s) = txOpen s :=
  txOpen_congr (by simp)
@[simp] theorem serving_waitTill (n : Nat) (s : State) : serving (waitTill n s) = serving s :=
  serving_congr (by simp) (by simp)
@[simp] theorem domPresent_waitKeep (n : Nat) (d : Nat) (s : State) : domPresent (waitKeep n s) d = domPresent s d :=
  domPresent_congr d (by simp) (by simp)
@[simp] theorem pcieUsed_waitKeep (n : Nat) (s : State) : pcieUsed (waitKeep n s) = pcieUsed s :=
  pcieUsed_congr (by simp)
@[simp] theorem domState_waitKeep (n : Nat) (d : Nat) (s : State) : domState (waitKeep n s) d = domState s d :=
  domState_congr d (by simp) (by simp) (by simp)
@[simp] theorem domOn_waitKeep (n : Nat) (d : Nat) (s : State) : domOn (waitKeep n s) d = domOn s d :=
  domOn_congr d (by simp) (by simp) (by simp)
@[simp] theorem domDead_waitKeep (n : Nat) (d : Nat) (s : State) : domDead (waitKeep n s) d = domDead s d :=
  domDead_congr d (by simp) (by simp) (by simp) (by simp)
@[simp] theorem deferring_waitKeep (n : Nat) (s : State) : deferring (waitKeep n s) = deferring s :=
  deferring_congr (by simp)
@[simp] theorem gateReasons_waitKeep (n : Nat) (s : State) : gateReasons (waitKeep n s) = gateReasons s :=
  gateReasons_congr (by simp)
@[simp] theorem reason_waitKeep (n : Nat) (k : Nat) (s : State) : reason (waitKeep n s) k = reason s k :=
  reason_congr k (by simp)
@[simp] theorem gateWanted_waitKeep (n : Nat) (s : State) : gateWanted (waitKeep n s) = gateWanted s :=
  gateWanted_congr (by simp) (by simp)
@[simp] theorem txOpen_waitKeep (n : Nat) (s : State) : txOpen (waitKeep n s) = txOpen s :=
  txOpen_congr (by simp)
@[simp] theorem serving_waitKeep (n : Nat) (s : State) : serving (waitKeep n s) = serving s :=
  serving_congr (by simp) (by simp)

end Sys2Proof.Machine
end

