-- ==== Sys2Proof/Laws/Wake.lean ====
section
/-! SUPPORT. What a wake does: nothing to a domain that is on, and the steps of R64 to one whose dependencies are on. -/

namespace Sys2Proof.Machine
open Sys2Proof

theorem wakeOne_on {src d : Nat} {s : State} (h : domOn s d = true) : wakeOne src d s = s := by
  simp [domOn] at h
  simp [wakeOne, h]

/-- Domains that are on are not woken. -/
theorem foldl_wakeOne_on {src : Nat} {s : State} : ∀ {l : List Nat}, (∀ e ∈ l, domOn s e = true) →
    l.foldl (fun s e => wakeOne src e s) s = s
  | [], _ => rfl
  | a :: l, h => by
    rw [List.foldl_cons, wakeOne_on (h a (by simp))]
    exact foldl_wakeOne_on (fun e he => h e (by simp [he]))

/-- A domain whose dependencies are on, with no dip running, is woken at once: its source is recorded and its steps run (R64, R77). -/
theorem wake_off {src d : Nat} {s : State} (h : wakesAtOnce d s = true) :
    wake src d s = pllRefresh (finishWake d (wakeRecord d src (setF F.keepPwrState_retries d 0 s))) := by
  simp only [wakesAtOnce, depsOn, Bool.and_eq_true, Bool.or_eq_true, beq_iff_eq, Bool.not_eq_true', List.all_eq_true] at h
  obtain ⟨⟨⟨⟨⟨hp, h0⟩, hd⟩, hf⟩, hr⟩, hl⟩ := h
  have fold : ∀ l : List Nat, (∀ e ∈ l, (domOn s e = true ∧ domDead s e = false) ∧ ∀ e' ∈ (Config.dom e).deps, domOn s e' = true) →
      l.foldl (fun s e => wakeOne 0x0F e ((Config.dom e).deps.foldl (fun s e' => wakeOne 0x0F e' s) s)) s = s := by
    intro l hl
    induction l with
    | nil => rfl
    | cons a l ih =>
      rw [List.foldl_cons, foldl_wakeOne_on (hl a (by simp)).2, wakeOne_on (hl a (by simp)).1.1]
      exact ih (fun e he => hl e (by simp [he]))
  have n0 : (domState s d == 0) = false := by rcases h0 with h | h <;> simp [h]
  have n3 : (domState s d == 3) = false := by rcases h0 with h | h <;> simp [h]
  have nd : (Config.dom d).deps.any (fun e => domDead s e) = false :=
    List.any_eq_false.2 (fun e he => by simp [(hd e he).1.2])
  have one : wakeOne src d s = finishWake d (wakeRecord d src (setF F.keepPwrState_retries d 0 s)) := by
    unfold wakeOne
    rw [if_neg (by simp [hp, n0, n3, hr, hl]), if_neg (by simp [nd]), if_neg (by simp [hf])]
  unfold wake
  simp only [n0, n3, Bool.false_eq_true, if_false]
  rw [fold _ hd, one]

/-! What the steps of a wake leave as it is. -/

theorem tabFind_filter (t : Tab Nat) (p : Nat × Nat → Bool) (k : Nat) (h : ∀ v, p (k, v) = true) :
    tabFind (t.filter p) k = tabFind t k := by
  induction t with
  | nil => rfl
  | cons a t ih =>
    obtain ⟨n, v⟩ := a
    by_cases hn : k = n
    · subst hn
      simp [h, tabFind]
    · by_cases hp : p (n, v) = true <;> simp [hp, tabFind, hn, ih]
theorem tabGet_filter (t : Tab Nat) (p : Nat × Nat → Bool) (k d : Nat) (h : ∀ v, p (k, v) = true) :
    tabGet (t.filter p) k d = tabGet t k d := by simp [tabGet, tabFind_filter _ _ _ h]

/-- A register of another domain keeps its fields. -/
theorem getF_clearRegs {f : Field} {i d : Nat} (h : domOfAddr (f.key i / 32) ≠ d) (s : State) :
    getF f i (clearRegs d s) = getF f i s := by
  unfold getF clearRegs
  rw [tabGet_filter _ _ _ _ (by simp [h])]

/-- The registers of KEEP_CPU and of the wick (below 0x400000) keep their fields where a domain comes on, but for those that show its
state, and the regulator of the wick. -/
theorem getF_domComeOn {f : Field} {i d : Nat} {s : State} (h0 : f.key i ≠ F.keepPwrWick_lp_mode.key 0)
    (h1 : f.key i ≠ F.keepPwrState_state.key d) (h2 : f.key i ≠ F.keepPwrState_waking.key d)
    (h3 : f.key i ≠ F.keepPwrState_blocked.key d) : getF f i (domComeOn d s) = getF f i s := by
  have e : getF f i (domComeOn d s)
      = getF f i (setF F.keepPwrState_blocked d 0 (setF F.keepPwrState_waking d 0 (setF F.keepPwrState_state d 0
          (if d = 1 then setF F.keepPwrWick_lp_mode 0 0 s else s)))) := rfl
  rw [e, getF_setF_ne h3, getF_setF_ne h2, getF_setF_ne h1]
  split
  · rw [getF_setF_ne h0]
  · rfl

theorem getF_pcieTrain {f : Field} {i : Nat} (h : f.key i < 32 * 0x400000) (s : State) : getF f i (pcieTrain s) = getF f i s := by
  have k1 : f.key i ≠ F.netPcieStatus_link_up.key 0 := by simp only [F.netPcieStatus_link_up, Field.key] at *; omega
  have k2 : f.key i ≠ F.netPcieStatus_speed.key 0 := by simp only [F.netPcieStatus_speed, Field.key] at *; omega
  have k3 : f.key i ≠ F.netPcieStatus_width.key 0 := by simp only [F.netPcieStatus_width, Field.key] at *; omega
  unfold pcieTrain
  simp [getF_setF_ne k1, getF_setF_ne k2, getF_setF_ne k3]

theorem getF_calBegin {f : Field} {i : Nat} (h : f.key i < 32 * 0x400000) (p : Nat) (b : Bool) (s : State) :
    getF f i (calBegin p b s) = getF f i s := by
  have k1 : f.key i ≠ F.airRfStatus_synth.key p := by simp only [F.airRfStatus_synth, Field.key] at *; omega
  have k2 : f.key i ≠ F.airRfStatus_cal_pending.key p := by simp only [F.airRfStatus_cal_pending, Field.key] at *; omega
  have k3 : f.key i ≠ F.airRfStatus_cal_forced.key p := by simp only [F.airRfStatus_cal_forced, Field.key] at *; omega
  have k4 : f.key i ≠ F.airRfCntCal_cals.key p := by simp only [F.airRfCntCal_cals, Field.key] at *; omega
  unfold calBegin
  simp [getF_setF_ne k1, getF_setF_ne k2, getF_setF_ne k3, getF_count_ne k4]

theorem getF_portWakes {f : Field} {i : Nat} (h : f.key i < 32 * 0x400000) (p : Nat) (b : Bool) (s : State) :
    getF f i (portWakes p b s) = getF f i s := by
  have k1 : f.key i ≠ F.airRfStatus_synth.key p := by simp only [F.airRfStatus_synth, Field.key] at *; omega
  unfold portWakes
  split
  · rfl
  split
  · rw [getF_calBegin h]; simp
  split
  · rw [getF_calBegin h]
  · rw [getF_setF_ne k1]; simp

theorem getF_domReload {f : Field} {i : Nat} (h : f.key i < 32 * 0x400000) (d : Nat) (b : Bool) (s : State) :
    getF f i (domReload d b s) = getF f i s := by
  unfold domReload
  split
  · exact getF_portWakes h _ _ _
  split
  · split
    · exact getF_pcieTrain h _
    · rfl
  repeat' (first | rfl | split)
  simp [restoreTables]
  rfl

theorem domOfAddr_keep {a : Nat} (h : a < 0x400000) : domOfAddr a = if a < 0x20 then 0 else 1 := by
  unfold domOfAddr
  by_cases h0 : a < 0x20
  · rw [if_pos h0, if_pos h0]
  · rw [if_neg h0, if_pos h, if_neg h0]

/-- A field of the wick or of KEEP_CPU after the last steps of a wake of another domain. -/
theorem getF_finishWake {f : Field} {i d : Nat} {s : State} (h : f.key i < 32 * 0x400000)
    (h0 : f.key i ≠ F.keepPwrWick_lp_mode.key 0) (h1 : f.key i ≠ F.keepPwrState_state.key d)
    (h2 : f.key i ≠ F.keepPwrState_waking.key d) (h3 : f.key i ≠ F.keepPwrState_blocked.key d) :
    getF f i (finishWake d s) = getF f i s := by
  unfold finishWake
  dsimp only
  rw [getF_domReload h, getF_domComeOn h0 h1 h2 h3]
  split
  next hd =>
    by_cases hz : d = 0
    · subst hz
      rw [show domState s 0 = 0 from rfl] at hd
      exact absurd hd (by decide)
    · rw [getF_clearRegs]
      have hd1 : d ≠ 1 := by
        intro e
        subst e
        simp at hd
      rw [domOfAddr_keep (by omega)]
      split <;> omega
  next => rfl

theorem getF_finishWake_state {d : Nat} (s : State) (h : d < 26) : getF F.keepPwrState_state d (finishWake d s) = 0 := by
  have k0 : F.keepPwrState_state.key d < 32 * 0x400000 := by simp only [F.keepPwrState_state, Field.key]; omega
  have k1 : F.keepPwrState_state.key d ≠ F.keepPwrState_waking.key d := by
    simp only [F.keepPwrState_state, F.keepPwrState_waking, Field.key]; omega
  have k2 : F.keepPwrState_state.key d ≠ F.keepPwrState_blocked.key d := by
    simp only [F.keepPwrState_state, F.keepPwrState_blocked, Field.key]; omega
  unfold finishWake
  dsimp only
  rw [getF_domReload k0]
  have e : ∀ u : State, getF F.keepPwrState_state d (domComeOn d u)
      = getF F.keepPwrState_state d (setF F.keepPwrState_blocked d 0 (setF F.keepPwrState_waking d 0 (setF F.keepPwrState_state d 0
          (if d = 1 then setF F.keepPwrWick_lp_mode 0 0 u else u)))) := fun _ => rfl
  rw [e, getF_setF_ne k2, getF_setF_ne k1]
  simp

/-- The PLL lock bits alone change. -/
theorem getF_pllRefresh {f : Field} {i : Nat} {s : State} (h0 : f.key i ≠ F.keepPwrClk_pll_core_lock.key 0)
    (h1 : f.key i ≠ F.keepPwrClk_pll_air_lock.key 0) (h2 : f.key i ≠ F.keepPwrClk_pll_eth_lock.key 0)
    (h3 : f.key i ≠ F.keepPwrClk_pll_ddr_lock.key 0) : getF f i (pllRefresh s) = getF f i s := by
  unfold pllRefresh
  simp [getF_setB_ne h0, getF_setB_ne h1, getF_setB_ne h2, getF_setB_ne h3]

/-! What a wake leaves as it is beside the registers. -/

@[simp] theorem calBegin_start (p : Nat) (b : Bool) (s : State) : (calBegin p b s).start = s.start := by
  unfold calBegin
  simp
@[simp] theorem portWakes_start (p : Nat) (b : Bool) (s : State) : (portWakes p b s).start = s.start := by
  unfold portWakes
  split
  · rfl
  split
  · simp
  split <;> simp
@[simp] theorem domReload_start (d : Nat) (b : Bool) (s : State) : (domReload d b s).start = s.start := by
  unfold domReload pcieTrain resumeCounters restoreTables
  repeat' split
  all_goals simp
@[simp] theorem finishWake_start (d : Nat) (s : State) : (finishWake d s).start = s.start := by
  unfold finishWake domComeOn clearRegs
  dsimp only
  rw [domReload_start]
  repeat' split
  all_goals rfl
@[simp] theorem wakeRecord_start (d src : Nat) (s : State) : (wakeRecord d src s).start = s.start := by
  unfold wakeRecord histWake
  repeat' split
  all_goals simp
@[simp] theorem pllRefresh_start (s : State) : (pllRefresh s).start = s.start := rfl
@[simp] theorem calBegin_fuse (p : Nat) (b : Bool) (s : State) : (calBegin p b s).fuse = s.fuse := by
  unfold calBegin
  simp
@[simp] theorem portWakes_fuse (p : Nat) (b : Bool) (s : State) : (portWakes p b s).fuse = s.fuse := by
  unfold portWakes
  split
  · rfl
  split
  · simp
  split <;> simp
@[simp] theorem domReload_fuse (d : Nat) (b : Bool) (s : State) : (domReload d b s).fuse = s.fuse := by
  unfold domReload pcieTrain resumeCounters restoreTables
  repeat' split
  all_goals simp
@[simp] theorem finishWake_fuse (d : Nat) (s : State) : (finishWake d s).fuse = s.fuse := by
  unfold finishWake domComeOn clearRegs
  dsimp only
  rw [domReload_fuse]
  repeat' split
  all_goals rfl
@[simp] theorem wakeRecord_fuse (d src : Nat) (s : State) : (wakeRecord d src s).fuse = s.fuse := by
  unfold wakeRecord histWake
  repeat' split
  all_goals simp
@[simp] theorem pllRefresh_fuse (s : State) : (pllRefresh s).fuse = s.fuse := rfl
@[simp] theorem calBegin_pending (p : Nat) (b : Bool) (s : State) : (calBegin p b s).pending = s.pending := by
  unfold calBegin
  simp
@[simp] theorem portWakes_pending (p : Nat) (b : Bool) (s : State) : (portWakes p b s).pending = s.pending := by
  unfold portWakes
  split
  · rfl
  split
  · simp
  split <;> simp
@[simp] theorem domReload_pending (d : Nat) (b : Bool) (s : State) : (domReload d b s).pending = s.pending := by
  unfold domReload pcieTrain resumeCounters restoreTables
  repeat' split
  all_goals simp
@[simp] theorem finishWake_pending (d : Nat) (s : State) : (finishWake d s).pending = s.pending := by
  unfold finishWake domComeOn clearRegs
  dsimp only
  rw [domReload_pending]
  repeat' split
  all_goals rfl
@[simp] theorem wakeRecord_pending (d src : Nat) (s : State) : (wakeRecord d src s).pending = s.pending := by
  unfold wakeRecord histWake
  repeat' split
  all_goals simp
@[simp] theorem pllRefresh_pending (s : State) : (pllRefresh s).pending = s.pending := rfl
@[simp] theorem calBegin_time (p : Nat) (b : Bool) (s : State) : (calBegin p b s).time = s.time := by
  unfold calBegin
  simp
@[simp] theorem portWakes_time (p : Nat) (b : Bool) (s : State) : (portWakes p b s).time = s.time := by
  unfold portWakes
  split
  · rfl
  split
  · simp
  split <;> simp
@[simp] theorem domReload_time (d : Nat) (b : Bool) (s : State) : (domReload d b s).time = s.time := by
  unfold domReload pcieTrain resumeCounters restoreTables
  repeat' split
  all_goals simp
@[simp] theorem finishWake_time (d : Nat) (s : State) : (finishWake d s).time = s.time := by
  unfold finishWake domComeOn clearRegs
  dsimp only
  rw [domReload_time]
  repeat' split
  all_goals rfl
@[simp] theorem wakeRecord_time (d src : Nat) (s : State) : (wakeRecord d src s).time = s.time := by
  unfold wakeRecord histWake
  repeat' split
  all_goals simp
@[simp] theorem pllRefresh_time (s : State) : (pllRefresh s).time = s.time := rfl
@[simp] theorem calBegin_now (p : Nat) (b : Bool) (s : State) : (calBegin p b s).now = s.now := by
  unfold calBegin
  simp
@[simp] theorem portWakes_now (p : Nat) (b : Bool) (s : State) : (portWakes p b s).now = s.now := by
  unfold portWakes
  split
  · rfl
  split
  · simp
  split <;> simp
@[simp] theorem domReload_now (d : Nat) (b : Bool) (s : State) : (domReload d b s).now = s.now := by
  unfold domReload pcieTrain resumeCounters restoreTables
  repeat' split
  all_goals simp
@[simp] theorem finishWake_now (d : Nat) (s : State) : (finishWake d s).now = s.now := by
  unfold finishWake domComeOn clearRegs
  dsimp only
  rw [domReload_now]
  repeat' split
  all_goals rfl
@[simp] theorem wakeRecord_now (d src : Nat) (s : State) : (wakeRecord d src s).now = s.now := by
  unfold wakeRecord histWake
  repeat' split
  all_goals simp
@[simp] theorem pllRefresh_now (s : State) : (pllRefresh s).now = s.now := rfl
@[simp] theorem calBegin_lanes (p : Nat) (b : Bool) (s : State) : (calBegin p b s).lanes = s.lanes := by
  unfold calBegin
  simp
@[simp] theorem portWakes_lanes (p : Nat) (b : Bool) (s : State) : (portWakes p b s).lanes = s.lanes := by
  unfold portWakes
  split
  · rfl
  split
  · simp
  split <;> simp
@[simp] theorem domReload_lanes (d : Nat) (b : Bool) (s : State) : (domReload d b s).lanes = s.lanes := by
  unfold domReload pcieTrain resumeCounters restoreTables
  repeat' split
  all_goals simp
@[simp] theorem finishWake_lanes (d : Nat) (s : State) : (finishWake d s).lanes = s.lanes := by
  unfold finishWake domComeOn clearRegs
  dsimp only
  rw [domReload_lanes]
  repeat' split
  all_goals rfl
@[simp] theorem wakeRecord_lanes (d src : Nat) (s : State) : (wakeRecord d src s).lanes = s.lanes := by
  unfold wakeRecord histWake
  repeat' split
  all_goals simp
@[simp] theorem pllRefresh_lanes (s : State) : (pllRefresh s).lanes = s.lanes := rfl

/-- A domain that can be woken at once is on after its wake, and the wick holds its source, the sequence and the keep time (R64, R77). -/
theorem wake_result {src d : Nat} {s : State} (hd : d < 26) (h : wakesAtOnce d s = true) :
    domOn (wake src d s) d = true
    ∧ getF F.keepPwrWsrc_code d (wake src d s) = src % 2 ^ 8
    ∧ getF F.keepPwrWsrc_seq d (wake src d s) = (getF F.keepPwrWsrc_seq d s + 1) % 2 ^ 16
    ∧ getF F.keepPwrWsrcTlo_time_lo d (wake src d s) = s.time.ns % 2 ^ 32 := by
  rw [wake_off h]
  have key : ∀ f : Field, f = F.keepPwrWsrc_code ∨ f = F.keepPwrWsrc_seq ∨ f = F.keepPwrWsrcTlo_time_lo →
      getF f d (pllRefresh (finishWake d (wakeRecord d src (setF F.keepPwrState_retries d 0 s))))
        = getF f d (wakeRecord d src (setF F.keepPwrState_retries d 0 s)) := by
    intro f hf
    rw [getF_pllRefresh, getF_finishWake] <;>
      (rcases hf with rfl | rfl | rfl <;>
        simp only [F.keepPwrWsrc_code, F.keepPwrWsrc_seq, F.keepPwrWsrcTlo_time_lo, F.keepPwrWick_lp_mode, F.keepPwrState_state,
          F.keepPwrState_waking, F.keepPwrState_blocked, F.keepPwrClk_pll_core_lock, F.keepPwrClk_pll_air_lock,
          F.keepPwrClk_pll_eth_lock, F.keepPwrClk_pll_ddr_lock, Field.key] <;> omega)
  have hist : ∀ (f : Field) (i : Nat) (u : State), getF f i (histWake src u) = getF f i u := by
    intro f i u
    unfold histWake
    repeat' (first | rfl | split)
  refine ⟨?_, ?_, ?_, ?_⟩
  · have hp : domPresent s d = true := by simp only [wakesAtOnce, Bool.and_eq_true] at h; exact h.1.1.1.1.1
    unfold domOn domState
    rw [domPresent_congr d (s := s) (by simp) (by simp), hp, getF_pllRefresh, getF_finishWake_state _ hd]
    · split <;> rfl
    all_goals
      simp only [F.keepPwrState_state, F.keepPwrClk_pll_core_lock, F.keepPwrClk_pll_air_lock, F.keepPwrClk_pll_eth_lock,
        F.keepPwrClk_pll_ddr_lock, Field.key]
      omega
  all_goals
    rw [key _ (by simp)]
    unfold wakeRecord
    rw [hist]
  · rw [getF_setF_ne, getF_setF_ne, getF_setF_ne, getF_setF_same]
    · rfl
    all_goals simp only [F.keepPwrWsrc_code, F.keepPwrWsrc_seq, F.keepPwrWsrcTlo_time_lo, F.keepPwrWsrcThi_time_hi, Field.key]; omega
  · rw [getF_setF_ne, getF_setF_ne, getF_setF_same, getF_setF_ne, show F.keepPwrWsrc_seq.w = 16 from rfl]
    all_goals simp only [F.keepPwrState_retries, F.keepPwrWsrc_code, F.keepPwrWsrc_seq, F.keepPwrWsrcTlo_time_lo, F.keepPwrWsrcThi_time_hi, Field.key]; omega
  · rw [getF_setF_ne, getF_setF_same]
    · simp [F.keepPwrWsrcTlo_time_lo]
    all_goals simp only [F.keepPwrWsrcTlo_time_lo, F.keepPwrWsrcThi_time_hi, Field.key]; omega

end Sys2Proof.Machine
end

