-- ==== Sys2Proof/Tests/Slice0.lean ====
section
/-! SUPPORT. Small tests of the model, and for every statement with hypotheses a state and operands that meet them together. -/

namespace Sys2Proof.Tests
-- Each kernel evaluation would otherwise hold a thread of its own while it waits.
set_option Elab.async false
open Sys2Proof Sys2Proof.Machine Sys2Proof.Claims

/-! States. -/

/-- A part that serves lanes: every domain on, every line open, the reference and the link there. -/
def up : State :=
  let s : State := { State.reset with start := { capsRead := true, gateReady := true, imageStep := true } }
  let s := (List.range 25).foldl (fun s i => setF F.keepPwrState_state (i + 1) 0 s) s
  s |> setF F.keepStart_phase 0 6 |> setF F.netPcieStatus_link_up 0 1 |> setF F.keepGate_gpio_open 0 1 |> setF F.keepGate_fwd_open 0 1
    |> setF F.keepGate_torch_open 0 1 |> setF F.keepGate_tx_open 0 1 |> setF F.keepPwrClk_ref_ok 0 1 |> setF F.keepPwrWick_lp_mode 0 0

/-- A committed record. -/
def cfg (id res : Nat) (ws : List Word) (s : State) : State :=
  { s with cfg := { s.cfg with committed := tabPut s.cfg.committed (cfgKey id res) ws } }

/-- A Goruz command. -/
def cmd (n : Fin 4) (ws : List Word) : Goruz := { lane := n, tag := 7, words := ws }

/-- The command answers a next state with a property. -/
def after (i : Instr) (s : State) (p : State → Bool) : Bool := match exec i s with
  | .next t => p t
  | _ => false

/-- RF-B enabled with its LO at 915,900 kHz; L9 fixed at 918,400 kHz, 200 kHz wide, for 2-FSK at 150 kbps, with cancellation and a margin
of 6 dB; an emitter bound; the sequencer configured. -/
def air : State :=
  up |> cfg 0x0401 1 [1, 915900, 0, 1] |> cfg 0x0420 9 [BitVec.ofNat 32 (9 + 64 + 256 + 65536 + 12 * 2 ^ 24), 918400, 20, 0x03]
    |> cfg 0x0421 2 [BitVec.ofNat 32 (2 + 16 + 256)] |> cfg 0x06C0 0 [0xFFFE1234, 0x11111111, 0x22222222, BitVec.ofNat 32 (1000 + 10 * 65536), BitVec.ofNat 32 (500 + 1000 * 65536)]
    |> setF F.airRfStatus_synth 1 0 |> setF F.airLstStatus_ctx0_state 9 0 |> setF F.airLstStatus_ctx1_state 9 0

/-- L9 with frames in its contexts. -/
def held (l : Lst) (a b : Nat) (s : State) : State :=
  setLst 9 l s |> setF F.airLstStatus_ctx0_state 9 a |> setF F.airLstStatus_ctx1_state 9 b
/-- A frame as a context holds it. -/
def rx (id : Option Nat) (ts : Nat) : RxCtx := { slot := 0, mode := 3, detAt := 1000, sfdAt := 2000, ts := ts, level := -400, len := 80, recId := id, endAt := 5000000 }
/-- Its record. -/
def rec1 : Rec := { id := 1, listener := 9, ctx := 0, slot := 0, mode := 3, ts := 5, level := -400, len := 80, endAt := 5000000 }
/-- A captured pair on L9: the weaker frame in context 0, with record 1. -/
def pair1 : Pair := { o := 2000, strong := 1, weak := some 1 }
/-- With record 1, and record 2 of the stronger frame. -/
def recs2 (s : State) : State := { s with recs := [rec1, { rec1 with id := 2, ctx := 1, captured := true }], nextRec := 3 }
/-- L9 in a capture. -/
def capt (a : Nat) (x y : Option RxCtx) (c0 c1 : Nat) (p : Pair) (rc : Option Nat) : State :=
  recs2 (held { c0 := x, c1 := y, pair := some p, recon := rc } c0 c1 air) |> setF F.airLstStatus_primary 9 a

/-- The neighbour with handle 5, its key in vault entry 3, and a frame in its flow of class 1. -/
def nbr5 : Nbr := { b := { ext := 0xAA55, txMode := 3, power := 20, retryLimit := 2, unsecuredOk := true, keyRef := (0xC003, 0), flows := ({}, { frames := [{ id := 40, enq := 0, octets := 30, pages := 1, group := 2 }] }, {}, {}) } }
/-- `air` with that neighbour. -/
def mesh : State :=
  { air with nbrs := [(5, nbr5)], keys := { air.keys with rootOk := true, cache := [3], vault := [(3, { a := some ⟨0, 1, 16, 1, false, 6, 1, 0, 99⟩, leases := [(0, (0x40000, 1))], next := 1 })] } }
/-- A data frame of it to the part: secured at level 6, with frame counter 10. -/
def sec1 : Frame := { ftype := 1, version := 2, secured := true, ackReq := true, seq := some 7, dstPan := 0x1234, dst := .ext 0x2222222211111111, srcPan := 0x1234, src := .ext 0xAA55, aux := some { level := 6, kim := 1, index := 1, ctr := 10 } }
/-- The same, unsecured, of version 1. -/
def plain1 : Frame := { sec1 with version := 1, secured := false, aux := none }
/-- An Imm-Ack. -/
def ack1 : Frame := { ftype := 2, version := 1, seq := some 7, dstPan := 0x1234, dst := .absent }
/-- A record of it whose trailer reads FCS_OK. -/
def recF (f : Frame) : Rec := { rec1 with frame := some f, handle := some 5, trailer := some (1, false, false, 0) }
/-- `mesh` with one record. -/
def withRec (r : Rec) : State := { mesh with recs := [r], nextRec := 2 }
/-- An attempt of its frame that awaits its acknowledgement. -/
def tx1 : Tx := { kind := 0, phase := 8, start := 100, mode := 3, khz := 918400, handle := 5, cls := 1, seq := 7, ackReq := true, frameId := 40, ackFrom := 0, ackTo := 2000000 }
/-- What an emitter sends, at a phase of it. -/
def tx2 (k p : Nat) : Tx := { kind := k, phase := p, start := 100000, mode := 3, khz := 918400, width := 200, len := 40, air := 4000000, power := 200, rampAt := 92000, handle := 5, cls := 1, seq := 7, ackReq := true, frameId := 40 }
/-- `mesh` with it on emitter 2. -/
def onEm (t : Tx) : State := setEm 2 { em mesh 2 with tx := some t } mesh
/-- A contact with the neighbour, and a cell granted to it. -/
def contact5 : Contact := { handle := 5, cls := 1, port := 1, khz := 918400, tnom := 900000, rdv := 1000000, uw := 100000, full := false, start := 1000000, ackEnd := 9000000, emitter := 2 }
def offer5 : SlotTx := { asn := 3, sf := 0, handle := some 5, cls := 1, beacon := false, shared := false, port := 1, khz := 918400, plan := 0, channel := 0, mode := 3, start := 2000000, air := 4000000, ackFrom := 6900000, ackTo := 7100000, emitter := some 2, listener := some 9 }
/-- A running schedule: slots of 20 ms on slotframe 0, five slots long, of hop pool 0 with listener L10, its sequence the channel at
914,600 kHz of plan 0; ASN 100 in progress since keep time 1 s; a dedicated RX cell for the neighbour in slot offset 1, and a TX cell in 2. -/
def sched : State :=
  let s := mesh |> cfg 0x0501 0 [BitVec.ofNat 32 (2000 * 65536), BitVec.ofNat 32 (212 + 220 * 65536), BitVec.ofNat 32 (300 + 100 * 65536), 40, 30]
    |> cfg 0x0502 0 [65536, 0] |> cfg 0x0503 0 [0x100, 5] |> cfg 0x0422 0 [BitVec.ofNat 32 (16 + 4 * 65536), 914600, 200]
    |> cfg 0x0420 10 [BitVec.ofNat 32 (10 + 64 + 512 + 12 * 2 ^ 24), 0, 20, 0x03] |> setF F.keepTimeState_source_ok 0 1
  { s with
    time := { s.time with ns := 1001000000 }
    slm := { s.slm with
      epoch := some (1000000000, 100), asn := some 100, look := some 163
      cells := [⟨0, 1, 0, 2, some 5, 0, none⟩, ⟨0, 2, 0, 1, some 5, 0, none⟩] } }
/-- With slot 101 in progress. -/
def sched2 : State := { sched with time := { sched.time with ns := 1021000000 }, slm := { sched.slm with asn := some 101 } }
/-- With the neighbour sampled, always listening on channel 0 of plan 0. -/
def csl : State := { sched with nbrs := [(5, { nbr5 with b := { nbr5.b with sampled := true, timing := 4, sync := 1001000000 } })] }
/-- The same with a period of 200 ms. -/
def csl2 : State := { csl with nbrs := [(5, { nbr5 with b := { nbr5.b with sampled := true, timing := 4, sync := 1001000000, period := 200 } })] }
/-- The contacts that are placed in them. -/
def contact6 : Contact := { handle := 5, tnom := 1016058000, uw := 0, full := false, emitter := 2, port := 1, khz := 914600, cls := 1, stage := 1, rdv := 1016058000, start := 1016058000, ackEnd := 1021478001, listener := some 10 }
def contact7 : Contact := { contact6 with tnom := 1200000000, uw := 2000000, stage := 0, rdv := 1202000000, start := 1202000000, ackEnd := 1207420001 }
/-- Nothing beside the part decides, no outcome is out of the ordinary. -/
def env0 : Env := {}
/-- DRAM is trained, and the neighbour's record is as given. -/
def mesh5 (n : Nbr) : State := { mesh with nbrs := [(5, n)] } |> setF F.netDdrStatus_trained 0 1 |> cfg 0x0609 0 [BitVec.ofNat 32 (1024 + 60 * 65536 + 4 * 2 ^ 28)]
/-- So many pinned neighbours beside it that fewer than free_reserve berths are free. -/
def others : List (Nat × Nbr) := (List.range' 6 31800).map (fun h => (h, { nbr5 with b := { nbr5.b with hostPin := true } }))
def crowded (n : Nbr) : State := { mesh5 n with nbrs := (5, n) :: others }
/-- The neighbour with pages of its frame spilled. -/
def spill5 (k : Nat) : Nbr := { nbr5 with b := { nbr5.b with flows := ({}, { frames := [{ id := 40, enq := 0, octets := 30, pages := 1, group := 2, spilled := k }] }, {}, {}) } }
/-- An item for the flow cores. -/
def item1 : CoreItem := { id := 7, cls := 1, dflow := 21, what := 2, pages := 1, len := 60, handle := 5 }
/-- A packet of 100 octets to 2001:db8::5, and how it waits for its decision. -/
def pkt1 : Pkt := { src := 0x0100000000000000000000000B80D0120, dst := 0x05000000000000000000000000B80D0120, hop := 64, len := 100 }
def up1 (o : Nat) (p : Pkt) : UpPkt := { pkt := p, origin := o, handle := 0, pages := 0 }
/-- A reassembly that has received its first 200 octets. -/
def reasm1 : Reasm := { handle := 5, tag := 9, size := 300, first := 5, latest := 5, parts := [(0, 200)], pages := 1, pkt := pkt1, headDie := true }
/-- Keep time in state `st`, at 5 s, with source `src` and policy `pol` (1 guard, 2 glide), jump_ns 1,000 and a time constant of 8 s; the
last sync was 125 ms ago. -/
def timed (src pol st : Nat) : State :=
  let s := up |> cfg 0x0901 0 [BitVec.ofNat 32 (src + pol * 65536 + 8 * 2 ^ 24), 1000] |> setF F.keepTimeState_state 0 st |> setF F.netEthStatus_link 0 1
  { s with time := { s.time with ns := 5000000000, lastSync := some 4875000000, lastGlide := pol == 2 } }
/-- Timer element 9 set up: configuration word, effective reload, count. -/
def timer9 (c eff n : Nat) (s : State) : State :=
  let s := tmrCfgWrite 9 (BitVec.ofNat 32 (c + 4096)) s
  { s with time := { s.time with tmrs := [(9, { eff := eff })] } } |> setF F.keepTmrCount_count 9 n
/-- Ring `r` enabled, of 64 descriptors and type `ty`, with one descriptor that the part owns; the function may master. -/
def ringed (r ty : Nat) (s : State) : State :=
  ({ s with net := { s.net with busMaster := true } }) |> setF F.netRingCfg_enable r 1 |> setF F.netRingCfg_size_log2 r 6 |> setF F.netRingCfg_type r ty
    |> setF F.netRingTail_tail r 6 |> setF F.netRingHead_head r 5
/-- With vault entry 9 a key of a usage, and cached. -/
def keyed (usage : Nat) (s : State) : State :=
  { s with keys := { s.keys with rootOk := true, cache := [9], vault := [(9, { a := some ⟨0, usage, 16, 0, false, 0, 0, 0, 99⟩, leases := [(0, (0x40000, 1))], next := 17 })] } }
/-- A delivery of 100 octets to ring 3. -/
def deliv1 : Delivery := { ring := 3, kind := 0, len := 100, handle := 5, cls := 2, pages := 1, group := 5, ts := 77, reason := 1 }
def ethf (p : EthPay) : EthFrame := { len := 200, dst := 0x0605040302, src := 0x1111111110, pay := p }
/-- Port ETH0 up, with MAC address 02:03:04:05:06:00. -/
def eth0 : State := up |> cfg 0x0140 0 [BitVec.ofNat 32 (2 + 4 + 1500 * 65536), 0, 0x05040302, 0x0006] |> setF F.netEthStatus_link 0 1
/-- A cluster port ETH0 with its link up; root_priority `rp`, the time interval 125 ms, budget 200 µs. -/
def clus (rp : Nat) : State :=
  eth0 |> cfg 0x0B01 0 [BitVec.ofNat 32 (3 + 256 * rp + 4 * 65536), 200000, 0x88B5, 7, 0, 0x05040302, 0x0106]
/-- A HELLO that offers a root of priority 50, and the header of a frame. -/
def hello1 (root : Nat) : HelloBody := { root := root, priority := 50, acc := 700, part := 1, unitId := 9, keyUnitId := 3 }
def yh (c q : Nat) : YowHdr := { cluster := 7, sender := 88, claim := c, seq := q }
/-- The same with such a peer on ETH0. -/
def peered (root : Nat) : State := { clus 0 with yow := { (clus 0).yow with links := [(0, { peer := some ⟨88, hello1 root⟩, delay := 300 })] } }
/-- A unit of a torch pair on ETH0 with claim 0x8001 of its own, in a role, with a winner of the last round. -/
def torch (role winner : Nat) : State :=
  let s := clus 0 |> cfg 0x0B02 0 [BitVec.ofNat 32 (1 + 0x80 * 256 + 65536 + 2 * 2 ^ 24), BitVec.ofNat 32 (10 + 100 * 256)]
    |> setF F.keepTorchStatus_role 0 role |> setF F.keepTorchStatus_winner 0 winner |> setF F.keepTorchClaim_own_claim 0 0x8001
    |> setF F.keepTorchStatus_emitter_gate 0 (if role = 1 then 1 else 0)
  { s with now := 9000000, time := { s.time with ns := 9000000 }, torch := { s.torch with peerOk := true, lastStart := 1000, lastEnd := 901000 } }
def ack5 : MirrorAck := { seq := 4, mirror := 0, leases := [(3, 0x80000)] }

/-! For every statement with hypotheses, states and operands that meet those of each clause together. -/

theorem meets_SuppliesFallAndRecover :
    ((serving up = true)
      ∧ (tabFind up.pwr.dip (railCode (.core : CoreRail)) = none)
      ∧ (domOn up 2 = true))
    ∧ ((serving ((up |> setF F.keepPwrState_state 24 2) : State) = true)
      ∧ (getB F.keepPwrSupply_io33_low 0 ((up |> setF F.keepPwrState_state 24 2) : State) = false)
      ∧ (domOn ((up |> setF F.keepPwrState_state 24 2) : State) 24 = false))
    ∧ ((serving up = true)
      ∧ (getB F.keepPwrSupply_io33_low 0 up = false)
      ∧ (domOn up 24 = true)
      ∧ (pcieUsed up = true))
    ∧ ((serving up = true)
      ∧ (bitOf up.fuse.net 0 = true)
      ∧ (ddrRailLow (.vddq : DdrRail) up = false))
    ∧ ((getB F.keepPwrWick_lp_mode 0 ((up |> setF F.keepPwrWick_lp_mode 0 1) : State) = true)
      ∧ (domOn ((up |> setF F.keepPwrWick_lp_mode 0 1) : State) 1 = true))
    ∧ (getB F.keepPwrClk_wick_on_rc 0 ((up |> setF F.keepPwrClk_wick_on_rc 0 0) : State) = false)
    ∧ (tabFind ({ up with pwr := { up.pwr with dip := [(0, 5)] } } : State).pwr.dip (railCode (.core : CoreRail)) = some (5 : Nat))
    ∧ ((getB F.keepPwrSupply_tx_hold 0 ((up |> setF F.keepPwrSupply_tx_hold 0 1) : State) = true)
      ∧ (((up |> setF F.keepPwrSupply_tx_hold 0 1) : State).pwr.dip = [])
      ∧ (((up |> setF F.keepPwrSupply_tx_hold 0 1) : State).pwr.deferred = [])
      ∧ (((up |> setF F.keepPwrSupply_tx_hold 0 1) : State).lanes = []))
    ∧ ((serving ((up |> setF F.keepPwrSupply_io33_low 0 1) : State) = true)
      ∧ (getB F.keepPwrSupply_io33_low 0 ((up |> setF F.keepPwrSupply_io33_low 0 1) : State) = true))
    ∧ ((serving (({ up with pwr := { up.pwr with vddqLow := true } } |> setF F.keepPwrState_state 25 2) : State) = true)
      ∧ (ddrRailLow (.vddq : DdrRail) (({ up with pwr := { up.pwr with vddqLow := true } } |> setF F.keepPwrState_state 25 2) : State) = true)
      ∧ (ddrRailLow (if (.vddq : DdrRail) = .vddq then .vdd2 else .vddq) (({ up with pwr := { up.pwr with vddqLow := true } } |> setF F.keepPwrState_state 25 2) : State) = false)
      ∧ (ddrPresent (({ up with pwr := { up.pwr with vddqLow := true } } |> setF F.keepPwrState_state 25 2) : State) = true)
      ∧ (domState (({ up with pwr := { up.pwr with vddqLow := true } } |> setF F.keepPwrState_state 25 2) : State) 25 = 2)
      ∧ (domOn (({ up with pwr := { up.pwr with vddqLow := true } } |> setF F.keepPwrState_state 25 2) : State) 1 = true)
      ∧ (domDead (({ up with pwr := { up.pwr with vddqLow := true } } |> setF F.keepPwrState_state 25 2) : State) 1 = false)
      ∧ (deferring (({ up with pwr := { up.pwr with vddqLow := true } } |> setF F.keepPwrState_state 25 2) : State) = false)
      ∧ ((({ up with pwr := { up.pwr with vddqLow := true } } |> setF F.keepPwrState_state 25 2) : State).pwr.refLost = false)) := by
  refine ⟨?_, ?_, ?_, ?_, ?_, ?_, ?_, ?_, ?_, ?_⟩
  all_goals decide +kernel

theorem meets_ResetCausesResetThePart :
    (1000 ≤ (1000 : Nat))
    ∧ ((5 : Nat) < 1000)
    ∧ ((serving up = true)
      ∧ (up.start.imageStep = true)
      ∧ ((paramW up 0x0113 0 1).toNat ≤ (65535 : Nat)))
    ∧ ((serving ({ up with start := { up.start with imageStep := false } } : State) = true)
      ∧ (({ up with start := { up.start with imageStep := false } } : State).start.imageStep = false)
      ∧ (500 ≤ (500 : Nat))) := by
  refine ⟨?_, ?_, ?_, ?_⟩
  all_goals decide +kernel

theorem meets_StartSequenceEndsServing :
    ((State.reset.start.resetDue = none)
      ∧ (State.reset.start.testHeld = false)
      ∧ (getF F.keepStart_phase 0 State.reset = 0)
      ∧ (({ testEn := true } : StartEnv).testEn = true))
    ∧ ((State.reset.start.resetDue = none)
      ∧ (State.reset.start.testHeld = false)
      ∧ (getF F.keepStart_phase 0 State.reset = 0)
      ∧ (({} : StartEnv).testEn = false)
      ∧ (({} : StartEnv).dead.contains 1 = false))
    ∧ ((State.reset.start.resetDue = none)
      ∧ (State.reset.start.testHeld = false)
      ∧ (getF F.keepStart_phase 0 State.reset = 0)
      ∧ (({ dead := [1] } : StartEnv).testEn = false)
      ∧ (({ dead := [1] } : StartEnv).dead.contains 1 = true)
      ∧ (domState State.reset 1 = 2)) := by
  refine ⟨?_, ?_, ?_⟩
  all_goals decide +kernel

theorem meets_ReferenceLostAndRestored :
    ((serving up = true)
      ∧ (up.pwr.refLost = false)
      ∧ (up.start.gateReady = true))
    ∧ (((({ up with pwr := { up.pwr with refLost := true } } |> setF F.keepPwrClk_ref_ok 0 0) : State).pwr.refLost = true)
      ∧ (getB F.keepPwrClk_ref_ok 0 (({ up with pwr := { up.pwr with refLost := true } } |> setF F.keepPwrClk_ref_ok 0 0) : State) = false)) := by
  refine ⟨?_, ?_⟩
  all_goals decide +kernel

theorem meets_DomainsWakeAndFail :
    ((1 ≤ (5 : Fin 23).val)
      ∧ (wakesAtOnce (20 : Fin 26) ((up |> setF F.keepPwrState_state 20 1) : State) = true))
    ∧ (domOn up (20 : Fin 26) = true)
    ∧ ((0 < (20 : Fin 26).val)
      ∧ (((up |> setF F.keepPwrState_state 20 2 |> setF F.keepPwrState_waking 20 1) : State).start.testHeld = false)
      ∧ (domPresent ((up |> setF F.keepPwrState_state 20 2 |> setF F.keepPwrState_waking 20 1) : State) (20 : Fin 26) = true)
      ∧ (domState ((up |> setF F.keepPwrState_state 20 2 |> setF F.keepPwrState_waking 20 1) : State) (20 : Fin 26) = 2)
      ∧ (getB F.keepPwrState_waking (20 : Fin 26) ((up |> setF F.keepPwrState_state 20 2 |> setF F.keepPwrState_waking 20 1) : State) = true)
      ∧ (getF F.keepPwrState_retries (20 : Fin 26) ((up |> setF F.keepPwrState_state 20 2 |> setF F.keepPwrState_waking 20 1) : State) < 2))
    ∧ ((1 < (20 : Fin 26).val)
      ∧ (((up |> setF F.keepPwrState_state 20 2 |> setF F.keepPwrState_waking 20 1 |> setF F.keepPwrState_retries 20 2) : State).start.testHeld = false)
      ∧ (domPresent ((up |> setF F.keepPwrState_state 20 2 |> setF F.keepPwrState_waking 20 1 |> setF F.keepPwrState_retries 20 2) : State) (20 : Fin 26) = true)
      ∧ (domState ((up |> setF F.keepPwrState_state 20 2 |> setF F.keepPwrState_waking 20 1 |> setF F.keepPwrState_retries 20 2) : State) (20 : Fin 26) = 2)
      ∧ (getB F.keepPwrState_waking (20 : Fin 26) ((up |> setF F.keepPwrState_state 20 2 |> setF F.keepPwrState_waking 20 1 |> setF F.keepPwrState_retries 20 2) : State) = true)
      ∧ (getF F.keepPwrState_retries (20 : Fin 26) ((up |> setF F.keepPwrState_state 20 2 |> setF F.keepPwrState_waking 20 1 |> setF F.keepPwrState_retries 20 2) : State) = 2))
    ∧ ((getB F.keepPwrState_waking (20 : Fin 26) ((up |> setF F.keepPwrState_state 20 2 |> setF F.keepPwrState_waking 20 1) : State) = true)
      ∧ (tabFind ((up |> setF F.keepPwrState_state 20 2 |> setF F.keepPwrState_waking 20 1) : State).pwr.deferred (20 : Fin 26) = none)
      ∧ (railsHold ((up |> setF F.keepPwrState_state 20 2 |> setF F.keepPwrState_waking 20 1) : State) (20 : Fin 26) = false)
      ∧ (domPresent ((up |> setF F.keepPwrState_state 20 2 |> setF F.keepPwrState_waking 20 1) : State) (20 : Fin 26) = true)
      ∧ ((∀ e ∈ (Config.dom (20 : Fin 26)).deps, domState ((up |> setF F.keepPwrState_state 20 2 |> setF F.keepPwrState_waking 20 1) : State) e = 0)))
    ∧ (((up |> setF F.keepPwrState_state 20 2 |> setF F.keepPwrState_waking 20 1) : State).start.testHeld = false) := by
  refine ⟨?_, ?_, ?_, ?_, ?_, ?_⟩
  all_goals decide +kernel

theorem meets_DomainsStop :
    ((memberOn ({ up with pwr := { up.pwr with active := some (1, 2 ^ 20, 0, 0) } } : State) (20 : Fin 26) = some ((1 : Nat), false, (0 : Nat)))
      ∧ (dependantOn ({ up with pwr := { up.pwr with active := some (1, 2 ^ 20, 0, 0) } } : State) (20 : Fin 26) = false)
      ∧ (refusal ({ up with pwr := { up.pwr with active := some (1, 2 ^ 20, 0, 0) } } : State) (20 : Fin 26) false none = none))
    ∧ ((memberOn ({ up with pwr := { up.pwr with active := some (1, 2 ^ 20, 0, 0) }, trf := { up.trf with items := [{ item1 with core := some 1 }] } } : State) (20 : Fin 26) = some ((1 : Nat), false, (0 : Nat)))
      ∧ (dependantOn ({ up with pwr := { up.pwr with active := some (1, 2 ^ 20, 0, 0) }, trf := { up.trf with items := [{ item1 with core := some 1 }] } } : State) (20 : Fin 26) = false)
      ∧ (refusal ({ up with pwr := { up.pwr with active := some (1, 2 ^ 20, 0, 0) }, trf := { up.trf with items := [{ item1 with core := some 1 }] } } : State) (20 : Fin 26) false none = some (5 : Nat)))
    ∧ ((memberOn ({ up with pwr := { up.pwr with active := some (1, 2 ^ 20, 0, 0) } } : State) (20 : Fin 26) = some ((1 : Nat), false, (0 : Nat)))
      ∧ (dependantOn ({ up with pwr := { up.pwr with active := some (1, 2 ^ 20, 0, 0) } } : State) (20 : Fin 26) = false))
    ∧ ((memberOn ({ up with pwr := { up.pwr with active := some (1, 2 ^ 20, 0, 9) } } : State) (20 : Fin 26) = some ((1 : Nat), false, (9 : Nat)))
      ∧ (0 < (9 : Nat))
      ∧ (dependantOn ({ up with pwr := { up.pwr with active := some (1, 2 ^ 20, 0, 9) } } : State) (20 : Fin 26) = false)
      ∧ (getB F.keepPwrState_waking (20 : Fin 26) ({ up with pwr := { up.pwr with active := some (1, 2 ^ 20, 0, 9) } } : State) = false)
      ∧ (refusal ({ up with pwr := { up.pwr with active := some (1, 2 ^ 20, 0, 9) } } : State) (20 : Fin 26) false none = none)) := by
  refine ⟨?_, ?_, ?_, ?_⟩
  all_goals decide +kernel

theorem meets_PreamblesAreDetectedAndChecked :
    ((Claims.hears air (9 : Fin 64) = true)
      ∧ (lstMode air (9 : Fin 64) (0 : Fin 4) ≠ 0)
      ∧ ((lst air (9 : Fin 64)).c0 = none)
      ∧ ((lst air (9 : Fin 64)).c1 = none)
      ∧ (ctxState air (9 : Fin 64) (primary air (9 : Fin 64)) = 0)
      ∧ (ctxSearches air (9 : Fin 64) (primary air (9 : Fin 64)) = true)
      ∧ ((lst air (9 : Fin 64)).pair = none))
    ∧ ((Claims.hears ((held { c0 := some (rx none 0) } 1 0 air) : State) (9 : Fin 64) = true)
      ∧ (lstMode ((held { c0 := some (rx none 0) } 1 0 air) : State) (9 : Fin 64) (0 : Fin 4) ≠ 0)
      ∧ (primary ((held { c0 := some (rx none 0) } 1 0 air) : State) (9 : Fin 64) = 0)
      ∧ (ctxState ((held { c0 := some (rx none 0) } 1 0 air) : State) (9 : Fin 64) 0 = 1)
      ∧ ((lst ((held { c0 := some (rx none 0) } 1 0 air) : State) (9 : Fin 64)).c0.isSome = true)
      ∧ (ctxState ((held { c0 := some (rx none 0) } 1 0 air) : State) (9 : Fin 64) 1 = 0)
      ∧ (ctxSearches ((held { c0 := some (rx none 0) } 1 0 air) : State) (9 : Fin 64) 1 = true)
      ∧ ((lst ((held { c0 := some (rx none 0) } 1 0 air) : State) (9 : Fin 64)).c1 = none)
      ∧ ((lst ((held { c0 := some (rx none 0) } 1 0 air) : State) (9 : Fin 64)).pair = none))
    ∧ ((Claims.hears ((held { c0 := some (rx (some 1) 5) } 2 0 air) : State) (9 : Fin 64) = true)
      ∧ (lstMode ((held { c0 := some (rx (some 1) 5) } 2 0 air) : State) (9 : Fin 64) (0 : Fin 4) ≠ 0)
      ∧ (primary ((held { c0 := some (rx (some 1) 5) } 2 0 air) : State) (9 : Fin 64) = 0)
      ∧ (ctxState ((held { c0 := some (rx (some 1) 5) } 2 0 air) : State) (9 : Fin 64) 0 = 2)
      ∧ ((lst ((held { c0 := some (rx (some 1) 5) } 2 0 air) : State) (9 : Fin 64)).c0.isSome = true)
      ∧ (ctxState ((held { c0 := some (rx (some 1) 5) } 2 0 air) : State) (9 : Fin 64) 1 = 0)
      ∧ (ctxSearches ((held { c0 := some (rx (some 1) 5) } 2 0 air) : State) (9 : Fin 64) 1 = true)
      ∧ ((lst ((held { c0 := some (rx (some 1) 5) } 2 0 air) : State) (9 : Fin 64)).c1 = none)
      ∧ ((lst ((held { c0 := some (rx (some 1) 5) } 2 0 air) : State) (9 : Fin 64)).pair = none))
    ∧ ((Claims.hears ((held { c0 := some (rx (some 1) 5) } 2 0 air) : State) (9 : Fin 64) = true)
      ∧ ((ctx (lst ((held { c0 := some (rx (some 1) 5) } 2 0 air) : State) (9 : Fin 64)) (primary ((held { c0 := some (rx (some 1) 5) } 2 0 air) : State) (9 : Fin 64))).isSome = true))
    ∧ ((ctxState ((held { c1 := some (rx none 0) } 0 1 air) : State) (9 : Fin 64) (1 : Fin 2) = 1)
      ∧ ((ctx (lst ((held { c1 := some (rx none 0) } 0 1 air) : State) (9 : Fin 64)) (1 : Fin 2)).isSome = true)
      ∧ ((lst ((held { c1 := some (rx none 0) } 0 1 air) : State) (9 : Fin 64)).pair = none)
      ∧ (getB F.airLstFreq_retuning (9 : Fin 64) ((held { c1 := some (rx none 0) } 0 1 air) : State) = false))
    ∧ ((ctx (lst ((held { c0 := some (rx none 0) } 1 0 air) : State) (9 : Fin 64)) (0 : Fin 2) = some ((rx none 0) : RxCtx))
      ∧ (ctxState ((held { c0 := some (rx none 0) } 1 0 air) : State) (9 : Fin 64) (0 : Fin 2) = 1)
      ∧ (((rx none 0) : RxCtx).ts = 0)
      ∧ ((lst ((held { c0 := some (rx none 0) } 1 0 air) : State) (9 : Fin 64)).test = false)
      ∧ (((rx none 0) : RxCtx).captured = false)
      ∧ (isFsk ((rx none 0) : RxCtx).mode = false ∨ sfdMode ((rx none 0) : RxCtx).mode false ∈ lstModes ((held { c0 := some (rx none 0) } 1 0 air) : State) (9 : Fin 64)))
    ∧ ((ctx (lst ((held { c0 := some (rx none 9) } 1 0 air) : State) (9 : Fin 64)) (0 : Fin 2) = some ((rx none 9) : RxCtx))
      ∧ (ctxState ((held { c0 := some (rx none 9) } 1 0 air) : State) (9 : Fin 64) (0 : Fin 2) = 1)
      ∧ (((rx none 9) : RxCtx).ts ≠ 0)
      ∧ (({ ok := true, mode := 3, len := 0 } : Phr).ok = true)
      ∧ (modeOk ({ ok := true, mode := 3, len := 0 } : Phr).mode = true)
      ∧ (samePreamble ((rx none 9) : RxCtx).mode ({ ok := true, mode := 3, len := 0 } : Phr).mode = true)
      ∧ ((admitSlot ((held { c0 := some (rx none 9) } 1 0 air) : State) (9 : Fin 64) ((rx none 9) : RxCtx).slot ({ ok := true, mode := 3, len := 0 } : Phr).mode).isSome = true)
      ∧ (({ ok := true, mode := 3, len := 0 } : Phr).len = 0)
      ∧ ((lst ((held { c0 := some (rx none 9) } 1 0 air) : State) (9 : Fin 64)).pair = none)
      ∧ (getB F.airLstFreq_retuning (9 : Fin 64) ((held { c0 := some (rx none 9) } 1 0 air) : State) = false))
    ∧ ((ctx (lst ((held { c0 := some (rx none 9) } 1 0 air) : State) (9 : Fin 64)) (0 : Fin 2) = some ((rx none 9) : RxCtx))
      ∧ (ctxState ((held { c0 := some (rx none 9) } 1 0 air) : State) (9 : Fin 64) (0 : Fin 2) = 1)
      ∧ (((rx none 9) : RxCtx).ts ≠ 0)
      ∧ (({ ok := false, mode := 3, len := 9 } : Phr).ok = false)
      ∧ ((lst ((held { c0 := some (rx none 9) } 1 0 air) : State) (9 : Fin 64)).pair = none)
      ∧ (getB F.airLstFreq_retuning (9 : Fin 64) ((held { c0 := some (rx none 9) } 1 0 air) : State) = false))
    ∧ ((ctx (lst ((held { c0 := some (rx none 9) } 1 0 air) : State) (9 : Fin 64)) (0 : Fin 2) = some ((rx none 9) : RxCtx))
      ∧ (ctxState ((held { c0 := some (rx none 9) } 1 0 air) : State) (9 : Fin 64) (0 : Fin 2) = 1)
      ∧ (((rx none 9) : RxCtx).ts ≠ 0)
      ∧ (({ ok := true, mode := 3, len := 80 } : Phr).ok = true)
      ∧ (modeOk ({ ok := true, mode := 3, len := 80 } : Phr).mode = true)
      ∧ (isGt ({ ok := true, mode := 3, len := 80 } : Phr).mode = false)
      ∧ (samePreamble ((rx none 9) : RxCtx).mode ({ ok := true, mode := 3, len := 80 } : Phr).mode = true)
      ∧ (admitSlot ((held { c0 := some (rx none 9) } 1 0 air) : State) (9 : Fin 64) ((rx none 9) : RxCtx).slot ({ ok := true, mode := 3, len := 80 } : Phr).mode = some (0 : Nat))
      ∧ (({ ok := true, mode := 3, len := 80 } : Phr).len ≠ 0)
      ∧ (({ ok := true, mode := 3, len := 80 } : Phr).len ≤ maxPsdu ({ ok := true, mode := 3, len := 80 } : Phr).mode)
      ∧ (recWords ({ ok := true, mode := 3, len := 80 } : Phr).len ≤ ftqFree ((held { c0 := some (rx none 9) } 1 0 air) : State) (9 : Fin 64)))
    ∧ ((ctx (lst (({ held { c0 := some (rx none 9) } 1 0 air with recs := [{ rec1 with len := 2047 }, { rec1 with len := 2047 }, { rec1 with len := 2047 }] }) : State) (9 : Fin 64)) (0 : Fin 2) = some ((rx none 9) : RxCtx))
      ∧ (ctxState (({ held { c0 := some (rx none 9) } 1 0 air with recs := [{ rec1 with len := 2047 }, { rec1 with len := 2047 }, { rec1 with len := 2047 }] }) : State) (9 : Fin 64) (0 : Fin 2) = 1)
      ∧ (((rx none 9) : RxCtx).ts ≠ 0)
      ∧ (({ ok := true, mode := 3, len := 2000 } : Phr).ok = true)
      ∧ (modeOk ({ ok := true, mode := 3, len := 2000 } : Phr).mode = true)
      ∧ (isGt ({ ok := true, mode := 3, len := 2000 } : Phr).mode = false)
      ∧ (samePreamble ((rx none 9) : RxCtx).mode ({ ok := true, mode := 3, len := 2000 } : Phr).mode = true)
      ∧ ((admitSlot (({ held { c0 := some (rx none 9) } 1 0 air with recs := [{ rec1 with len := 2047 }, { rec1 with len := 2047 }, { rec1 with len := 2047 }] }) : State) (9 : Fin 64) ((rx none 9) : RxCtx).slot ({ ok := true, mode := 3, len := 2000 } : Phr).mode).isSome = true)
      ∧ (({ ok := true, mode := 3, len := 2000 } : Phr).len ≠ 0)
      ∧ (({ ok := true, mode := 3, len := 2000 } : Phr).len ≤ maxPsdu ({ ok := true, mode := 3, len := 2000 } : Phr).mode)
      ∧ (ftqFree (({ held { c0 := some (rx none 9) } 1 0 air with recs := [{ rec1 with len := 2047 }, { rec1 with len := 2047 }, { rec1 with len := 2047 }] }) : State) (9 : Fin 64) < recWords ({ ok := true, mode := 3, len := 2000 } : Phr).len)
      ∧ ((lst (({ held { c0 := some (rx none 9) } 1 0 air with recs := [{ rec1 with len := 2047 }, { rec1 with len := 2047 }, { rec1 with len := 2047 }] }) : State) (9 : Fin 64)).pair = none)
      ∧ (getB F.airLstFreq_retuning (9 : Fin 64) (({ held { c0 := some (rx none 9) } 1 0 air with recs := [{ rec1 with len := 2047 }, { rec1 with len := 2047 }, { rec1 with len := 2047 }] }) : State) = false)) := by
  refine ⟨?_, ?_, ?_, ?_, ?_, ?_, ?_, ?_, ?_, ?_⟩
  all_goals decide +kernel

theorem meets_CapturesAndCancellations :
    ((primary ((recs2 (held { c0 := some (rx (some 1) 5), c1 := some (rx none 0), test := true } 2 1 air)) : State) (9 : Fin 64) = 0)
      ∧ ((lst ((recs2 (held { c0 := some (rx (some 1) 5), c1 := some (rx none 0), test := true } 2 1 air)) : State) (9 : Fin 64)).test = true)
      ∧ ((lst ((recs2 (held { c0 := some (rx (some 1) 5), c1 := some (rx none 0), test := true } 2 1 air)) : State) (9 : Fin 64)).c0 = some ((rx (some 1) 5) : RxCtx))
      ∧ ((lst ((recs2 (held { c0 := some (rx (some 1) 5), c1 := some (rx none 0), test := true } 2 1 air)) : State) (9 : Fin 64)).c1 = some ((rx none 0) : RxCtx))
      ∧ (ctxState ((recs2 (held { c0 := some (rx (some 1) 5), c1 := some (rx none 0), test := true } 2 1 air)) : State) (9 : Fin 64) 1 ≠ 7)
      ∧ (((rx (some 1) 5) : RxCtx).level + lstMargin ((recs2 (held { c0 := some (rx (some 1) 5), c1 := some (rx none 0), test := true } 2 1 air)) : State) (9 : Fin 64) ≤ rssiOf ((recs2 (held { c0 := some (rx (some 1) 5), c1 := some (rx none 0), test := true } 2 1 air)) : State) (lstPort ((recs2 (held { c0 := some (rx (some 1) 5), c1 := some (rx none 0), test := true } 2 1 air)) : State) (9 : Fin 64)) ((-300) : Int)))
    ∧ ((primary ((recs2 (held { c0 := some (rx (some 1) 5), c1 := some (rx none 0), test := true } 2 1 air)) : State) (9 : Fin 64) = 0)
      ∧ ((lst ((recs2 (held { c0 := some (rx (some 1) 5), c1 := some (rx none 0), test := true } 2 1 air)) : State) (9 : Fin 64)).test = true)
      ∧ ((lst ((recs2 (held { c0 := some (rx (some 1) 5), c1 := some (rx none 0), test := true } 2 1 air)) : State) (9 : Fin 64)).c0 = some ((rx (some 1) 5) : RxCtx))
      ∧ ((lst ((recs2 (held { c0 := some (rx (some 1) 5), c1 := some (rx none 0), test := true } 2 1 air)) : State) (9 : Fin 64)).c1 = some ((rx none 0) : RxCtx))
      ∧ (ctxState ((recs2 (held { c0 := some (rx (some 1) 5), c1 := some (rx none 0), test := true } 2 1 air)) : State) (9 : Fin 64) 1 ≠ 7)
      ∧ (rssiOf ((recs2 (held { c0 := some (rx (some 1) 5), c1 := some (rx none 0), test := true } 2 1 air)) : State) (lstPort ((recs2 (held { c0 := some (rx (some 1) 5), c1 := some (rx none 0), test := true } 2 1 air)) : State) (9 : Fin 64)) ((-390) : Int) < ((rx (some 1) 5) : RxCtx).level + lstMargin ((recs2 (held { c0 := some (rx (some 1) 5), c1 := some (rx none 0), test := true } 2 1 air)) : State) (9 : Fin 64)))
    ∧ ((ctx (lst ((recs2 (held { c0 := some (rx (some 1) 5) } 2 0 air)) : State) (9 : Fin 64)) (0 : Fin 2) = some ((rx (some 1) 5) : RxCtx))
      ∧ (((rx (some 1) 5) : RxCtx).recId = some (1 : Nat))
      ∧ (ctxState ((recs2 (held { c0 := some (rx (some 1) 5) } 2 0 air)) : State) (9 : Fin 64) (0 : Fin 2) = 2)
      ∧ ((lst ((recs2 (held { c0 := some (rx (some 1) 5) } 2 0 air)) : State) (9 : Fin 64)).pair = none)
      ∧ ((lst ((recs2 (held { c0 := some (rx (some 1) 5) } 2 0 air)) : State) (9 : Fin 64)).recon = none)
      ∧ (getB F.airLstFreq_retuning (9 : Fin 64) ((recs2 (held { c0 := some (rx (some 1) 5) } 2 0 air)) : State) = false)
      ∧ (findRec ((recs2 (held { c0 := some (rx (some 1) 5) } 2 0 air)) : State) (1 : Nat) = some rec1)
      ∧ (rec1.trailer = none)
      ∧ (rec1.listener = (9 : Fin 64)))
    ∧ (((lst ((capt 0 (some (rx (some 1) 5)) (some (rx (some 2) 5)) 2 2 pair1 none) : State) (9 : Fin 64)).c1 = some ((rx (some 2) 5) : RxCtx))
      ∧ (((rx (some 2) 5) : RxCtx).recId = some (2 : Nat))
      ∧ (ctxState ((capt 0 (some (rx (some 1) 5)) (some (rx (some 2) 5)) 2 2 pair1 none) : State) (9 : Fin 64) 1 = 2)
      ∧ ((lst ((capt 0 (some (rx (some 1) 5)) (some (rx (some 2) 5)) 2 2 pair1 none) : State) (9 : Fin 64)).pair = some pair1)
      ∧ (pair1.strong = 1)
      ∧ (pair1.weakEnded = false)
      ∧ (pair1.weakOk = false)
      ∧ ((lst ((capt 0 (some (rx (some 1) 5)) (some (rx (some 2) 5)) 2 2 pair1 none) : State) (9 : Fin 64)).recon = none)
      ∧ ((lst ((capt 0 (some (rx (some 1) 5)) (some (rx (some 2) 5)) 2 2 pair1 none) : State) (9 : Fin 64)).c0.isSome = true)
      ∧ (lstSic ((capt 0 (some (rx (some 1) 5)) (some (rx (some 2) 5)) 2 2 pair1 none) : State) (9 : Fin 64) = true)
      ∧ (((rx (some 2) 5) : RxCtx).endAt ≤ ((capt 0 (some (rx (some 1) 5)) (some (rx (some 2) 5)) 2 2 pair1 none) : State).now ∨ ((rx (some 2) 5) : RxCtx).endAt ≤ pair1.o + sicLimit)
      ∧ (((capt 0 (some (rx (some 1) 5)) (some (rx (some 2) 5)) 2 2 pair1 none) : State).now ≤ pair1.o + sicLimit)
      ∧ (getB F.airLstFreq_retuning (9 : Fin 64) ((capt 0 (some (rx (some 1) 5)) (some (rx (some 2) 5)) 2 2 pair1 none) : State) = false))
    ∧ (((lst ((capt 0 (some (rx (some 1) 5)) (some (rx (some 2) 5)) 2 2 pair1 none) : State) (9 : Fin 64)).c0 = some ((rx (some 1) 5) : RxCtx))
      ∧ (((rx (some 1) 5) : RxCtx).recId = some (1 : Nat))
      ∧ (ctxState ((capt 0 (some (rx (some 1) 5)) (some (rx (some 2) 5)) 2 2 pair1 none) : State) (9 : Fin 64) 0 = 2)
      ∧ ((lst ((capt 0 (some (rx (some 1) 5)) (some (rx (some 2) 5)) 2 2 pair1 none) : State) (9 : Fin 64)).pair = some pair1)
      ∧ (pair1.strong = 1)
      ∧ (pair1.weak = some (1 : Nat))
      ∧ ((lst ((capt 0 (some (rx (some 1) 5)) (some (rx (some 2) 5)) 2 2 pair1 none) : State) (9 : Fin 64)).recon = none)
      ∧ (lstSic ((capt 0 (some (rx (some 1) 5)) (some (rx (some 2) 5)) 2 2 pair1 none) : State) (9 : Fin 64) = true)
      ∧ (((rx (some 1) 5) : RxCtx).endAt ≤ pair1.o + sicLimit)
      ∧ (((capt 0 (some (rx (some 1) 5)) (some (rx (some 2) 5)) 2 2 pair1 none) : State).now ≤ pair1.o + sicLimit)
      ∧ (getB F.airLstFreq_retuning (9 : Fin 64) ((capt 0 (some (rx (some 1) 5)) (some (rx (some 2) 5)) 2 2 pair1 none) : State) = false))
    ∧ (((lst ((capt 0 (some (rx (some 1) 5)) none 2 0 { pair1 with strongEnd := some 9000 } none) : State) (9 : Fin 64)).pair = some ({ pair1 with strongEnd := some 9000 } : Pair))
      ∧ (({ pair1 with strongEnd := some 9000 } : Pair).strong = 1)
      ∧ (({ pair1 with strongEnd := some 9000 } : Pair).weak = some (1 : Nat))
      ∧ (({ pair1 with strongEnd := some 9000 } : Pair).strongEnd = some (9000 : Nat))
      ∧ (({ pair1 with strongEnd := some 9000 } : Pair).weakOk = false)
      ∧ ((9000 : Nat) ≤ ({ pair1 with strongEnd := some 9000 } : Pair).o + sicLimit)
      ∧ ((lst ((capt 0 (some (rx (some 1) 5)) none 2 0 { pair1 with strongEnd := some 9000 } none) : State) (9 : Fin 64)).recon = none)
      ∧ ((lst ((capt 0 (some (rx (some 1) 5)) none 2 0 { pair1 with strongEnd := some 9000 } none) : State) (9 : Fin 64)).c1 = none)
      ∧ (ctxState ((capt 0 (some (rx (some 1) 5)) none 2 0 { pair1 with strongEnd := some 9000 } none) : State) (9 : Fin 64) 1 = 0)
      ∧ (findRec ((capt 0 (some (rx (some 1) 5)) none 2 0 { pair1 with strongEnd := some 9000 } none) : State) (1 : Nat) = some rec1)
      ∧ (rec1.trailer = none))
    ∧ (((lst ((capt 1 none (some (rx (some 1) 5)) 0 3 { pair1 with strongEnd := some 9000, weakEnded := true } (some 1)) : State) (9 : Fin 64)).recon = some 1)
      ∧ ((lst ((capt 1 none (some (rx (some 1) 5)) 0 3 { pair1 with strongEnd := some 9000, weakEnded := true } (some 1)) : State) (9 : Fin 64)).c1 = some ((rx (some 1) 5) : RxCtx))
      ∧ (((rx (some 1) 5) : RxCtx).recId = some (1 : Nat))
      ∧ (ctxState ((capt 1 none (some (rx (some 1) 5)) 0 3 { pair1 with strongEnd := some 9000, weakEnded := true } (some 1)) : State) (9 : Fin 64) 1 = 3)
      ∧ ((lst ((capt 1 none (some (rx (some 1) 5)) 0 3 { pair1 with strongEnd := some 9000, weakEnded := true } (some 1)) : State) (9 : Fin 64)).pair = some ({ pair1 with strongEnd := some 9000, weakEnded := true } : Pair))
      ∧ (({ pair1 with strongEnd := some 9000, weakEnded := true } : Pair).weakOk = false)
      ∧ (findRec ((capt 1 none (some (rx (some 1) 5)) 0 3 { pair1 with strongEnd := some 9000, weakEnded := true } (some 1)) : State) (1 : Nat) = some rec1)
      ∧ (rec1.trailer = none)
      ∧ (rec1.listener = (9 : Fin 64))
      ∧ (getB F.airLstFreq_retuning (9 : Fin 64) ((capt 1 none (some (rx (some 1) 5)) 0 3 { pair1 with strongEnd := some 9000, weakEnded := true } (some 1)) : State) = false))
    ∧ (((lst ((capt 0 (some (rx (some 1) 5)) (some (rx (some 1) 5)) 2 3 { pair1 with strongEnd := some 9000 } (some 1)) : State) (9 : Fin 64)).recon = some 1)
      ∧ (ctxState ((capt 0 (some (rx (some 1) 5)) (some (rx (some 1) 5)) 2 3 { pair1 with strongEnd := some 9000 } (some 1)) : State) (9 : Fin 64) 1 = 3)
      ∧ ((lst ((capt 0 (some (rx (some 1) 5)) (some (rx (some 1) 5)) 2 3 { pair1 with strongEnd := some 9000 } (some 1)) : State) (9 : Fin 64)).c0.isSome = true)
      ∧ (ctxState ((capt 0 (some (rx (some 1) 5)) (some (rx (some 1) 5)) 2 3 { pair1 with strongEnd := some 9000 } (some 1)) : State) (9 : Fin 64) 0 ≠ 7))
    ∧ (((lst ((capt 1 none (some (rx (some 2) 5)) 0 2 { pair1 with weakEnded := true } none) : State) (9 : Fin 64)).pair = some ({ pair1 with weakEnded := true } : Pair))
      ∧ (({ pair1 with weakEnded := true } : Pair).weakEnded = true)
      ∧ (({ pair1 with weakEnded := true } : Pair).weakOk = false)
      ∧ (({ pair1 with weakEnded := true } : Pair).weak = some (1 : Nat))
      ∧ ((lst ((capt 1 none (some (rx (some 2) 5)) 0 2 { pair1 with weakEnded := true } none) : State) (9 : Fin 64)).recon = none)
      ∧ (lstSic ((capt 1 none (some (rx (some 2) 5)) 0 2 { pair1 with weakEnded := true } none) : State) (9 : Fin 64) = true)
      ∧ (findRec ((capt 1 none (some (rx (some 2) 5)) 0 2 { pair1 with weakEnded := true } none) : State) (1 : Nat) = some rec1)
      ∧ (rec1.trailer = none)
      ∧ (rec1.listener = (9 : Fin 64)))
    ∧ (ctxState ((held { c0 := some (rx (some 1) 5), ckpts := [0] } 2 0 air) : State) (9 : Fin 64) (primary ((held { c0 := some (rx (some 1) 5), ckpts := [0] } 2 0 air) : State) (9 : Fin 64)) = 2) := by
  refine ⟨?_, ?_, ?_, ?_, ?_, ?_, ?_, ?_, ?_, ?_⟩
  all_goals decide +kernel

theorem meets_ListenersRetuneAndBlank :
    (((lst ((held { next := some (918600, 3, 7000) } 0 0 air) : State) (9 : Fin 64)).next = some ((918600 : Nat), (3 : Nat), (7000 : Nat)))
      ∧ ((lst ((held { next := some (918600, 3, 7000) } 0 0 air) : State) (9 : Fin 64)).c0 = none)
      ∧ ((lst ((held { next := some (918600, 3, 7000) } 0 0 air) : State) (9 : Fin 64)).c1 = none)
      ∧ (ctxState ((held { next := some (918600, 3, 7000) } 0 0 air) : State) (9 : Fin 64) 0 ≠ 1)
      ∧ (ctxState ((held { next := some (918600, 3, 7000) } 0 0 air) : State) (9 : Fin 64) 1 ≠ 1))
    ∧ (((lst ((recs2 (held { c0 := some (rx (some 1) 5), next := some (918600, 3, 7000) } 2 0 air)) : State) (9 : Fin 64)).next.isSome = true)
      ∧ ((lst ((recs2 (held { c0 := some (rx (some 1) 5), next := some (918600, 3, 7000) } 2 0 air)) : State) (9 : Fin 64)).c0 = some ((rx (some 1) 5) : RxCtx))
      ∧ (ctxState ((recs2 (held { c0 := some (rx (some 1) 5), next := some (918600, 3, 7000) } 2 0 air)) : State) (9 : Fin 64) 0 = 2)
      ∧ ((lst ((recs2 (held { c0 := some (rx (some 1) 5), next := some (918600, 3, 7000) } 2 0 air)) : State) (9 : Fin 64)).c1 = none)
      ∧ (ctxState ((recs2 (held { c0 := some (rx (some 1) 5), next := some (918600, 3, 7000) } 2 0 air)) : State) (9 : Fin 64) 1 ≠ 1))
    ∧ (((lst ((recs2 (held { c0 := some (rx (some 1) 5), next := some (918600, 3, 7000) } 2 0 air)) : State) (9 : Fin 64)).next = some ((918600 : Nat), (3 : Nat), (7000 : Nat)))
      ∧ ((lst ((recs2 (held { c0 := some (rx (some 1) 5), next := some (918600, 3, 7000) } 2 0 air)) : State) (9 : Fin 64)).c0 = some ((rx (some 1) 5) : RxCtx))
      ∧ (((rx (some 1) 5) : RxCtx).recId = some (1 : Nat))
      ∧ ((lst ((recs2 (held { c0 := some (rx (some 1) 5), next := some (918600, 3, 7000) } 2 0 air)) : State) (9 : Fin 64)).c1 = none)
      ∧ ((lst ((recs2 (held { c0 := some (rx (some 1) 5), next := some (918600, 3, 7000) } 2 0 air)) : State) (9 : Fin 64)).pair = none)
      ∧ ((lst ((recs2 (held { c0 := some (rx (some 1) 5), next := some (918600, 3, 7000) } 2 0 air)) : State) (9 : Fin 64)).recon = none)
      ∧ (findRec ((recs2 (held { c0 := some (rx (some 1) 5), next := some (918600, 3, 7000) } 2 0 air)) : State) (1 : Nat) = some rec1)
      ∧ (rec1.trailer = none))
    ∧ ((mustBlank ((recs2 (held { c0 := some (rx (some 1) 5) } 2 0 air) |> setF F.airRfStatus_synth 1 2) : State) (9 : Fin 64) = true)
      ∧ (getB F.airLstStatus_blanked (9 : Fin 64) ((recs2 (held { c0 := some (rx (some 1) 5) } 2 0 air) |> setF F.airRfStatus_synth 1 2) : State) = false)
      ∧ ((lst ((recs2 (held { c0 := some (rx (some 1) 5) } 2 0 air) |> setF F.airRfStatus_synth 1 2) : State) (9 : Fin 64)).c0 = some ((rx (some 1) 5) : RxCtx))
      ∧ (((rx (some 1) 5) : RxCtx).recId = some (1 : Nat))
      ∧ ((lst ((recs2 (held { c0 := some (rx (some 1) 5) } 2 0 air) |> setF F.airRfStatus_synth 1 2) : State) (9 : Fin 64)).c1 = none)
      ∧ ((lst ((recs2 (held { c0 := some (rx (some 1) 5) } 2 0 air) |> setF F.airRfStatus_synth 1 2) : State) (9 : Fin 64)).pair = none)
      ∧ ((lst ((recs2 (held { c0 := some (rx (some 1) 5) } 2 0 air) |> setF F.airRfStatus_synth 1 2) : State) (9 : Fin 64)).recon = none)
      ∧ (findRec ((recs2 (held { c0 := some (rx (some 1) 5) } 2 0 air) |> setF F.airRfStatus_synth 1 2) : State) (1 : Nat) = some rec1)
      ∧ (rec1.trailer = none)
      ∧ (ctxState ((recs2 (held { c0 := some (rx (some 1) 5) } 2 0 air) |> setF F.airRfStatus_synth 1 2) : State) (9 : Fin 64) 0 ≠ 7)
      ∧ (ctxState ((recs2 (held { c0 := some (rx (some 1) 5) } 2 0 air) |> setF F.airRfStatus_synth 1 2) : State) (9 : Fin 64) 1 ≠ 7))
    ∧ ((mustBlank ((held { blankAt := some 0 } 4 4 air |> setF F.airLstStatus_blanked 9 1) : State) (9 : Fin 64) = false)
      ∧ (getB F.airLstStatus_blanked (9 : Fin 64) ((held { blankAt := some 0 } 4 4 air |> setF F.airLstStatus_blanked 9 1) : State) = true)
      ∧ (lstIdle ((held { blankAt := some 0 } 4 4 air |> setF F.airLstStatus_blanked 9 1) : State) (9 : Fin 64) = false)
      ∧ ((lst ((held { blankAt := some 0 } 4 4 air |> setF F.airLstStatus_blanked 9 1) : State) (9 : Fin 64)).blankAt = some (0 : Nat))
      ∧ (ctxState ((held { blankAt := some 0 } 4 4 air |> setF F.airLstStatus_blanked 9 1) : State) (9 : Fin 64) 0 = 4)
      ∧ (ctxState ((held { blankAt := some 0 } 4 4 air |> setF F.airLstStatus_blanked 9 1) : State) (9 : Fin 64) 1 = 4)
      ∧ (ctxTested ((held { blankAt := some 0 } 4 4 air |> setF F.airLstStatus_blanked 9 1) : State) (9 : Fin 64) 0 = false)
      ∧ (ctxTested ((held { blankAt := some 0 } 4 4 air |> setF F.airLstStatus_blanked 9 1) : State) (9 : Fin 64) 1 = false))
    ∧ ((ctx (lst ((recs2 (held { c0 := some (rx (some 1) 5) } 2 0 air)) : State) (9 : Fin 64)) (0 : Fin 2) = some ((rx (some 1) 5) : RxCtx))
      ∧ (((rx (some 1) 5) : RxCtx).recId = some (1 : Nat))
      ∧ ((lst ((recs2 (held { c0 := some (rx (some 1) 5) } 2 0 air)) : State) (9 : Fin 64)).pair = none)
      ∧ ((lst ((recs2 (held { c0 := some (rx (some 1) 5) } 2 0 air)) : State) (9 : Fin 64)).recon = none)
      ∧ (findRec ((recs2 (held { c0 := some (rx (some 1) 5) } 2 0 air)) : State) (1 : Nat) = some rec1)
      ∧ (rec1.trailer = none)
      ∧ ((testQueue ((9 : Fin 64) / 8) ((recs2 (held { c0 := some (rx (some 1) 5) } 2 0 air)) : State)).length = 0)
      ∧ (getB F.airLstFreq_retuning (9 : Fin 64) ((recs2 (held { c0 := some (rx (some 1) 5) } 2 0 air)) : State) = false)
      ∧ (domOn ((recs2 (held { c0 := some (rx (some 1) 5) } 2 0 air)) : State) (6 + (9 : Fin 64) / 8) = true))
    ∧ ((tabFind ({ air with gt := [(gtKey 7 9, ⟨⟨7, 9, 0, 0, []⟩, 5⟩)] } : State).gt (gtKey (7 : Nat) (9 : Nat)) = some (⟨⟨7, 9, 0, 0, []⟩, 5⟩ : GtEntry))
      ∧ (domOn ({ air with gt := [(gtKey 7 9, ⟨⟨7, 9, 0, 0, []⟩, 5⟩)] } : State) 14 = true)
      ∧ (({ air with gt := [(gtKey 7 9, ⟨⟨7, 9, 0, 0, []⟩, 5⟩)] } : State).nbrs = [])) := by
  refine ⟨?_, ?_, ?_, ?_, ?_, ?_, ?_⟩
  all_goals decide +kernel

theorem meets_HeadersAndTrailersDecideRecords :
    ((Claims.alone ((withRec rec1) : State) (9 : Fin 64) rec1)
      ∧ (rec1.frame = none)
      ∧ (domOn ((withRec rec1) : State) 15 = true)
      ∧ (domOn ((withRec rec1) : State) 17 = true)
      ∧ (macOn (macFor ((withRec rec1) : State) rec1.ts) = true)
      ∧ ((∀ h ∈ srcHandle ((withRec rec1) : State) sec1, resident ((withRec rec1) : State) h = true)))
    ∧ ((Claims.alone ({ up with recs := [rec1] } : State) (9 : Fin 64) rec1)
      ∧ (rec1.frame = none)
      ∧ (domOn ({ up with recs := [rec1] } : State) 15 = true)
      ∧ (macOn (macFor ({ up with recs := [rec1] } : State) rec1.ts) = false))
    ∧ ((Claims.alone ((withRec { recF sec1 with trailer := some (2, false, false, 0) }) : State) (9 : Fin 64) { ((recF sec1) : Rec) with trailer := some ((2 : Nat), false, ((recF sec1) : Rec).withheld, 0) })
      ∧ ((2 : Nat) ≠ 1)
      ∧ (((recF sec1) : Rec).closed = false)
      ∧ (domOn ((withRec { recF sec1 with trailer := some (2, false, false, 0) }) : State) 15 = true))
    ∧ ((Claims.alone ((withRec (recF { sec1 with version := 3 })) : State) (9 : Fin 64) ((recF { sec1 with version := 3 }) : Rec))
      ∧ (((recF { sec1 with version := 3 }) : Rec).trailer = some (1, false, false, 0))
      ∧ (((recF { sec1 with version := 3 }) : Rec).closed = false)
      ∧ (((recF { sec1 with version := 3 }) : Rec).frame = some ({ sec1 with version := 3 } : Frame))
      ∧ (typeOk ({ sec1 with version := 3 } : Frame) = false)
      ∧ (domOn ((withRec (recF { sec1 with version := 3 })) : State) 15 = true))
    ∧ ((Claims.alone ((withRec (recF { sec1 with dst := .ext 1 })) : State) (9 : Fin 64) ((recF { sec1 with dst := .ext 1 }) : Rec))
      ∧ (((recF { sec1 with dst := .ext 1 }) : Rec).trailer = some (1, false, false, 0))
      ∧ (((recF { sec1 with dst := .ext 1 }) : Rec).closed = false)
      ∧ (((recF { sec1 with dst := .ext 1 }) : Rec).frame = some ({ sec1 with dst := .ext 1 } : Frame))
      ∧ (typeOk ({ sec1 with dst := .ext 1 } : Frame) = true)
      ∧ (({ sec1 with dst := .ext 1 } : Frame).ftype ≠ 2)
      ∧ (filterPass (macFor ((withRec (recF { sec1 with dst := .ext 1 })) : State) ((recF { sec1 with dst := .ext 1 }) : Rec).ts) ({ sec1 with dst := .ext 1 } : Frame) = false)
      ∧ (domOn ((withRec (recF { sec1 with dst := .ext 1 })) : State) 15 = true))
    ∧ ((Claims.alone ((withRec { recF { sec1 with src := .ext 1 } with handle := none }) : State) (9 : Fin 64) ({ recF { sec1 with src := .ext 1 } with handle := none } : Rec))
      ∧ (({ recF { sec1 with src := .ext 1 } with handle := none } : Rec).trailer = some (1, false, false, 0))
      ∧ (({ recF { sec1 with src := .ext 1 } with handle := none } : Rec).closed = false)
      ∧ (({ recF { sec1 with src := .ext 1 } with handle := none } : Rec).frame = some ({ sec1 with src := .ext 1 } : Frame))
      ∧ (typeOk ({ sec1 with src := .ext 1 } : Frame) = true)
      ∧ (({ sec1 with src := .ext 1 } : Frame).ftype ≠ 2)
      ∧ (filterPass (macFor ((withRec { recF { sec1 with src := .ext 1 } with handle := none }) : State) ({ recF { sec1 with src := .ext 1 } with handle := none } : Rec).ts) ({ sec1 with src := .ext 1 } : Frame) = true)
      ∧ (({ recF { sec1 with src := .ext 1 } with handle := none } : Rec).handle = none)
      ∧ (secLevel ({ sec1 with src := .ext 1 } : Frame) ≠ 0)
      ∧ (domOn ((withRec { recF { sec1 with src := .ext 1 } with handle := none }) : State) 15 = true))
    ∧ ((Claims.alone ((withRec (recF plain1)) : State) (9 : Fin 64) ((recF plain1) : Rec))
      ∧ (((recF plain1) : Rec).trailer = some (1, false, false, 0))
      ∧ (((recF plain1) : Rec).closed = false)
      ∧ (((recF plain1) : Rec).parked = false)
      ∧ (((recF plain1) : Rec).acked = false)
      ∧ (((recF plain1) : Rec).frame = some plain1)
      ∧ (typeOk plain1 = true)
      ∧ (plain1.ftype = 1)
      ∧ (plain1.ie = false)
      ∧ (plain1.pay = .empty)
      ∧ (plain1.gt = [])
      ∧ (plain1.csl = none)
      ∧ (wantsAck plain1 = true)
      ∧ (filterPass (macFor ((withRec (recF plain1)) : State) ((recF plain1) : Rec).ts) plain1 = true)
      ∧ (((recF plain1) : Rec).handle = some (5 : Nat))
      ∧ (secLevel plain1 = 0)
      ∧ (secOk plain1 = true)
      ∧ (isFsk ((recF plain1) : Rec).mode = true)
      ∧ (((recF plain1) : Rec).gtMap = none)
      ∧ (nbr ((withRec (recF plain1)) : State) (5 : Nat) = some nbr5)
      ∧ (nbr5.resident = true)
      ∧ (nbr5.quarantined = false)
      ∧ (nbr5.b.unsecuredOk = true)
      ∧ (nbr5.lastRx = none)
      ∧ (domOn ((withRec (recF plain1)) : State) 17 = true)
      ∧ (domOn ((withRec (recF plain1)) : State) 15 = true)) := by
  refine ⟨?_, ?_, ?_, ?_, ?_, ?_, ?_⟩
  all_goals first | decide +kernel | (repeat' apply And.intro) <;> first | with_reducible rfl | decide +kernel

theorem meets_LateRecordsAndTheirSecurity :
    ((Claims.alone ({ withRec { recF sec1 with closed := true, job := 2 } with nbrs := [(5, { nbr5 with resident := false })] } : State) (9 : Fin 64) ({ recF sec1 with closed := true, job := 2 } : Rec))
      ∧ (({ recF sec1 with closed := true, job := 2 } : Rec).closed = true)
      ∧ (({ recF sec1 with closed := true, job := 2 } : Rec).handle = some (5 : Nat))
      ∧ (({ recF sec1 with closed := true, job := 2 } : Rec).late = false)
      ∧ (({ recF sec1 with closed := true, job := 2 } : Rec).parked = false)
      ∧ (recResident ({ withRec { recF sec1 with closed := true, job := 2 } with nbrs := [(5, { nbr5 with resident := false })] } : State) ({ recF sec1 with closed := true, job := 2 } : Rec) = false)
      ∧ (recWants ({ recF sec1 with closed := true, job := 2 } : Rec) = true)
      ∧ (({ recF sec1 with closed := true, job := 2 } : Rec).acked = false))
    ∧ ((Claims.alone ((withRec { recF sec1 with closed := true, job := 2, late := true, parked := true, acked := true }) : State) (9 : Fin 64) ({ recF sec1 with closed := true, job := 2, late := true, parked := true, acked := true } : Rec))
      ∧ (({ recF sec1 with closed := true, job := 2, late := true, parked := true, acked := true } : Rec).closed = true)
      ∧ (({ recF sec1 with closed := true, job := 2, late := true, parked := true, acked := true } : Rec).handle = some (5 : Nat))
      ∧ (({ recF sec1 with closed := true, job := 2, late := true, parked := true, acked := true } : Rec).frame = some sec1)
      ∧ (sec1.ftype ≠ 2)
      ∧ (secLevel sec1 ≠ 0)
      ∧ (({ recF sec1 with closed := true, job := 2, late := true, parked := true, acked := true } : Rec).parked = true)
      ∧ (({ recF sec1 with closed := true, job := 2, late := true, parked := true, acked := true } : Rec).cipherLate = false)
      ∧ (2 ≤ ({ recF sec1 with closed := true, job := 2, late := true, parked := true, acked := true } : Rec).job)
      ∧ (nbr ((withRec { recF sec1 with closed := true, job := 2, late := true, parked := true, acked := true }) : State) (5 : Nat) = some nbr5)
      ∧ (nbr5.resident = true)
      ∧ (nbr5.quarantined = false)
      ∧ (domOn ((withRec { recF sec1 with closed := true, job := 2, late := true, parked := true, acked := true }) : State) 17 = true)
      ∧ ((recEntries ((withRec { recF sec1 with closed := true, job := 2, late := true, parked := true, acked := true }) : State) ({ recF sec1 with closed := true, job := 2, late := true, parked := true, acked := true } : Rec)).head? = some (3 : Nat))
      ∧ (cached ((withRec { recF sec1 with closed := true, job := 2, late := true, parked := true, acked := true }) : State) (3 : Nat) = true))
    ∧ ((Claims.alone ((withRec { recF sec1 with closed := true, late := true, acked := true }) : State) (9 : Fin 64) ({ recF sec1 with closed := true, late := true, acked := true } : Rec))
      ∧ (({ recF sec1 with closed := true, late := true, acked := true } : Rec).late = true))
    ∧ ((Claims.alone ((withRec { recF sec1 with closed := true, job := 2 }) : State) (9 : Fin 64) ({ recF sec1 with closed := true, job := 2 } : Rec))
      ∧ (({ recF sec1 with closed := true, job := 2 } : Rec).closed = true)
      ∧ (({ recF sec1 with closed := true, job := 2 } : Rec).handle = some (5 : Nat))
      ∧ (({ recF sec1 with closed := true, job := 2 } : Rec).frame = some sec1)
      ∧ (sec1.ftype ≠ 2)
      ∧ (secLevel sec1 ≠ 0)
      ∧ (2 ≤ ({ recF sec1 with closed := true, job := 2 } : Rec).job)
      ∧ (({ recF sec1 with closed := true, job := 2 } : Rec).parked = false)
      ∧ (nbr ((withRec { recF sec1 with closed := true, job := 2 }) : State) (5 : Nat) = some nbr5)
      ∧ (nbr5.resident = true)
      ∧ (nbr5.quarantined = false)
      ∧ (domOn ((withRec { recF sec1 with closed := true, job := 2 }) : State) 17 = true)
      ∧ ((recEntries ((withRec { recF sec1 with closed := true, job := 2 }) : State) ({ recF sec1 with closed := true, job := 2 } : Rec)).head? = some (3 : Nat))
      ∧ (cached ((withRec { recF sec1 with closed := true, job := 2 }) : State) (3 : Nat) = true))
    ∧ ((Claims.alone ((withRec { recF sec1 with closed := true, job := 1 }) : State) (9 : Fin 64) ({ recF sec1 with closed := true, job := 1 } : Rec))
      ∧ (({ recF sec1 with closed := true, job := 1 } : Rec).closed = true)
      ∧ (({ recF sec1 with closed := true, job := 1 } : Rec).job = 1)
      ∧ (({ recF sec1 with closed := true, job := 1 } : Rec).acked = false)
      ∧ (({ recF sec1 with closed := true, job := 1 } : Rec).handle = some (5 : Nat))
      ∧ (({ recF sec1 with closed := true, job := 1 } : Rec).frame = some sec1)
      ∧ (sec1.aux = some ({ level := 6, kim := 1, index := 1, ctr := 10 } : Aux))
      ∧ (sec1.ftype = 1)
      ∧ (sec1.ie = false)
      ∧ (sec1.pay = .empty)
      ∧ (sec1.gt = [])
      ∧ (sec1.csl = none)
      ∧ (wantsAck sec1 = true)
      ∧ (nbr ((withRec { recF sec1 with closed := true, job := 1 }) : State) (5 : Nat) = some nbr5)
      ∧ (nbr5.resident = true)
      ∧ (nbr5.quarantined = false)
      ∧ (nbr5.lastRx = none)
      ∧ (domOn ((withRec { recF sec1 with closed := true, job := 1 }) : State) 17 = true)
      ∧ (domOn ((withRec { recF sec1 with closed := true, job := 1 }) : State) 16 = true)
      ∧ (cipherDown ((withRec { recF sec1 with closed := true, job := 1 }) : State) = false)
      ∧ ((candidates ((withRec { recF sec1 with closed := true, job := 1 }) : State) nbr5.b ({ level := 6, kim := 1, index := 1, ctr := 10 } : Aux)).head? = some 0)
      ∧ ((nbr5.b.ctrValid.1 = true → nbr5.b.rxCtr.1 < ({ level := 6, kim := 1, index := 1, ctr := 10 } : Aux).ctr)))
    ∧ ((Claims.alone ({ withRec { recF sec1 with closed := true, job := 1 } with nbrs := [(5, { nbr5 with b := { nbr5.b with ctrValid := (true, false), rxCtr := (10, 0) } })] } : State) (9 : Fin 64) ({ recF sec1 with closed := true, job := 1 } : Rec))
      ∧ (({ recF sec1 with closed := true, job := 1 } : Rec).closed = true)
      ∧ (({ recF sec1 with closed := true, job := 1 } : Rec).job = 1)
      ∧ (({ recF sec1 with closed := true, job := 1 } : Rec).handle = some (5 : Nat))
      ∧ (({ recF sec1 with closed := true, job := 1 } : Rec).frame = some sec1)
      ∧ (sec1.aux = some ({ level := 6, kim := 1, index := 1, ctr := 10 } : Aux))
      ∧ (sec1.ftype ≠ 2)
      ∧ (nbr ({ withRec { recF sec1 with closed := true, job := 1 } with nbrs := [(5, { nbr5 with b := { nbr5.b with ctrValid := (true, false), rxCtr := (10, 0) } })] } : State) (5 : Nat) = some ({ nbr5 with b := { nbr5.b with ctrValid := (true, false), rxCtr := (10, 0) } } : Nbr))
      ∧ (({ nbr5 with b := { nbr5.b with ctrValid := (true, false), rxCtr := (10, 0) } } : Nbr).resident = true)
      ∧ (domOn ({ withRec { recF sec1 with closed := true, job := 1 } with nbrs := [(5, { nbr5 with b := { nbr5.b with ctrValid := (true, false), rxCtr := (10, 0) } })] } : State) 17 = true)
      ∧ (domOn ({ withRec { recF sec1 with closed := true, job := 1 } with nbrs := [(5, { nbr5 with b := { nbr5.b with ctrValid := (true, false), rxCtr := (10, 0) } })] } : State) 16 = true)
      ∧ (cipherDown ({ withRec { recF sec1 with closed := true, job := 1 } with nbrs := [(5, { nbr5 with b := { nbr5.b with ctrValid := (true, false), rxCtr := (10, 0) } })] } : State) = false)
      ∧ ((candidates ({ withRec { recF sec1 with closed := true, job := 1 } with nbrs := [(5, { nbr5 with b := { nbr5.b with ctrValid := (true, false), rxCtr := (10, 0) } })] } : State) ({ nbr5 with b := { nbr5.b with ctrValid := (true, false), rxCtr := (10, 0) } } : Nbr).b ({ level := 6, kim := 1, index := 1, ctr := 10 } : Aux)).head? = some 0)
      ∧ (({ nbr5 with b := { nbr5.b with ctrValid := (true, false), rxCtr := (10, 0) } } : Nbr).b.ctrValid.1 = true)
      ∧ (({ level := 6, kim := 1, index := 1, ctr := 10 } : Aux).ctr ≤ ({ nbr5 with b := { nbr5.b with ctrValid := (true, false), rxCtr := (10, 0) } } : Nbr).b.rxCtr.1))
    ∧ ((Claims.alone ((withRec { recF sec1 with closed := true, job := 1 }) : State) (9 : Fin 64) ({ recF sec1 with closed := true, job := 1 } : Rec))
      ∧ (({ recF sec1 with closed := true, job := 1 } : Rec).closed = true)
      ∧ (({ recF sec1 with closed := true, job := 1 } : Rec).job = 1)
      ∧ (({ recF sec1 with closed := true, job := 1 } : Rec).handle = some (5 : Nat))
      ∧ (({ recF sec1 with closed := true, job := 1 } : Rec).frame = some sec1)
      ∧ (sec1.aux = some ({ level := 6, kim := 1, index := 1, ctr := 10 } : Aux))
      ∧ (sec1.ftype ≠ 2)
      ∧ (nbr ((withRec { recF sec1 with closed := true, job := 1 }) : State) (5 : Nat) = some nbr5)
      ∧ (nbr5.resident = true)
      ∧ (domOn ((withRec { recF sec1 with closed := true, job := 1 }) : State) 17 = true)
      ∧ (domOn ((withRec { recF sec1 with closed := true, job := 1 }) : State) 16 = true)
      ∧ (cipherDown ((withRec { recF sec1 with closed := true, job := 1 }) : State) = false)
      ∧ ((candidates ((withRec { recF sec1 with closed := true, job := 1 }) : State) nbr5.b ({ level := 6, kim := 1, index := 1, ctr := 10 } : Aux)).length = 1)) := by
  refine ⟨?_, ?_, ?_, ?_, ?_, ?_, ?_⟩
  all_goals first | decide +kernel | (repeat' apply And.intro) <;> first | with_reducible rfl | decide +kernel

theorem meets_AcknowledgementsAreSentAndAwaited :
    ((((withRec { recF plain1 with closed := true, done := true, verified := true, freed := true }) : State).recs = [({ recF plain1 with closed := true, done := true, verified := true, freed := true } : Rec)])
      ∧ (({ recF plain1 with closed := true, done := true, verified := true, freed := true } : Rec).listener = (9 : Fin 64))
      ∧ (({ recF plain1 with closed := true, done := true, verified := true, freed := true } : Rec).closed = true)
      ∧ (({ recF plain1 with closed := true, done := true, verified := true, freed := true } : Rec).acked = false)
      ∧ (({ recF plain1 with closed := true, done := true, verified := true, freed := true } : Rec).done = true)
      ∧ (({ recF plain1 with closed := true, done := true, verified := true, freed := true } : Rec).verified = true)
      ∧ (({ recF plain1 with closed := true, done := true, verified := true, freed := true } : Rec).handle = some (5 : Nat))
      ∧ (({ recF plain1 with closed := true, done := true, verified := true, freed := true } : Rec).frame = some plain1)
      ∧ (wantsAck plain1 = true)
      ∧ (plain1.version < 2)
      ∧ (nbr ((withRec { recF plain1 with closed := true, done := true, verified := true, freed := true }) : State) (5 : Nat) = some nbr5)
      ∧ (nbr5.resident = true)
      ∧ (allOn ((withRec { recF plain1 with closed := true, done := true, verified := true, freed := true }) : State) = true)
      ∧ (domOn ((withRec { recF plain1 with closed := true, done := true, verified := true, freed := true }) : State) 15 = true)
      ∧ (domOn ((withRec { recF plain1 with closed := true, done := true, verified := true, freed := true }) : State) 17 = true)
      ∧ (mayStart ((withRec { recF plain1 with closed := true, done := true, verified := true, freed := true }) : State) (lstPort ((withRec { recF plain1 with closed := true, done := true, verified := true, freed := true }) : State) (9 : Fin 64)) = true)
      ∧ (heldDom ((withRec { recF plain1 with closed := true, done := true, verified := true, freed := true }) : State) 16 = false)
      ∧ (heldDom ((withRec { recF plain1 with closed := true, done := true, verified := true, freed := true }) : State) 17 = false)
      ∧ (idleEm ((withRec { recF plain1 with closed := true, done := true, verified := true, freed := true }) : State) (lstPort ((withRec { recF plain1 with closed := true, done := true, verified := true, freed := true }) : State) (9 : Fin 64)) ((portEms ((withRec { recF plain1 with closed := true, done := true, verified := true, freed := true }) : State) (lstPort ((withRec { recF plain1 with closed := true, done := true, verified := true, freed := true }) : State) (9 : Fin 64))).headD 8) = some (2 : Nat))
      ∧ (((withRec { recF plain1 with closed := true, done := true, verified := true, freed := true }) : State).slm.contacts = [])
      ∧ (((withRec { recF plain1 with closed := true, done := true, verified := true, freed := true }) : State).slm.offers = []))
    ∧ ((((withRec { recF plain1 with closed := true, done := true, verified := true, freed := true } |> setF F.keepPwrSupply_tx_hold 0 1) : State).recs = [({ recF plain1 with closed := true, done := true, verified := true, freed := true } : Rec)])
      ∧ (({ recF plain1 with closed := true, done := true, verified := true, freed := true } : Rec).listener = (9 : Fin 64))
      ∧ (({ recF plain1 with closed := true, done := true, verified := true, freed := true } : Rec).closed = true)
      ∧ (({ recF plain1 with closed := true, done := true, verified := true, freed := true } : Rec).acked = false)
      ∧ (({ recF plain1 with closed := true, done := true, verified := true, freed := true } : Rec).done = true)
      ∧ (({ recF plain1 with closed := true, done := true, verified := true, freed := true } : Rec).verified = true)
      ∧ (({ recF plain1 with closed := true, done := true, verified := true, freed := true } : Rec).freed = true)
      ∧ (({ recF plain1 with closed := true, done := true, verified := true, freed := true } : Rec).handle = some (5 : Nat))
      ∧ (({ recF plain1 with closed := true, done := true, verified := true, freed := true } : Rec).frame = some plain1)
      ∧ (wantsAck plain1 = true)
      ∧ (nbr ((withRec { recF plain1 with closed := true, done := true, verified := true, freed := true } |> setF F.keepPwrSupply_tx_hold 0 1) : State) (5 : Nat) = some nbr5)
      ∧ (nbr5.resident = true)
      ∧ (allOn ((withRec { recF plain1 with closed := true, done := true, verified := true, freed := true } |> setF F.keepPwrSupply_tx_hold 0 1) : State) = true)
      ∧ (domOn ((withRec { recF plain1 with closed := true, done := true, verified := true, freed := true } |> setF F.keepPwrSupply_tx_hold 0 1) : State) 15 = true)
      ∧ (domOn ((withRec { recF plain1 with closed := true, done := true, verified := true, freed := true } |> setF F.keepPwrSupply_tx_hold 0 1) : State) 17 = true)
      ∧ (deferring ((withRec { recF plain1 with closed := true, done := true, verified := true, freed := true } |> setF F.keepPwrSupply_tx_hold 0 1) : State) = true))
    ∧ ((Claims.alone ({ withRec { recF ack1 with closed := true, handle := none } with awaiting := [tx1] } : State) (9 : Fin 64) ({ recF ack1 with closed := true, handle := none } : Rec))
      ∧ (({ recF ack1 with closed := true, handle := none } : Rec).closed = true)
      ∧ (({ recF ack1 with closed := true, handle := none } : Rec).frame = some ack1)
      ∧ (ack1.ftype = 2)
      ∧ (ack1.version < 2)
      ∧ (ack1.secured = false)
      ∧ (ack1.tc = none)
      ∧ (ack1.gt = [])
      ∧ (ack1.csl = none)
      ∧ (awaitFor ({ withRec { recF ack1 with closed := true, handle := none } with awaiting := [tx1] } : State) ({ recF ack1 with closed := true, handle := none } : Rec) = some tx1)
      ∧ (({ withRec { recF ack1 with closed := true, handle := none } with awaiting := [tx1] } : State).awaiting = [tx1])
      ∧ (tx1.kind = 0)
      ∧ (tx1.contact = false)
      ∧ (tx1.cls < 4)
      ∧ ((nbr ({ withRec { recF ack1 with closed := true, handle := none } with awaiting := [tx1] } : State) tx1.handle).all (fun nb => decide ((flowOf nb.b tx1.cls).frames.map (·.id)).Nodup) = true))
    ∧ ((({ mesh with awaiting := [tx1] } : State).awaiting = [tx1])
      ∧ (tx1.phase = 8)
      ∧ (tx1.kind = 0)
      ∧ (tx1.contact = false)
      ∧ (tx1.shared = false)
      ∧ (isGt tx1.mode = false)
      ∧ (tx1.cls < 4)
      ∧ (nbr ({ mesh with awaiting := [tx1] } : State) tx1.handle = some nbr5)
      ∧ ((flowOf nbr5.b tx1.cls).frames = [({ id := 40, enq := 0, octets := 30, pages := 1, group := 2 } : QFrame)])
      ∧ (({ id := 40, enq := 0, octets := 30, pages := 1, group := 2 } : QFrame).id = tx1.frameId)
      ∧ (({ id := 40, enq := 0, octets := 30, pages := 1, group := 2 } : QFrame).attempts + 1 ≤ nbr5.b.retryLimit)) := by
  refine ⟨?_, ?_, ?_, ?_⟩
  all_goals first | decide +kernel | (repeat' apply And.intro) <;> first | with_reducible rfl | decide +kernel

theorem meets_TransmissionsGoThroughTheirSteps :
    ((({ kind := 0, emitter := 2 } : TxReq).kind = 0)
      ∧ (emBound ({ mesh with slm := { mesh.slm with offers := [offer5] } } : State) ({ kind := 0, emitter := 2 } : TxReq).emitter = true)
      ∧ (macOn ({ mesh with slm := { mesh.slm with offers := [offer5] } } : State) = true)
      ∧ (domOn ({ mesh with slm := { mesh.slm with offers := [offer5] } } : State) 15 = true)
      ∧ (domOn ({ mesh with slm := { mesh.slm with offers := [offer5] } } : State) 16 = true)
      ∧ (allOn ({ mesh with slm := { mesh.slm with offers := [offer5] } } : State) = true)
      ∧ (offerOn ({ mesh with slm := { mesh.slm with offers := [offer5] } } : State) ({ kind := 0, emitter := 2 } : TxReq).emitter false = some offer5)
      ∧ (offer5.handle = some (5 : Nat))
      ∧ (nbr ({ mesh with slm := { mesh.slm with offers := [offer5] } } : State) (5 : Nat) = some nbr5)
      ∧ (mayStart ({ mesh with slm := { mesh.slm with offers := [offer5] } } : State) offer5.port = true)
      ∧ (idleEm ({ mesh with slm := { mesh.slm with offers := [offer5] } } : State) offer5.port ({ kind := 0, emitter := 2 } : TxReq).emitter = some (2 : Nat))
      ∧ (Claims.frameReady ({ mesh with slm := { mesh.slm with offers := [offer5] } } : State) nbr5 offer5.cls = true))
    ∧ ((({ kind := 0, emitter := 2 } : TxReq).kind = 0)
      ∧ (emBound (({ mesh with slm := { mesh.slm with offers := [offer5] } } |> setF F.keepPwrSupply_tx_hold 0 1) : State) ({ kind := 0, emitter := 2 } : TxReq).emitter = true)
      ∧ (macOn (({ mesh with slm := { mesh.slm with offers := [offer5] } } |> setF F.keepPwrSupply_tx_hold 0 1) : State) = true)
      ∧ (domOn (({ mesh with slm := { mesh.slm with offers := [offer5] } } |> setF F.keepPwrSupply_tx_hold 0 1) : State) 15 = true)
      ∧ (domOn (({ mesh with slm := { mesh.slm with offers := [offer5] } } |> setF F.keepPwrSupply_tx_hold 0 1) : State) 16 = true)
      ∧ (allOn (({ mesh with slm := { mesh.slm with offers := [offer5] } } |> setF F.keepPwrSupply_tx_hold 0 1) : State) = true)
      ∧ (offerOn (({ mesh with slm := { mesh.slm with offers := [offer5] } } |> setF F.keepPwrSupply_tx_hold 0 1) : State) ({ kind := 0, emitter := 2 } : TxReq).emitter false = some offer5)
      ∧ (offer5.handle = some (5 : Nat))
      ∧ (nbr (({ mesh with slm := { mesh.slm with offers := [offer5] } } |> setF F.keepPwrSupply_tx_hold 0 1) : State) (5 : Nat) = some nbr5)
      ∧ (deferring (({ mesh with slm := { mesh.slm with offers := [offer5] } } |> setF F.keepPwrSupply_tx_hold 0 1) : State) = true)
      ∧ (getF F.airRfStatus_synth offer5.port (({ mesh with slm := { mesh.slm with offers := [offer5] } } |> setF F.keepPwrSupply_tx_hold 0 1) : State) = 0)
      ∧ (offer5.port < 3)
      ∧ (idleEm (({ mesh with slm := { mesh.slm with offers := [offer5] } } |> setF F.keepPwrSupply_tx_hold 0 1) : State) offer5.port ({ kind := 0, emitter := 2 } : TxReq).emitter = some (2 : Nat))
      ∧ (Claims.frameReady (({ mesh with slm := { mesh.slm with offers := [offer5] } } |> setF F.keepPwrSupply_tx_hold 0 1) : State) nbr5 offer5.cls = true))
    ∧ (((em ((onEm (tx2 0 1)) : State) (2 : Fin 8)).tx = some ((tx2 0 1) : Tx))
      ∧ (((tx2 0 1) : Tx).phase = 1)
      ∧ (((tx2 0 1) : Tx).mhr.sec = none))
    ∧ (((em ((onEm { tx2 0 1 with mhr := { sec := some (6, 9, 1) } }) : State) (2 : Fin 8)).tx = some ({ tx2 0 1 with mhr := { sec := some (6, 9, 1) } } : Tx))
      ∧ (({ tx2 0 1 with mhr := { sec := some (6, 9, 1) } } : Tx).phase = 1)
      ∧ (({ tx2 0 1 with mhr := { sec := some (6, 9, 1) } } : Tx).kind = 0)
      ∧ (({ tx2 0 1 with mhr := { sec := some (6, 9, 1) } } : Tx).contact = false)
      ∧ (({ tx2 0 1 with mhr := { sec := some (6, 9, 1) } } : Tx).mhr.sec = some ((6 : Nat), (9 : Nat), (1 : Nat)))
      ∧ (cached ((onEm { tx2 0 1 with mhr := { sec := some (6, 9, 1) } }) : State) (9 : Nat) = false))
    ∧ (((em ((onEm (tx2 0 2)) : State) (2 : Fin 8)).tx = some ((tx2 0 2) : Tx))
      ∧ (((tx2 0 2) : Tx).phase = 2))
    ∧ (((em ((onEm (tx2 0 3)) : State) (2 : Fin 8)).tx = some ((tx2 0 3) : Tx))
      ∧ (((tx2 0 3) : Tx).phase = 3)
      ∧ (((tx2 0 3) : Tx).kind < 4))
    ∧ (((em ((onEm (tx2 0 4)) : State) (2 : Fin 8)).tx = some ((tx2 0 4) : Tx))
      ∧ (((tx2 0 4) : Tx).phase = 4)
      ∧ (((tx2 0 4) : Tx).kind = 0))
    ∧ (((em ((onEm (tx2 2 4)) : State) (2 : Fin 8)).tx = some ((tx2 2 4) : Tx))
      ∧ (((tx2 2 4) : Tx).phase = 4)
      ∧ (((tx2 2 4) : Tx).kind = 2))
    ∧ (((em ((onEm (tx2 0 5)) : State) (2 : Fin 8)).tx = some ((tx2 0 5) : Tx))
      ∧ (((tx2 0 5) : Tx).phase = 5)
      ∧ (((tx2 0 5) : Tx).kind ≠ 4))
    ∧ ((({ onEm (tx2 5 3) with slm := { mesh.slm with contacts := [contact5] } } : State).slm.contacts = [contact5])
      ∧ (contact5.handle = (5 : Nat))
      ∧ (contact5.stage = 0)
      ∧ ((em ({ onEm (tx2 5 3) with slm := { mesh.slm with contacts := [contact5] } } : State) contact5.emitter).tx = some ((tx2 5 3) : Tx))
      ∧ (((tx2 5 3) : Tx).kind = 5)
      ∧ (((tx2 5 3) : Tx).phase = 3))
    ∧ ((({ onEm (tx2 5 4) with slm := { mesh.slm with contacts := [contact5] } } : State).slm.contacts = [contact5])
      ∧ (contact5.handle = (5 : Nat))
      ∧ (contact5.stage = 0)
      ∧ ((em ({ onEm (tx2 5 4) with slm := { mesh.slm with contacts := [contact5] } } : State) contact5.emitter).tx = some ((tx2 5 4) : Tx))
      ∧ (((tx2 5 4) : Tx).kind = 5)
      ∧ (((tx2 5 4) : Tx).phase = 4)
      ∧ (nbr ({ onEm (tx2 5 4) with slm := { mesh.slm with contacts := [contact5] } } : State) (5 : Nat) = some nbr5)
      ∧ (Claims.frameReady ({ onEm (tx2 5 4) with slm := { mesh.slm with contacts := [contact5] } } : State) nbr5 contact5.cls = true)) := by
  refine ⟨?_, ?_, ?_, ?_, ?_, ?_, ?_, ?_, ?_, ?_, ?_⟩
  all_goals decide +kernel

theorem meets_SlotsAreProcessed :
    ((slmRunning sched = true)
      ∧ (sched.slm.stepped = none)
      ∧ (follower sched = false))
    ∧ ((slmRunning sched = true)
      ∧ (sched.slm.look = some ((164 : Nat) - 1))
      ∧ (nextAsn sched < (164 : Nat))
      ∧ (installedIn sched (164 : Nat) = [])
      ∧ (autoTxIn sched (164 : Nat) = [])
      ∧ (autoRxIn sched (164 : Nat) = []))
    ∧ ((slmRunning ({ sched with slm := { sched.slm with look := some 165 } } : State) = true)
      ∧ (({ sched with slm := { sched.slm with look := some 165 } } : State).slm.look = some ((166 : Nat) - 1))
      ∧ (nextAsn ({ sched with slm := { sched.slm with look := some 165 } } : State) < (166 : Nat))
      ∧ (installedIn ({ sched with slm := { sched.slm with look := some 165 } } : State) (166 : Nat) = [(⟨0, 1, 0, 2, some 5, 0, none⟩ : Cell)])
      ∧ ((⟨0, 1, 0, 2, some 5, 0, none⟩ : Cell).handle = some (5 : Nat))
      ∧ ((⟨0, 1, 0, 2, some 5, 0, none⟩ : Cell).shared = false)
      ∧ (autoTxIn ({ sched with slm := { sched.slm with look := some 165 } } : State) (166 : Nat) = [])
      ∧ (autoRxIn ({ sched with slm := { sched.slm with look := some 165 } } : State) (166 : Nat) = [])
      ∧ (nbr ({ sched with slm := { sched.slm with look := some 165 } } : State) (5 : Nat) = some nbr5))
    ∧ ((slmRunning sched2 = true)
      ∧ (domOn sched2 18 = true)
      ∧ (nextAsn sched2 = (102 : Nat))
      ∧ (txCells sched2 (102 : Nat) = [(⟨0, 2, 0, 1, some 5, 0, none⟩ : Cell)])
      ∧ ((⟨0, 2, 0, 1, some 5, 0, none⟩ : Cell).beacon = false)
      ∧ (txSyncOk sched2 (⟨0, 2, 0, 1, some 5, 0, none⟩ : Cell) = true)
      ∧ (sched2.slm.claims = [])
      ∧ (sched2.slm.offers = [])
      ∧ ((cellPick (cellReady (102 : Nat) (⟨0, 2, 0, 1, some 5, 0, none⟩ : Cell) (urgentRound (waitKeep (slotAt sched2 (102 : Nat) - 300000) sched2))).1 (102 : Nat) (⟨0, 2, 0, 1, some 5, 0, none⟩ : Cell) (cellReady (102 : Nat) (⟨0, 2, 0, 1, some 5, 0, none⟩ : Cell) (urgentRound (waitKeep (slotAt sched2 (102 : Nat) - 300000) sched2))).2).flow = some ((5 : Nat), (1 : Nat))))
    ∧ ((slmRunning ({ sched2 with slm := { sched2.slm with offers := [{ offer5 with asn := 102, emitter := none, listener := none }] } } : State) = true)
      ∧ (({ sched2 with slm := { sched2.slm with offers := [{ offer5 with asn := 102, emitter := none, listener := none }] } } : State).slm.offers = [({ offer5 with asn := 102, emitter := none, listener := none } : SlotTx)])
      ∧ (({ offer5 with asn := 102, emitter := none, listener := none } : SlotTx).asn = nextAsn ({ sched2 with slm := { sched2.slm with offers := [{ offer5 with asn := 102, emitter := none, listener := none }] } } : State))
      ∧ (({ offer5 with asn := 102, emitter := none, listener := none } : SlotTx).port < 3)
      ∧ (({ offer5 with asn := 102, emitter := none, listener := none } : SlotTx).emitter = none)
      ∧ (({ offer5 with asn := 102, emitter := none, listener := none } : SlotTx).contact = false)
      ∧ (({ offer5 with asn := 102, emitter := none, listener := none } : SlotTx).beacon = false)
      ∧ (emReaches ({ sched2 with slm := { sched2.slm with offers := [{ offer5 with asn := 102, emitter := none, listener := none }] } } : State) ({ offer5 with asn := 102, emitter := none, listener := none } : SlotTx).port ({ offer5 with asn := 102, emitter := none, listener := none } : SlotTx).khz ({ offer5 with asn := 102, emitter := none, listener := none } : SlotTx).mode = true)
      ∧ (freeEmitter ({ sched2 with slm := { sched2.slm with offers := [{ offer5 with asn := 102, emitter := none, listener := none }] } } : State) ({ offer5 with asn := 102, emitter := none, listener := none } : SlotTx).port (offerSpan ({ sched2 with slm := { sched2.slm with offers := [{ offer5 with asn := 102, emitter := none, listener := none }] } } : State) ({ offer5 with asn := 102, emitter := none, listener := none } : SlotTx)).1 (offerSpan ({ sched2 with slm := { sched2.slm with offers := [{ offer5 with asn := 102, emitter := none, listener := none }] } } : State) ({ offer5 with asn := 102, emitter := none, listener := none } : SlotTx)).2 = some (2 : Nat))
      ∧ (ackListener ({ sched2 with slm := { sched2.slm with offers := [{ offer5 with asn := 102, emitter := none, listener := none }] } } : State) ({ offer5 with asn := 102, emitter := none, listener := none } : SlotTx).port ({ offer5 with asn := 102, emitter := none, listener := none } : SlotTx).khz (modeWidth ({ offer5 with asn := 102, emitter := none, listener := none } : SlotTx).mode) ({ offer5 with asn := 102, emitter := none, listener := none } : SlotTx).ackFrom ({ offer5 with asn := 102, emitter := none, listener := none } : SlotTx).ackTo (some (sfPool ({ sched2 with slm := { sched2.slm with offers := [{ offer5 with asn := 102, emitter := none, listener := none }] } } : State) ({ offer5 with asn := 102, emitter := none, listener := none } : SlotTx).sf)) (keepers ({ sched2 with slm := { sched2.slm with offers := [{ offer5 with asn := 102, emitter := none, listener := none }] } } : State) ({ offer5 with asn := 102, emitter := none, listener := none } : SlotTx).asn) = some (9 : Nat))
      ∧ (blankFits ({ sched2 with slm := { sched2.slm with offers := [{ offer5 with asn := 102, emitter := none, listener := none }] } } : State) ({ offer5 with asn := 102, emitter := none, listener := none } : SlotTx) (some (9 : Nat)) = true))
    ∧ ((slmRunning (({ sched2 with slm := { sched2.slm with offers := [{ offer5 with asn := 102, port := 2, khz := 2440000, mode := 3, emitter := none }] } } |> cfg 0x0401 2 [1, 2441000, 0, 1]) : State) = true)
      ∧ ((({ sched2 with slm := { sched2.slm with offers := [{ offer5 with asn := 102, port := 2, khz := 2440000, mode := 3, emitter := none }] } } |> cfg 0x0401 2 [1, 2441000, 0, 1]) : State).slm.offers = [({ offer5 with asn := 102, port := 2, khz := 2440000, mode := 3, emitter := none } : SlotTx)])
      ∧ (({ offer5 with asn := 102, port := 2, khz := 2440000, mode := 3, emitter := none } : SlotTx).asn = nextAsn (({ sched2 with slm := { sched2.slm with offers := [{ offer5 with asn := 102, port := 2, khz := 2440000, mode := 3, emitter := none }] } } |> cfg 0x0401 2 [1, 2441000, 0, 1]) : State))
      ∧ (({ offer5 with asn := 102, port := 2, khz := 2440000, mode := 3, emitter := none } : SlotTx).port < 3)
      ∧ (({ offer5 with asn := 102, port := 2, khz := 2440000, mode := 3, emitter := none } : SlotTx).emitter = none)
      ∧ (({ offer5 with asn := 102, port := 2, khz := 2440000, mode := 3, emitter := none } : SlotTx).contact = false)
      ∧ (emReaches (({ sched2 with slm := { sched2.slm with offers := [{ offer5 with asn := 102, port := 2, khz := 2440000, mode := 3, emitter := none }] } } |> cfg 0x0401 2 [1, 2441000, 0, 1]) : State) ({ offer5 with asn := 102, port := 2, khz := 2440000, mode := 3, emitter := none } : SlotTx).port ({ offer5 with asn := 102, port := 2, khz := 2440000, mode := 3, emitter := none } : SlotTx).khz ({ offer5 with asn := 102, port := 2, khz := 2440000, mode := 3, emitter := none } : SlotTx).mode = true)
      ∧ (freeEmitter (({ sched2 with slm := { sched2.slm with offers := [{ offer5 with asn := 102, port := 2, khz := 2440000, mode := 3, emitter := none }] } } |> cfg 0x0401 2 [1, 2441000, 0, 1]) : State) ({ offer5 with asn := 102, port := 2, khz := 2440000, mode := 3, emitter := none } : SlotTx).port (offerSpan (({ sched2 with slm := { sched2.slm with offers := [{ offer5 with asn := 102, port := 2, khz := 2440000, mode := 3, emitter := none }] } } |> cfg 0x0401 2 [1, 2441000, 0, 1]) : State) ({ offer5 with asn := 102, port := 2, khz := 2440000, mode := 3, emitter := none } : SlotTx)).1 (offerSpan (({ sched2 with slm := { sched2.slm with offers := [{ offer5 with asn := 102, port := 2, khz := 2440000, mode := 3, emitter := none }] } } |> cfg 0x0401 2 [1, 2441000, 0, 1]) : State) ({ offer5 with asn := 102, port := 2, khz := 2440000, mode := 3, emitter := none } : SlotTx)).2 = none))
    ∧ ((slmRunning sched = true)
      ∧ (((waitKeep (slotAt sched (nextAsn sched) - 100000) sched) : State) = waitKeep (slotAt sched (nextAsn sched) - 100000) sched)
      ∧ (demands ((waitKeep (slotAt sched (nextAsn sched) - 100000) sched) : State) (nextAsn sched) = [(⟨101, 0, 2, 1, 914600, 0, 0, some 5, false, 1022120000, 1100000, 1000000, none⟩ : Expect)])
      ∧ ((⟨101, 0, 2, 1, 914600, 0, 0, some 5, false, 1022120000, 1100000, 1000000, none⟩ : Expect).rank = 2)
      ∧ ((⟨101, 0, 2, 1, 914600, 0, 0, some 5, false, 1022120000, 1100000, 1000000, none⟩ : Expect).listener = none)
      ∧ (sched.slm.contacts = [])
      ∧ (fixedHears sched (⟨101, 0, 2, 1, 914600, 0, 0, some 5, false, 1022120000, 1100000, 1000000, none⟩ : Expect).port (⟨101, 0, 2, 1, 914600, 0, 0, some 5, false, 1022120000, 1100000, 1000000, none⟩ : Expect).khz 1 = none)
      ∧ ((List.range 64).filter (fun i => lstKind sched i == 2 && !lstRetired sched i) = [(10 : Nat)])
      ∧ (poolFor sched (⟨101, 0, 2, 1, 914600, 0, 0, some 5, false, 1022120000, 1100000, 1000000, none⟩ : Expect).port (⟨101, 0, 2, 1, 914600, 0, 0, some 5, false, 1022120000, 1100000, 1000000, none⟩ : Expect).khz (some (sfPool sched (⟨101, 0, 2, 1, 914600, 0, 0, some 5, false, 1022120000, 1100000, 1000000, none⟩ : Expect).sf)) = [(10 : Nat)])
      ∧ (lstKhz sched (10 : Nat) ≠ (⟨101, 0, 2, 1, 914600, 0, 0, some 5, false, 1022120000, 1100000, 1000000, none⟩ : Expect).khz)
      ∧ (expectBlanked ((waitKeep (slotAt sched (nextAsn sched) - 100000) sched) : State) (⟨101, 0, 2, 1, 914600, 0, 0, some 5, false, 1022120000, 1100000, 1000000, none⟩ : Expect) (10 : Nat) = false))
    ∧ ((slmRunning ((cfg 0x0420 10 [0, 0, 0, 0] sched) : State) = true)
      ∧ (((waitKeep (slotAt (cfg 0x0420 10 [0, 0, 0, 0] sched) (nextAsn (cfg 0x0420 10 [0, 0, 0, 0] sched)) - 100000) (cfg 0x0420 10 [0, 0, 0, 0] sched)) : State) = waitKeep (slotAt ((cfg 0x0420 10 [0, 0, 0, 0] sched) : State) (nextAsn ((cfg 0x0420 10 [0, 0, 0, 0] sched) : State)) - 100000) ((cfg 0x0420 10 [0, 0, 0, 0] sched) : State))
      ∧ (demands ((waitKeep (slotAt (cfg 0x0420 10 [0, 0, 0, 0] sched) (nextAsn (cfg 0x0420 10 [0, 0, 0, 0] sched)) - 100000) (cfg 0x0420 10 [0, 0, 0, 0] sched)) : State) (nextAsn ((cfg 0x0420 10 [0, 0, 0, 0] sched) : State)) = [(⟨101, 0, 2, 1, 914600, 0, 0, some 5, false, 1022120000, 1100000, 1000000, none⟩ : Expect)])
      ∧ ((⟨101, 0, 2, 1, 914600, 0, 0, some 5, false, 1022120000, 1100000, 1000000, none⟩ : Expect).rank = 2)
      ∧ ((⟨101, 0, 2, 1, 914600, 0, 0, some 5, false, 1022120000, 1100000, 1000000, none⟩ : Expect).listener = none)
      ∧ (((cfg 0x0420 10 [0, 0, 0, 0] sched) : State).slm.contacts = [])
      ∧ (fixedHears ((cfg 0x0420 10 [0, 0, 0, 0] sched) : State) (⟨101, 0, 2, 1, 914600, 0, 0, some 5, false, 1022120000, 1100000, 1000000, none⟩ : Expect).port (⟨101, 0, 2, 1, 914600, 0, 0, some 5, false, 1022120000, 1100000, 1000000, none⟩ : Expect).khz 1 = none)
      ∧ ((List.range 64).filter (fun i => lstKind ((cfg 0x0420 10 [0, 0, 0, 0] sched) : State) i == 2 && !lstRetired ((cfg 0x0420 10 [0, 0, 0, 0] sched) : State) i) = []))
    ∧ ((slmRunning ({ sched with time := { sched.time with ns := 1051000000 }, slm := { sched.slm with stepped := some 50000000 } } : State) = true)
      ∧ (({ sched with time := { sched.time with ns := 1051000000 }, slm := { sched.slm with stepped := some 50000000 } } : State).slm.stepped = some (50000000 : Nat))
      ∧ (0 < (50000000 : Nat))
      ∧ (nextAsn ({ sched with time := { sched.time with ns := 1051000000 }, slm := { sched.slm with stepped := some 50000000 } } : State) = (101 : Nat))
      ∧ (asnFrom ({ sched with time := { sched.time with ns := 1051000000 }, slm := { sched.slm with stepped := some 50000000 } } : State) (waitKeep (slotAt ({ sched with time := { sched.time with ns := 1051000000 }, slm := { sched.slm with stepped := some 50000000 } } : State) (101 : Nat) + (50000000 : Nat)) ({ sched with time := { sched.time with ns := 1051000000 }, slm := { sched.slm with stepped := some 50000000 } } : State)).time.ns = (104 : Nat))
      ∧ ((101 : Nat) < (104 : Nat)))
    ∧ ((({ sched with slm := { sched.slm with stepped := some (-5) } } : State).slm.stepped = some ((-5) : Int))
      ∧ (((-5) : Int) ≤ 0)) := by
  refine ⟨?_, ?_, ?_, ?_, ?_, ?_, ?_, ?_, ?_, ?_⟩
  all_goals first | decide +kernel | (repeat' apply And.intro) <;> first | with_reducible rfl | decide +kernel

theorem meets_ContactsArePlacedAndBeaconsMissed :
    ((getF F.keepTimeState_source_ok 0 csl = 1)
      ∧ (domOn csl 15 = true)
      ∧ (domOn csl 18 = true)
      ∧ (follower csl = false)
      ∧ (((countPick (contactPick (contactReady csl).1 (contactReady csl).2) (contactReady csl).1) : State) = countPick (contactPick (contactReady csl).1 (contactReady csl).2) (contactReady csl).1)
      ∧ (contactPick (contactReady csl).1 (contactReady csl).2 = ⟨some ((5 : Nat), (1 : Nat)), false, 0⟩)
      ∧ (nbr ((countPick (contactPick (contactReady csl).1 (contactReady csl).2) (contactReady csl).1) : State) (5 : Nat) = some ({ nbr5 with b := { nbr5.b with sampled := true, timing := 4, sync := 1001000000 } } : Nbr))
      ∧ ((flowOf ({ nbr5 with b := { nbr5.b with sampled := true, timing := 4, sync := 1001000000 } } : Nbr).b (1 : Nat)).frames.head? = some ({ id := 40, enq := 0, octets := 30, pages := 1, group := 2 } : QFrame))
      ∧ (({ nbr5 with b := { nbr5.b with sampled := true, timing := 4, sync := 1001000000 } } : Nbr).b.sampled = true)
      ∧ (cslTiming ((countPick (contactPick (contactReady csl).1 (contactReady csl).2) (contactReady csl).1) : State) ({ nbr5 with b := { nbr5.b with sampled := true, timing := 4, sync := 1001000000 } } : Nbr).b = ({ nbr5 with b := { nbr5.b with sampled := true, timing := 4, sync := 1001000000 } } : Nbr).b.timing)
      ∧ (({ nbr5 with b := { nbr5.b with sampled := true, timing := 4, sync := 1001000000 } } : Nbr).b.timing < 6)
      ∧ (contactSearch ((countPick (contactPick (contactReady csl).1 (contactReady csl).2) (contactReady csl).1) : State) (5 : Nat) (1 : Nat) ({ nbr5 with b := { nbr5.b with sampled := true, timing := 4, sync := 1001000000 } } : Nbr).b (frameAir ((countPick (contactPick (contactReady csl).1 (contactReady csl).2) (contactReady csl).1) : State) ({ nbr5 with b := { nbr5.b with sampled := true, timing := 4, sync := 1001000000 } } : Nbr) ({ id := 40, enq := 0, octets := 30, pages := 1, group := 2 } : QFrame)) false (if ({ nbr5 with b := { nbr5.b with sampled := true, timing := 4, sync := 1001000000 } } : Nbr).b.period = 0 then ((countPick (contactPick (contactReady csl).1 (contactReady csl).2) (contactReady csl).1) : State).time.ns + halfWake ((countPick (contactPick (contactReady csl).1 (contactReady csl).2) (contactReady csl).1) : State) ({ nbr5 with b := { nbr5.b with sampled := true, timing := 4, sync := 1001000000 } } : Nbr).b + prepNs ((countPick (contactPick (contactReady csl).1 (contactReady csl).2) (contactReady csl).1) : State) (planPort ((countPick (contactPick (contactReady csl).1 (contactReady csl).2) (contactReady csl).1) : State) ({ nbr5 with b := { nbr5.b with sampled := true, timing := 4, sync := 1001000000 } } : Nbr).b.plan) else nominalFrom ({ nbr5 with b := { nbr5.b with sampled := true, timing := 4, sync := 1001000000 } } : Nbr).b (((countPick (contactPick (contactReady csl).1 (contactReady csl).2) (contactReady csl).1) : State).time.ns + halfWake ((countPick (contactPick (contactReady csl).1 (contactReady csl).2) (contactReady csl).1) : State) ({ nbr5 with b := { nbr5.b with sampled := true, timing := 4, sync := 1001000000 } } : Nbr).b + prepNs ((countPick (contactPick (contactReady csl).1 (contactReady csl).2) (contactReady csl).1) : State) (planPort ((countPick (contactPick (contactReady csl).1 (contactReady csl).2) (contactReady csl).1) : State) ({ nbr5 with b := { nbr5.b with sampled := true, timing := 4, sync := 1001000000 } } : Nbr).b.plan))) (((countPick (contactPick (contactReady csl).1 (contactReady csl).2) (contactReady csl).1) : State).time.ns + lookSpan ((countPick (contactPick (contactReady csl).1 (contactReady csl).2) (contactReady csl).1) : State)) 65 = ((15 : Nat), some contact6))
      ∧ ((0 : Nat) = getF F.linkSlmCntCslMiss_csl_defer 0 csl))
    ∧ ((follower (({ sched with slm := { sched.slm with expects := [⟨100, 0, 2, 1, 918400, 0, 0, some 5, true, 1022120000, 1100000, 1000000, some 9⟩] } } |> cfg 0x0504 0 [1, 5]) : State) = true)
      ∧ ((({ sched with slm := { sched.slm with expects := [⟨100, 0, 2, 1, 918400, 0, 0, some 5, true, 1022120000, 1100000, 1000000, some 9⟩] } } |> cfg 0x0504 0 [1, 5]) : State).slm.expects = [(⟨100, 0, 2, 1, 918400, 0, 0, some 5, true, 1022120000, 1100000, 1000000, some 9⟩ : Expect)])
      ∧ ((⟨100, 0, 2, 1, 918400, 0, 0, some 5, true, 1022120000, 1100000, 1000000, some 9⟩ : Expect).keeping = true)
      ∧ ((⟨100, 0, 2, 1, 918400, 0, 0, some 5, true, 1022120000, 1100000, 1000000, some 9⟩ : Expect).listener.isSome = true)
      ∧ (getF F.linkSlmStatus_missed_eb 0 (({ sched with slm := { sched.slm with expects := [⟨100, 0, 2, 1, 918400, 0, 0, some 5, true, 1022120000, 1100000, 1000000, some 9⟩] } } |> cfg 0x0504 0 [1, 5]) : State) = (0 : Nat))
      ∧ ((0 : Nat) ≠ 2)
      ∧ ((0 : Nat) < 255)
      ∧ (syncState (({ sched with slm := { sched.slm with expects := [⟨100, 0, 2, 1, 918400, 0, 0, some 5, true, 1022120000, 1100000, 1000000, some 9⟩] } } |> cfg 0x0504 0 [1, 5]) : State) = 0))
    ∧ ((follower (({ sched with slm := { sched.slm with parentSync := some 1000000000, expects := [⟨100, 0, 2, 1, 918400, 0, 0, some 5, true, 1022120000, 1100000, 1000000, some 9⟩] } } |> cfg 0x0504 0 [1, 5] |> cfg 0x0505 0 [BitVec.ofNat 32 (40 + 4 * 256 + 500 * 65536), 0] |> setF F.linkSlmStatus_missed_eb 0 2) : State) = true)
      ∧ ((({ sched with slm := { sched.slm with parentSync := some 1000000000, expects := [⟨100, 0, 2, 1, 918400, 0, 0, some 5, true, 1022120000, 1100000, 1000000, some 9⟩] } } |> cfg 0x0504 0 [1, 5] |> cfg 0x0505 0 [BitVec.ofNat 32 (40 + 4 * 256 + 500 * 65536), 0] |> setF F.linkSlmStatus_missed_eb 0 2) : State).slm.expects = [(⟨100, 0, 2, 1, 918400, 0, 0, some 5, true, 1022120000, 1100000, 1000000, some 9⟩ : Expect)])
      ∧ ((⟨100, 0, 2, 1, 918400, 0, 0, some 5, true, 1022120000, 1100000, 1000000, some 9⟩ : Expect).keeping = true)
      ∧ ((⟨100, 0, 2, 1, 918400, 0, 0, some 5, true, 1022120000, 1100000, 1000000, some 9⟩ : Expect).listener.isSome = true)
      ∧ (getF F.linkSlmStatus_missed_eb 0 (({ sched with slm := { sched.slm with parentSync := some 1000000000, expects := [⟨100, 0, 2, 1, 918400, 0, 0, some 5, true, 1022120000, 1100000, 1000000, some 9⟩] } } |> cfg 0x0504 0 [1, 5] |> cfg 0x0505 0 [BitVec.ofNat 32 (40 + 4 * 256 + 500 * 65536), 0] |> setF F.linkSlmStatus_missed_eb 0 2) : State) = 2)
      ∧ (syncState (({ sched with slm := { sched.slm with parentSync := some 1000000000, expects := [⟨100, 0, 2, 1, 918400, 0, 0, some 5, true, 1022120000, 1100000, 1000000, some 9⟩] } } |> cfg 0x0504 0 [1, 5] |> cfg 0x0505 0 [BitVec.ofNat 32 (40 + 4 * 256 + 500 * 65536), 0] |> setF F.linkSlmStatus_missed_eb 0 2) : State) = 0)
      ∧ (timeState (({ sched with slm := { sched.slm with parentSync := some 1000000000, expects := [⟨100, 0, 2, 1, 918400, 0, 0, some 5, true, 1022120000, 1100000, 1000000, some 9⟩] } } |> cfg 0x0504 0 [1, 5] |> cfg 0x0505 0 [BitVec.ofNat 32 (40 + 4 * 256 + 500 * 65536), 0] |> setF F.linkSlmStatus_missed_eb 0 2) : State) = 0)
      ∧ (2 * uSelf (setSync 1 (waitKeep ((⟨100, 0, 2, 1, 918400, 0, 0, some 5, true, 1022120000, 1100000, 1000000, some 9⟩ : Expect).mid + (⟨100, 0, 2, 1, 918400, 0, 0, some 5, true, 1022120000, 1100000, 1000000, some 9⟩ : Expect).half) (({ sched with slm := { sched.slm with parentSync := some 1000000000, expects := [⟨100, 0, 2, 1, 918400, 0, 0, some 5, true, 1022120000, 1100000, 1000000, some 9⟩] } } |> cfg 0x0504 0 [1, 5] |> cfg 0x0505 0 [BitVec.ofNat 32 (40 + 4 * 256 + 500 * 65536), 0] |> setF F.linkSlmStatus_missed_eb 0 2) : State))) < guardMin (({ sched with slm := { sched.slm with parentSync := some 1000000000, expects := [⟨100, 0, 2, 1, 918400, 0, 0, some 5, true, 1022120000, 1100000, 1000000, some 9⟩] } } |> cfg 0x0504 0 [1, 5] |> cfg 0x0505 0 [BitVec.ofNat 32 (40 + 4 * 256 + 500 * 65536), 0] |> setF F.linkSlmStatus_missed_eb 0 2) : State))) := by
  refine ⟨?_, ?_, ?_⟩
  all_goals first | decide +kernel | (repeat' apply And.intro) <;> first | with_reducible rfl | decide +kernel

theorem meets_TheChairliftMovesBerthsAndPages :
    ((nbr ((mesh5 { nbr5 with resident := false, fetch := some ⟨0, 0⟩ }) : State) (5 : Nat) = some ({ nbr5 with resident := false, fetch := some ⟨0, 0⟩ } : Nbr))
      ∧ (({ nbr5 with resident := false, fetch := some ⟨0, 0⟩ } : Nbr).fetch.isSome = true)
      ∧ (({ nbr5 with resident := false, fetch := some ⟨0, 0⟩ } : Nbr).built = true)
      ∧ (domOn ((mesh5 { nbr5 with resident := false, fetch := some ⟨0, 0⟩ }) : State) 17 = true)
      ∧ (ddrUp ((mesh5 { nbr5 with resident := false, fetch := some ⟨0, 0⟩ }) : State) = true)
      ∧ (freeBerths ((mesh5 { nbr5 with resident := false, fetch := some ⟨0, 0⟩ }) : State) ≠ 0)
      ∧ (((mesh5 { nbr5 with resident := false, fetch := some ⟨0, 0⟩ }) : State).recs = []))
    ∧ ((nbr ({ mesh5 { nbr5 with resident := false, built := false, fetch := some ⟨1, 0⟩ } with persist := [(5, ⟨false, true, false, false, 2, 0xAA55, 0xFFFE, 0xFFFF, (0xC003, 0), (false, false), (0, 0), 0, 0⟩)] } : State) (5 : Nat) = some ({ nbr5 with resident := false, built := false, fetch := some ⟨1, 0⟩ } : Nbr))
      ∧ (({ nbr5 with resident := false, built := false, fetch := some ⟨1, 0⟩ } : Nbr).fetch.isSome = true)
      ∧ (({ nbr5 with resident := false, built := false, fetch := some ⟨1, 0⟩ } : Nbr).built = false)
      ∧ (domOn ({ mesh5 { nbr5 with resident := false, built := false, fetch := some ⟨1, 0⟩ } with persist := [(5, ⟨false, true, false, false, 2, 0xAA55, 0xFFFE, 0xFFFF, (0xC003, 0), (false, false), (0, 0), 0, 0⟩)] } : State) 17 = true)
      ∧ (freeBerths ({ mesh5 { nbr5 with resident := false, built := false, fetch := some ⟨1, 0⟩ } with persist := [(5, ⟨false, true, false, false, 2, 0xAA55, 0xFFFE, 0xFFFF, (0xC003, 0), (false, false), (0, 0), 0, 0⟩)] } : State) ≠ 0)
      ∧ (({ mesh5 { nbr5 with resident := false, built := false, fetch := some ⟨1, 0⟩ } with persist := [(5, ⟨false, true, false, false, 2, 0xAA55, 0xFFFE, 0xFFFF, (0xC003, 0), (false, false), (0, 0), 0, 0⟩)] } : State).recs = [])
      ∧ (tabFind ({ mesh5 { nbr5 with resident := false, built := false, fetch := some ⟨1, 0⟩ } with persist := [(5, ⟨false, true, false, false, 2, 0xAA55, 0xFFFE, 0xFFFF, (0xC003, 0), (false, false), (0, 0), 0, 0⟩)] } : State).persist (5 : Nat) = some (⟨false, true, false, false, 2, 0xAA55, 0xFFFE, 0xFFFF, (0xC003, 0), (false, false), (0, 0), 0, 0⟩ : Persist)))
    ∧ ((nbr ((mesh5 { nbr5 with writing := true }) : State) (5 : Nat) = some ({ nbr5 with writing := true } : Nbr))
      ∧ (({ nbr5 with writing := true } : Nbr).writing = true)
      ∧ (ddrUp ((mesh5 { nbr5 with writing := true }) : State) = true))
    ∧ ((isF ({ mesh5 nbr5 with trf := { (mesh5 nbr5).trf with used := [(2, 32000)] } } : State) = true)
      ∧ (ddrUp ({ mesh5 nbr5 with trf := { (mesh5 nbr5).trf with used := [(2, 32000)] } } : State) = true)
      ∧ (freePages ({ mesh5 nbr5 with trf := { (mesh5 nbr5).trf with used := [(2, 32000)] } } : State) < spillLow ({ mesh5 nbr5 with trf := { (mesh5 nbr5).trf with used := [(2, 32000)] } } : State))
      ∧ (({ mesh5 nbr5 with trf := { (mesh5 nbr5).trf with used := [(2, 32000)] } } : State).nbrs = [((5 : Nat), nbr5)])
      ∧ (spillable ({ mesh5 nbr5 with trf := { (mesh5 nbr5).trf with used := [(2, 32000)] } } : State) (5 : Nat) nbr5.b = true)
      ∧ ((flowOf nbr5.b 1).busy = false)
      ∧ ((flowOf nbr5.b 1).frames.length = 1)
      ∧ ((flowOf nbr5.b 1).frames.all (fun q => q.spilled == 0 && q.pages == 1 && q.group == 2) = true)
      ∧ (([0, 2, 3].all fun c => (flowOf nbr5.b c).frames.isEmpty) = true)
      ∧ (spilledPages ({ mesh5 nbr5 with trf := { (mesh5 nbr5).trf with used := [(2, 32000)] } } : State) = 0)
      ∧ (0 < quotaUsed ({ mesh5 nbr5 with trf := { (mesh5 nbr5).trf with used := [(2, 32000)] } } : State) 2))
    ∧ ((ddrUp ({ mesh5 (spill5 1) with trf := { (mesh5 nbr5).trf with used := [(2, 3)] } } : State) = true)
      ∧ ((flow ({ mesh5 (spill5 1) with trf := { (mesh5 nbr5).trf with used := [(2, 3)] } } : State) (5 : Nat) 1).frames = [({ id := 40, enq := 0, octets := 30, pages := 1, group := 2, spilled := 1 } : QFrame)])
      ∧ (({ id := 40, enq := 0, octets := 30, pages := 1, group := 2, spilled := 1 } : QFrame).spilled ≠ 0)
      ∧ (({ id := 40, enq := 0, octets := 30, pages := 1, group := 2, spilled := 1 } : QFrame).spilled ≤ freePages ({ mesh5 (spill5 1) with trf := { (mesh5 nbr5).trf with used := [(2, 3)] } } : State))
      ∧ ((nbr ({ mesh5 (spill5 1) with trf := { (mesh5 nbr5).trf with used := [(2, 3)] } } : State) (5 : Nat)).isSome = true))
    ∧ ((ddrUp ((mesh5 (spill5 1)) : State) = true)
      ∧ ((flow ((mesh5 (spill5 1)) : State) (5 : Nat) 1).frames = [({ id := 40, enq := 0, octets := 30, pages := 1, group := 2, spilled := 1 } : QFrame)])
      ∧ (({ id := 40, enq := 0, octets := 30, pages := 1, group := 2, spilled := 1 } : QFrame).spilled ≠ 0)
      ∧ (({ id := 40, enq := 0, octets := 30, pages := 1, group := 2, spilled := 1 } : QFrame).dgram = none)
      ∧ ((nbr ((mesh5 (spill5 1)) : State) (5 : Nat)).isSome = true))
    ∧ ((({ mesh with fwd := { mesh.fwd with deliver := [⟨3, 0, 1024, 5, 1, 4, 3, 0, 0, 0, 1, 0, false, false⟩] } } : State).fwd.deliver = [(⟨3, 0, 1024, 5, 1, 4, 3, 0, 0, 0, 1, 0, false, false⟩ : Delivery)])
      ∧ ((⟨3, 0, 1024, 5, 1, 4, 3, 0, 0, 0, 1, 0, false, false⟩ : Delivery).ring = (3 : Fin 32))
      ∧ ((⟨3, 0, 1024, 5, 1, 4, 3, 0, 0, 0, 1, 0, false, false⟩ : Delivery).spilled ≠ 0)
      ∧ ((⟨3, 0, 1024, 5, 1, 4, 3, 0, 0, 0, 1, 0, false, false⟩ : Delivery).parked = false))
    ∧ ((nbr ((mesh5 { nbr5 with dirtyAt := some 9, persistedAt := some 7 }) : State) (5 : Nat) = some ({ nbr5 with dirtyAt := some 9, persistedAt := some 7 } : Nbr))
      ∧ (({ nbr5 with dirtyAt := some 9, persistedAt := some 7 } : Nbr).dirtyAt.isSome = true)
      ∧ (({ nbr5 with dirtyAt := some 9, persistedAt := some 7 } : Nbr).persistedAt = some (7 : Nat))
      ∧ (domOn ((mesh5 { nbr5 with dirtyAt := some 9, persistedAt := some 7 }) : State) 2 = true))
    ∧ ((((mesh5 nbr5) : State).nbrs = [((5 : Nat), nbr5)])
      ∧ (nbr5.quarantined = false)
      ∧ (false = false)
      ∧ (nbr5.resident = true)
      ∧ (((mesh5 nbr5) : State).recs = [])
      ∧ (((mesh5 nbr5) : State).fwd.reasm = [])
      ∧ (((List.range 8).all fun e => (em ((mesh5 nbr5) : State) e).tx.isNone) = true)
      ∧ (((mesh5 nbr5) : State).awaiting = [])
      ∧ (((mesh5 nbr5) : State).slm.contacts = []))
    ∧ ((isF ({ mesh5 { nbr5 with resident := false } with net := { mesh.net with ddrLost := true } } : State) = true)
      ∧ (({ mesh5 { nbr5 with resident := false } with net := { mesh.net with ddrLost := true } } : State).net.ddrLost = true)
      ∧ (({ mesh5 { nbr5 with resident := false } with net := { mesh.net with ddrLost := true } } : State).nbrs = [((5 : Nat), ({ nbr5 with resident := false } : Nbr))])
      ∧ (({ nbr5 with resident := false } : Nbr).resident = false)) := by
  refine ⟨?_, ?_, ?_, ?_, ?_, ?_, ?_, ?_, ?_, ?_⟩
  all_goals decide +kernel

theorem meets_FlowsAreScheduledAndItemsDispatched :
    ((domOn (({ mesh with nbrs := [(5, { nbr5 with b := { nbr5.b with flows := ({}, { credit := -500, profile := 2 }, {}, {}) } })] } |> cfg 0x0C02 2 [BitVec.ofNat 32 (2 + 250000 * 256), 1000]) : State) 18 = true)
      ∧ ((({ mesh with nbrs := [(5, { nbr5 with b := { nbr5.b with flows := ({}, { credit := -500, profile := 2 }, {}, {}) } })] } |> cfg 0x0C02 2 [BitVec.ofNat 32 (2 + 250000 * 256), 1000]) : State).nbrs = [((5 : Nat), ({ nbr5 with b := { nbr5.b with flows := ({}, { credit := -500, profile := 2 }, {}, {}) } } : Nbr))])
      ∧ (({ nbr5 with b := { nbr5.b with flows := ({}, { credit := -500, profile := 2 }, {}, {}) } } : Nbr).resident = true))
    ∧ ((domOn (({ mesh with time := { mesh.time with ns := 200000000 } } |> cfg 0x0C05 0 [276]) : State) 18 = true)
      ∧ ((({ mesh with time := { mesh.time with ns := 200000000 } } |> cfg 0x0C05 0 [276]) : State).nbrs = [((5 : Nat), nbr5)])
      ∧ (entersUrgent (({ mesh with time := { mesh.time with ns := 200000000 } } |> cfg 0x0C05 0 [276]) : State) (5 : Nat) (1 : Fin 4) = true)
      ∧ (((List.range 4).all fun k => k == (1 : Fin 4).val || !entersUrgent (({ mesh with time := { mesh.time with ns := 200000000 } } |> cfg 0x0C05 0 [276]) : State) (5 : Nat) k) = true))
    ∧ ((samplerEn (({ mesh with time := { mesh.time with ns := 5000000 } } |> cfg 0x0C05 0 [276]) : State) = true)
      ∧ (domOn (({ mesh with time := { mesh.time with ns := 5000000 } } |> cfg 0x0C05 0 [276]) : State) 18 = true)
      ∧ ((({ mesh with time := { mesh.time with ns := 5000000 } } |> cfg 0x0C05 0 [276]) : State).nbrs = [((5 : Nat), nbr5)])
      ∧ (nbr5.resident = true)
      ∧ ((({ mesh with time := { mesh.time with ns := 5000000 } } |> cfg 0x0C05 0 [276]) : State).trf.cursor = none)
      ∧ ((flowOf nbr5.b (1 : Fin 4)).frames.isEmpty = false)
      ∧ (((List.range 4).all fun k => k == (1 : Fin 4).val || (flowOf nbr5.b k).frames.isEmpty) = true))
    ∧ ((samplerEn ((mesh |> cfg 0x0C05 0 [276] |> setF F.netRingCfg_enable 3 1 |> setF F.netRingCfg_size_log2 3 6 |> setF F.netRingTail_tail 3 9) : State) = true)
      ∧ (domOn ((mesh |> cfg 0x0C05 0 [276] |> setF F.netRingCfg_enable 3 1 |> setF F.netRingCfg_size_log2 3 6 |> setF F.netRingTail_tail 3 9) : State) 18 = true)
      ∧ ((List.range 32).filter (fun i => getB F.netRingCfg_enable i ((mesh |> cfg 0x0C05 0 [276] |> setF F.netRingCfg_enable 3 1 |> setF F.netRingCfg_size_log2 3 6 |> setF F.netRingTail_tail 3 9) : State)) = [(3 : Fin 32).val]))
    ∧ ((coreOk ({ mesh with trf := { mesh.trf with items := [{ item1 with id := 6, cls := 3, dflow := 9 }, item1] } } : State) (2 : Fin 8) = true)
      ∧ (domOn ({ mesh with trf := { mesh.trf with items := [{ item1 with id := 6, cls := 3, dflow := 9 }, item1] } } : State) 20 = true)
      ∧ (activationPauses ({ mesh with trf := { mesh.trf with items := [{ item1 with id := 6, cls := 3, dflow := 9 }, item1] } } : State) = false)
      ∧ (({ mesh with trf := { mesh.trf with items := [{ item1 with id := 6, cls := 3, dflow := 9 }, item1] } } : State).trf.items.all (fun y => y.core != some (2 : Fin 8).val) = true)
      ∧ (nextReady ({ mesh with trf := { mesh.trf with items := [{ item1 with id := 6, cls := 3, dflow := 9 }, item1] } } : State) = some item1))
    ∧ ((coreOk ({ mesh with trf := { mesh.trf with items := [item1] } } : State) (2 : Fin 8) = true)
      ∧ (domOn ({ mesh with trf := { mesh.trf with items := [item1] } } : State) 20 = true)
      ∧ (activationPauses ({ mesh with trf := { mesh.trf with items := [item1] } } : State) = false)
      ∧ (({ mesh with trf := { mesh.trf with items := [item1] } } : State).trf.items = [item1])
      ∧ (item1.core = none)
      ∧ (itemRunnable item1 = true))
    ∧ ((({ mesh with trf := { mesh.trf with items := [{ item1 with core := some 2, flags := 0, mask := 16 }] } } : State).trf.items = [({ item1 with core := some 2, flags := 0, mask := 16 } : CoreItem)])
      ∧ (({ item1 with core := some 2, flags := 0, mask := 16 } : CoreItem).id = (7 : Nat))
      ∧ (({ item1 with core := some 2, flags := 0, mask := 16 } : CoreItem).core = some (2 : Fin 8).val)
      ∧ (({ item1 with core := some 2, flags := 0, mask := 16 } : CoreItem).mask = 2 ^ (4 : Fin 16).val)
      ∧ (({ item1 with core := some 2, flags := 0, mask := 16 } : CoreItem).flags = 0))
    ∧ ((({ mesh with trf := { mesh.trf with items := [{ item1 with core := some 2, flags := 0, mask := 8 }] } } : State).trf.items = [({ item1 with core := some 2, flags := 0, mask := 8 } : CoreItem)])
      ∧ (({ item1 with core := some 2, flags := 0, mask := 8 } : CoreItem).id = (7 : Nat))
      ∧ (Nat.land (setBit ({ item1 with core := some 2, flags := 0, mask := 8 } : CoreItem).flags (4 : Fin 16) true) ({ item1 with core := some 2, flags := 0, mask := 8 } : CoreItem).mask = 0))
    ∧ ((coreOk ({ mesh with trf := { mesh.trf with items := [{ item1 with core := some 2 }] } } : State) (2 : Fin 8) = true)
      ∧ (({ mesh with trf := { mesh.trf with items := [{ item1 with core := some 2 }] } } : State).trf.items = [({ item1 with core := some 2 } : CoreItem)])
      ∧ (({ item1 with core := some 2 } : CoreItem).core = some (2 : Fin 8).val)
      ∧ ((testQueue (testBlock 6 (2 : Fin 8)) ({ mesh with trf := { mesh.trf with items := [{ item1 with core := some 2 }] } } : State)).length < 8)) := by
  refine ⟨?_, ?_, ?_, ?_, ?_, ?_, ?_, ?_, ?_⟩
  all_goals decide +kernel

theorem meets_PacketsAreForwardedAndReassembled :
    ((({ mesh with fwd := { mesh.fwd with up := [up1 3 pkt1], routes := [(pkt1.dst, ⟨393219, 0, true⟩)] } } : State).fwd.up = [((up1 3 pkt1) : UpPkt)])
      ∧ (({ mesh with fwd := { mesh.fwd with up := [up1 3 pkt1], routes := [(pkt1.dst, ⟨393219, 0, true⟩)] } } : State).fwd.reasm = [])
      ∧ (((up1 3 pkt1) : UpPkt).origin = 3)
      ∧ (isStandby ({ mesh with fwd := { mesh.fwd with up := [up1 3 pkt1], routes := [(pkt1.dst, ⟨393219, 0, true⟩)] } } : State) = false)
      ∧ (domOn ({ mesh with fwd := { mesh.fwd with up := [up1 3 pkt1], routes := [(pkt1.dst, ⟨393219, 0, true⟩)] } } : State) 19 = true)
      ∧ (isMulticast ((up1 3 pkt1) : UpPkt).pkt.dst = false)
      ∧ (isLinkLocal ((up1 3 pkt1) : UpPkt).pkt.dst = false)
      ∧ (lookupRoute ({ mesh with fwd := { mesh.fwd with up := [up1 3 pkt1], routes := [(pkt1.dst, ⟨393219, 0, true⟩)] } } : State) ((up1 3 pkt1) : UpPkt).pkt.dst = some (⟨393219, 0, true⟩ : Route))
      ∧ ((⟨393219, 0, true⟩ : Route).static = true)
      ∧ (ewKind (⟨393219, 0, true⟩ : Route).entry = 3))
    ∧ ((((({ mesh with fwd := { mesh.fwd with up := [up1 3 pkt1], routes := [(pkt1.dst, ⟨131072, 0, true⟩)] } }) |> setF F.keepGate_fwd_open 0 0) : State).fwd.up = [((up1 3 pkt1) : UpPkt)])
      ∧ (((({ mesh with fwd := { mesh.fwd with up := [up1 3 pkt1], routes := [(pkt1.dst, ⟨131072, 0, true⟩)] } }) |> setF F.keepGate_fwd_open 0 0) : State).fwd.reasm = [])
      ∧ (((up1 3 pkt1) : UpPkt).origin = 3)
      ∧ (isStandby ((({ mesh with fwd := { mesh.fwd with up := [up1 3 pkt1], routes := [(pkt1.dst, ⟨131072, 0, true⟩)] } }) |> setF F.keepGate_fwd_open 0 0) : State) = false)
      ∧ (domOn ((({ mesh with fwd := { mesh.fwd with up := [up1 3 pkt1], routes := [(pkt1.dst, ⟨131072, 0, true⟩)] } }) |> setF F.keepGate_fwd_open 0 0) : State) 19 = true)
      ∧ (isMulticast ((up1 3 pkt1) : UpPkt).pkt.dst = false)
      ∧ (isLinkLocal ((up1 3 pkt1) : UpPkt).pkt.dst = false)
      ∧ (lookupRoute ((({ mesh with fwd := { mesh.fwd with up := [up1 3 pkt1], routes := [(pkt1.dst, ⟨131072, 0, true⟩)] } }) |> setF F.keepGate_fwd_open 0 0) : State) ((up1 3 pkt1) : UpPkt).pkt.dst = some (⟨131072, 0, true⟩ : Route))
      ∧ ((⟨131072, 0, true⟩ : Route).static = true)
      ∧ (ewKind (⟨131072, 0, true⟩ : Route).entry = 1)
      ∧ (fwdOpen ((({ mesh with fwd := { mesh.fwd with up := [up1 3 pkt1], routes := [(pkt1.dst, ⟨131072, 0, true⟩)] } }) |> setF F.keepGate_fwd_open 0 0) : State) = false))
    ∧ ((((({ mesh with fwd := { mesh.fwd with up := [up1 3 pkt1], routes := [(pkt1.dst, ⟨131072, 0, true⟩)] } }) |> cfg 0x0140 0 [BitVec.ofNat 32 (1500 * 65536), 1, 0] |> cfg 0x0141 0 [0, 5, 0] |> setF F.netEthStatus_link 0 1) : State).fwd.up = [((up1 3 pkt1) : UpPkt)])
      ∧ (((({ mesh with fwd := { mesh.fwd with up := [up1 3 pkt1], routes := [(pkt1.dst, ⟨131072, 0, true⟩)] } }) |> cfg 0x0140 0 [BitVec.ofNat 32 (1500 * 65536), 1, 0] |> cfg 0x0141 0 [0, 5, 0] |> setF F.netEthStatus_link 0 1) : State).fwd.reasm = [])
      ∧ (((up1 3 pkt1) : UpPkt).origin = 3)
      ∧ (isStandby ((({ mesh with fwd := { mesh.fwd with up := [up1 3 pkt1], routes := [(pkt1.dst, ⟨131072, 0, true⟩)] } }) |> cfg 0x0140 0 [BitVec.ofNat 32 (1500 * 65536), 1, 0] |> cfg 0x0141 0 [0, 5, 0] |> setF F.netEthStatus_link 0 1) : State) = false)
      ∧ (domOn ((({ mesh with fwd := { mesh.fwd with up := [up1 3 pkt1], routes := [(pkt1.dst, ⟨131072, 0, true⟩)] } }) |> cfg 0x0140 0 [BitVec.ofNat 32 (1500 * 65536), 1, 0] |> cfg 0x0141 0 [0, 5, 0] |> setF F.netEthStatus_link 0 1) : State) 19 = true)
      ∧ (isMulticast ((up1 3 pkt1) : UpPkt).pkt.dst = false)
      ∧ (isLinkLocal ((up1 3 pkt1) : UpPkt).pkt.dst = false)
      ∧ (lookupRoute ((({ mesh with fwd := { mesh.fwd with up := [up1 3 pkt1], routes := [(pkt1.dst, ⟨131072, 0, true⟩)] } }) |> cfg 0x0140 0 [BitVec.ofNat 32 (1500 * 65536), 1, 0] |> cfg 0x0141 0 [0, 5, 0] |> setF F.netEthStatus_link 0 1) : State) ((up1 3 pkt1) : UpPkt).pkt.dst = some (⟨131072, 0, true⟩ : Route))
      ∧ ((⟨131072, 0, true⟩ : Route).static = true)
      ∧ (ewKind (⟨131072, 0, true⟩ : Route).entry = 1)
      ∧ (fwdOpen ((({ mesh with fwd := { mesh.fwd with up := [up1 3 pkt1], routes := [(pkt1.dst, ⟨131072, 0, true⟩)] } }) |> cfg 0x0140 0 [BitVec.ofNat 32 (1500 * 65536), 1, 0] |> cfg 0x0141 0 [0, 5, 0] |> setF F.netEthStatus_link 0 1) : State) = true)
      ∧ (1 < ((up1 3 pkt1) : UpPkt).pkt.hop)
      ∧ (((up1 3 pkt1) : UpPkt).pkt.len ≤ ethMtu ((({ mesh with fwd := { mesh.fwd with up := [up1 3 pkt1], routes := [(pkt1.dst, ⟨131072, 0, true⟩)] } }) |> cfg 0x0140 0 [BitVec.ofNat 32 (1500 * 65536), 1, 0] |> cfg 0x0141 0 [0, 5, 0] |> setF F.netEthStatus_link 0 1) : State) 0)
      ∧ (redundMode ((({ mesh with fwd := { mesh.fwd with up := [up1 3 pkt1], routes := [(pkt1.dst, ⟨131072, 0, true⟩)] } }) |> cfg 0x0140 0 [BitVec.ofNat 32 (1500 * 65536), 1, 0] |> cfg 0x0141 0 [0, 5, 0] |> setF F.netEthStatus_link 0 1) : State) = 0)
      ∧ (getF F.netEthStatus_link 0 ((({ mesh with fwd := { mesh.fwd with up := [up1 3 pkt1], routes := [(pkt1.dst, ⟨131072, 0, true⟩)] } }) |> cfg 0x0140 0 [BitVec.ofNat 32 (1500 * 65536), 1, 0] |> cfg 0x0141 0 [0, 5, 0] |> setF F.netEthStatus_link 0 1) : State) = 1)
      ∧ (ethGateway ((({ mesh with fwd := { mesh.fwd with up := [up1 3 pkt1], routes := [(pkt1.dst, ⟨131072, 0, true⟩)] } }) |> cfg 0x0140 0 [BitVec.ofNat 32 (1500 * 65536), 1, 0] |> cfg 0x0141 0 [0, 5, 0] |> setF F.netEthStatus_link 0 1) : State) 0 ≠ 0))
    ∧ (((({ mesh with fwd := { mesh.fwd with up := [up1 3 pkt1], routes := [(pkt1.dst, ⟨5, 0, true⟩)] } } |> cfg 0x0C03 1 [BitVec.ofNat 32 (1 + 1024 * 8 + 2048 * 2 ^ 19)] |> cfg 0x0801 0 [0, 2047, 0]) : State).fwd.up = [((up1 3 pkt1) : UpPkt)])
      ∧ ((({ mesh with fwd := { mesh.fwd with up := [up1 3 pkt1], routes := [(pkt1.dst, ⟨5, 0, true⟩)] } } |> cfg 0x0C03 1 [BitVec.ofNat 32 (1 + 1024 * 8 + 2048 * 2 ^ 19)] |> cfg 0x0801 0 [0, 2047, 0]) : State).fwd.reasm = [])
      ∧ (((up1 3 pkt1) : UpPkt).origin = 3)
      ∧ (isStandby (({ mesh with fwd := { mesh.fwd with up := [up1 3 pkt1], routes := [(pkt1.dst, ⟨5, 0, true⟩)] } } |> cfg 0x0C03 1 [BitVec.ofNat 32 (1 + 1024 * 8 + 2048 * 2 ^ 19)] |> cfg 0x0801 0 [0, 2047, 0]) : State) = false)
      ∧ (domOn (({ mesh with fwd := { mesh.fwd with up := [up1 3 pkt1], routes := [(pkt1.dst, ⟨5, 0, true⟩)] } } |> cfg 0x0C03 1 [BitVec.ofNat 32 (1 + 1024 * 8 + 2048 * 2 ^ 19)] |> cfg 0x0801 0 [0, 2047, 0]) : State) 19 = true)
      ∧ (isMulticast ((up1 3 pkt1) : UpPkt).pkt.dst = false)
      ∧ (isLinkLocal ((up1 3 pkt1) : UpPkt).pkt.dst = false)
      ∧ (lookupRoute (({ mesh with fwd := { mesh.fwd with up := [up1 3 pkt1], routes := [(pkt1.dst, ⟨5, 0, true⟩)] } } |> cfg 0x0C03 1 [BitVec.ofNat 32 (1 + 1024 * 8 + 2048 * 2 ^ 19)] |> cfg 0x0801 0 [0, 2047, 0]) : State) ((up1 3 pkt1) : UpPkt).pkt.dst = some (⟨5, 0, true⟩ : Route))
      ∧ ((⟨5, 0, true⟩ : Route).static = true)
      ∧ (ewKind (⟨5, 0, true⟩ : Route).entry = 0)
      ∧ (nbr (({ mesh with fwd := { mesh.fwd with up := [up1 3 pkt1], routes := [(pkt1.dst, ⟨5, 0, true⟩)] } } |> cfg 0x0C03 1 [BitVec.ofNat 32 (1 + 1024 * 8 + 2048 * 2 ^ 19)] |> cfg 0x0801 0 [0, 2047, 0]) : State) (ewTarget (⟨5, 0, true⟩ : Route).entry) = some nbr5)
      ∧ (nbr5.quarantined = false)
      ∧ (1 < ((up1 3 pkt1) : UpPkt).pkt.hop)
      ∧ (((up1 3 pkt1) : UpPkt).pkt.len ≤ 2047)
      ∧ (((up1 3 pkt1) : UpPkt).pages = 0)
      ∧ ((fragmentLens (({ mesh with fwd := { mesh.fwd with up := [up1 3 pkt1], routes := [(pkt1.dst, ⟨5, 0, true⟩)] } } |> cfg 0x0C03 1 [BitVec.ofNat 32 (1 + 1024 * 8 + 2048 * 2 ^ 19)] |> cfg 0x0801 0 [0, 2047, 0]) : State) nbr5.b { ((up1 3 pkt1) : UpPkt).pkt with hop := ((up1 3 pkt1) : UpPkt).pkt.hop - 1 }).length = 1)
      ∧ ((flow (({ mesh with fwd := { mesh.fwd with up := [up1 3 pkt1], routes := [(pkt1.dst, ⟨5, 0, true⟩)] } } |> cfg 0x0C03 1 [BitVec.ofNat 32 (1 + 1024 * 8 + 2048 * 2 ^ 19)] |> cfg 0x0801 0 [0, 2047, 0]) : State) (ewTarget (⟨5, 0, true⟩ : Route).entry) (ewClass (({ mesh with fwd := { mesh.fwd with up := [up1 3 pkt1], routes := [(pkt1.dst, ⟨5, 0, true⟩)] } } |> cfg 0x0C03 1 [BitVec.ofNat 32 (1 + 1024 * 8 + 2048 * 2 ^ 19)] |> cfg 0x0801 0 [0, 2047, 0]) : State) (⟨5, 0, true⟩ : Route).entry ((up1 3 pkt1) : UpPkt).pkt)).frames.length < 4095)
      ∧ (canGrant (({ mesh with fwd := { mesh.fwd with up := [up1 3 pkt1], routes := [(pkt1.dst, ⟨5, 0, true⟩)] } } |> cfg 0x0C03 1 [BitVec.ofNat 32 (1 + 1024 * 8 + 2048 * 2 ^ 19)] |> cfg 0x0801 0 [0, 2047, 0]) : State) (1 + ewClass (({ mesh with fwd := { mesh.fwd with up := [up1 3 pkt1], routes := [(pkt1.dst, ⟨5, 0, true⟩)] } } |> cfg 0x0C03 1 [BitVec.ofNat 32 (1 + 1024 * 8 + 2048 * 2 ^ 19)] |> cfg 0x0801 0 [0, 2047, 0]) : State) (⟨5, 0, true⟩ : Route).entry ((up1 3 pkt1) : UpPkt).pkt) ((fragmentLens (({ mesh with fwd := { mesh.fwd with up := [up1 3 pkt1], routes := [(pkt1.dst, ⟨5, 0, true⟩)] } } |> cfg 0x0C03 1 [BitVec.ofNat 32 (1 + 1024 * 8 + 2048 * 2 ^ 19)] |> cfg 0x0801 0 [0, 2047, 0]) : State) nbr5.b { ((up1 3 pkt1) : UpPkt).pkt with hop := ((up1 3 pkt1) : UpPkt).pkt.hop - 1 }).map pagesOf).sum = true))
    ∧ ((({ mesh with fwd := { mesh.fwd with up := [up1 3 pkt1] } } : State).fwd.up = [((up1 3 pkt1) : UpPkt)])
      ∧ (({ mesh with fwd := { mesh.fwd with up := [up1 3 pkt1] } } : State).fwd.reasm = [])
      ∧ (((up1 3 pkt1) : UpPkt).origin = 3)
      ∧ (isStandby ({ mesh with fwd := { mesh.fwd with up := [up1 3 pkt1] } } : State) = false)
      ∧ (domOn ({ mesh with fwd := { mesh.fwd with up := [up1 3 pkt1] } } : State) 19 = true)
      ∧ (isMulticast ((up1 3 pkt1) : UpPkt).pkt.dst = false)
      ∧ (isLinkLocal ((up1 3 pkt1) : UpPkt).pkt.dst = false)
      ∧ (lookupRoute ({ mesh with fwd := { mesh.fwd with up := [up1 3 pkt1] } } : State) ((up1 3 pkt1) : UpPkt).pkt.dst = none)
      ∧ (lookupPrefix ({ mesh with fwd := { mesh.fwd with up := [up1 3 pkt1] } } : State) ((up1 3 pkt1) : UpPkt).pkt.dst = none))
    ∧ ((({ mesh with fwd := { mesh.fwd with frags := [⟨5, 9, 300, 0, 200, pkt1, 1, 77⟩] } } : State).fwd.frags = [(⟨5, 9, 300, 0, 200, pkt1, 1, 77⟩ : FragIn)])
      ∧ (nbrLive ({ mesh with fwd := { mesh.fwd with frags := [⟨5, 9, 300, 0, 200, pkt1, 1, 77⟩] } } : State) (⟨5, 9, 300, 0, 200, pkt1, 1, 77⟩ : FragIn).handle = true)
      ∧ (domOn ({ mesh with fwd := { mesh.fwd with frags := [⟨5, 9, 300, 0, 200, pkt1, 1, 77⟩] } } : State) 19 = true)
      ∧ (({ mesh with fwd := { mesh.fwd with frags := [⟨5, 9, 300, 0, 200, pkt1, 1, 77⟩] } } : State).fwd.reasm = [])
      ∧ ((⟨5, 9, 300, 0, 200, pkt1, 1, 77⟩ : FragIn).offset + (⟨5, 9, 300, 0, 200, pkt1, 1, 77⟩ : FragIn).len < (⟨5, 9, 300, 0, 200, pkt1, 1, 77⟩ : FragIn).size))
    ∧ ((({ mesh with fwd := { mesh.fwd with frags := [⟨5, 9, 300, 200, 100, pkt1, 1, 77⟩], reasm := [reasm1] } } : State).fwd.frags = [(⟨5, 9, 300, 200, 100, pkt1, 1, 77⟩ : FragIn)])
      ∧ (nbrLive ({ mesh with fwd := { mesh.fwd with frags := [⟨5, 9, 300, 200, 100, pkt1, 1, 77⟩], reasm := [reasm1] } } : State) (⟨5, 9, 300, 200, 100, pkt1, 1, 77⟩ : FragIn).handle = true)
      ∧ (domOn ({ mesh with fwd := { mesh.fwd with frags := [⟨5, 9, 300, 200, 100, pkt1, 1, 77⟩], reasm := [reasm1] } } : State) 19 = true)
      ∧ (({ mesh with fwd := { mesh.fwd with frags := [⟨5, 9, 300, 200, 100, pkt1, 1, 77⟩], reasm := [reasm1] } } : State).fwd.reasm = [reasm1])
      ∧ (reasm1.complete = false)
      ∧ (reasm1.handle = (⟨5, 9, 300, 200, 100, pkt1, 1, 77⟩ : FragIn).handle)
      ∧ (reasm1.tag = (⟨5, 9, 300, 200, 100, pkt1, 1, 77⟩ : FragIn).tag)
      ∧ (reasm1.size = (⟨5, 9, 300, 200, 100, pkt1, 1, 77⟩ : FragIn).size)
      ∧ (reasm1.spilled = 0)
      ∧ (({ mesh with fwd := { mesh.fwd with frags := [⟨5, 9, 300, 200, 100, pkt1, 1, 77⟩], reasm := [reasm1] } } : State).fwd.up = [])
      ∧ ((⟨5, 9, 300, 200, 100, pkt1, 1, 77⟩ : FragIn).offset + (⟨5, 9, 300, 200, 100, pkt1, 1, 77⟩ : FragIn).len ≤ (⟨5, 9, 300, 200, 100, pkt1, 1, 77⟩ : FragIn).size)
      ∧ (reasm1.parts.any (fragOverlap ((⟨5, 9, 300, 200, 100, pkt1, 1, 77⟩ : FragIn).offset, (⟨5, 9, 300, 200, 100, pkt1, 1, 77⟩ : FragIn).len)) = false)
      ∧ (reasm1.parts.contains ((⟨5, 9, 300, 200, 100, pkt1, 1, 77⟩ : FragIn).offset, (⟨5, 9, 300, 200, 100, pkt1, 1, 77⟩ : FragIn).len) = false)
      ∧ ((reasm1.parts.map (·.2)).sum + (⟨5, 9, 300, 200, 100, pkt1, 1, 77⟩ : FragIn).len = (⟨5, 9, 300, 200, 100, pkt1, 1, 77⟩ : FragIn).size))
    ∧ ((({ mesh with fwd := { mesh.fwd with frags := [⟨5, 9, 300, 0, 200, pkt1, 1, 77⟩], reasm := [reasm1] } } : State).fwd.frags = [(⟨5, 9, 300, 0, 200, pkt1, 1, 77⟩ : FragIn)])
      ∧ (nbrLive ({ mesh with fwd := { mesh.fwd with frags := [⟨5, 9, 300, 0, 200, pkt1, 1, 77⟩], reasm := [reasm1] } } : State) (⟨5, 9, 300, 0, 200, pkt1, 1, 77⟩ : FragIn).handle = true)
      ∧ (domOn ({ mesh with fwd := { mesh.fwd with frags := [⟨5, 9, 300, 0, 200, pkt1, 1, 77⟩], reasm := [reasm1] } } : State) 19 = true)
      ∧ (({ mesh with fwd := { mesh.fwd with frags := [⟨5, 9, 300, 0, 200, pkt1, 1, 77⟩], reasm := [reasm1] } } : State).fwd.reasm = [reasm1])
      ∧ (reasm1.complete = false)
      ∧ (reasm1.handle = (⟨5, 9, 300, 0, 200, pkt1, 1, 77⟩ : FragIn).handle)
      ∧ (reasm1.tag = (⟨5, 9, 300, 0, 200, pkt1, 1, 77⟩ : FragIn).tag)
      ∧ (reasm1.size = (⟨5, 9, 300, 0, 200, pkt1, 1, 77⟩ : FragIn).size)
      ∧ ((⟨5, 9, 300, 0, 200, pkt1, 1, 77⟩ : FragIn).offset + (⟨5, 9, 300, 0, 200, pkt1, 1, 77⟩ : FragIn).len ≤ (⟨5, 9, 300, 0, 200, pkt1, 1, 77⟩ : FragIn).size)
      ∧ (reasm1.parts.contains ((⟨5, 9, 300, 0, 200, pkt1, 1, 77⟩ : FragIn).offset, (⟨5, 9, 300, 0, 200, pkt1, 1, 77⟩ : FragIn).len) = true))
    ∧ ((({ mesh with fwd := { mesh.fwd with reasm := [reasm1] } } : State).fwd.reasm = [reasm1])
      ∧ (reasm1.complete = false))
    ∧ ((isF ({ (mesh5 nbr5) with now := 9000000000, fwd := { mesh.fwd with reasm := [{ reasm1 with pages := 3 }] }, trf := { mesh.trf with used := [(5, 32000)] } } : State) = true)
      ∧ (ddrUp ({ (mesh5 nbr5) with now := 9000000000, fwd := { mesh.fwd with reasm := [{ reasm1 with pages := 3 }] }, trf := { mesh.trf with used := [(5, 32000)] } } : State) = true)
      ∧ (({ (mesh5 nbr5) with now := 9000000000, fwd := { mesh.fwd with reasm := [{ reasm1 with pages := 3 }] }, trf := { mesh.trf with used := [(5, 32000)] } } : State).fwd.reasm = [({ reasm1 with pages := 3 } : Reasm)])
      ∧ (({ reasm1 with pages := 3 } : Reasm).complete = false)
      ∧ (({ reasm1 with pages := 3 } : Reasm).spilled = 0)
      ∧ (0 < ({ reasm1 with pages := 3 } : Reasm).pages)
      ∧ (({ reasm1 with pages := 3 } : Reasm).latest + 1000000 * fwdF ({ (mesh5 nbr5) with now := 9000000000, fwd := { mesh.fwd with reasm := [{ reasm1 with pages := 3 }] }, trf := { mesh.trf with used := [(5, 32000)] } } : State) 3 15 0 ≤ ({ (mesh5 nbr5) with now := 9000000000, fwd := { mesh.fwd with reasm := [{ reasm1 with pages := 3 }] }, trf := { mesh.trf with used := [(5, 32000)] } } : State).now)
      ∧ (freePages ({ (mesh5 nbr5) with now := 9000000000, fwd := { mesh.fwd with reasm := [{ reasm1 with pages := 3 }] }, trf := { mesh.trf with used := [(5, 32000)] } } : State) + ({ reasm1 with pages := 3 } : Reasm).pages ≤ spillLow ({ (mesh5 nbr5) with now := 9000000000, fwd := { mesh.fwd with reasm := [{ reasm1 with pages := 3 }] }, trf := { mesh.trf with used := [(5, 32000)] } } : State))
      ∧ (spilledPages ({ (mesh5 nbr5) with now := 9000000000, fwd := { mesh.fwd with reasm := [{ reasm1 with pages := 3 }] }, trf := { mesh.trf with used := [(5, 32000)] } } : State) + ({ reasm1 with pages := 3 } : Reasm).pages ≤ 262144))
    ∧ ((lookupRoute ({ mesh with fwd := { mesh.fwd with routes := [(77, ⟨131072, 9, false⟩)] } } : State) (77 : Nat) = some (⟨131072, 9, false⟩ : Route))
      ∧ ((⟨131072, 9, false⟩ : Route).static = false)
      ∧ (domOn ({ mesh with fwd := { mesh.fwd with routes := [(77, ⟨131072, 9, false⟩)] } } : State) 19 = true)) := by
  refine ⟨?_, ?_, ?_, ?_, ?_, ?_, ?_, ?_, ?_, ?_, ?_⟩
  all_goals decide +kernel

theorem meets_KeysAreCachedLeasedAndSnuffed :
    ((pcieUsed up = true)
      ∧ (keepUp up = true)
      ∧ (domOn up 1 = true))
    ∧ (((keyOf ({ mesh with keys := { mesh.keys with cache := [9, 8] } } : State) (3 : Fin 8192)).isSome = true)
      ∧ (({ mesh with keys := { mesh.keys with cache := [9, 8] } } : State).keys.cache.contains (3 : Fin 8192).val = false)
      ∧ (({ mesh with keys := { mesh.keys with cache := [9, 8] } } : State).keys.rootOk = true)
      ∧ (({ mesh with keys := { mesh.keys with cache := [9, 8] } } : State).keys.debugActive = false)
      ∧ (tamperHold ({ mesh with keys := { mesh.keys with cache := [9, 8] } } : State) = false)
      ∧ (domOn ({ mesh with keys := { mesh.keys with cache := [9, 8] } } : State) 2 = true)
      ∧ (({ mesh with keys := { mesh.keys with cache := [9, 8] } } : State).keys.cache.length < 4096))
    ∧ ((tabFind ({ mesh with keys := { mesh.keys with vault := [(3, { a := some ⟨0, 1, 16, 1, false, 6, 1, 0, 99⟩, leases := [(0, (0x40000, 1))], next := 0x20000 })] } } : State).keys.vault (3 : Fin 8192) = some (⟨some ⟨0, 1, 16, 1, false, 6, 1, 0, 99⟩, none, [(0, (0x40000, 1))], 0x20000, 0, 0⟩ : VEntry))
      ∧ (keyOf ({ mesh with keys := { mesh.keys with vault := [(3, { a := some ⟨0, 1, 16, 1, false, 6, 1, 0, 99⟩, leases := [(0, (0x40000, 1))], next := 0x20000 })] } } : State) (3 : Fin 8192) = some (⟨0, 1, 16, 1, false, 6, 1, 0, 99⟩ : KSlot))
      ∧ (1 ≤ (⟨0, 1, 16, 1, false, 6, 1, 0, 99⟩ : KSlot).usage)
      ∧ ((⟨0, 1, 16, 1, false, 6, 1, 0, 99⟩ : KSlot).usage ≤ 3)
      ∧ (getF F.keepTorchStatus_role 0 ({ mesh with keys := { mesh.keys with vault := [(3, { a := some ⟨0, 1, 16, 1, false, 6, 1, 0, 99⟩, leases := [(0, (0x40000, 1))], next := 0x20000 })] } } : State) ≠ 1)
      ∧ (domOn ({ mesh with keys := { mesh.keys with vault := [(3, { a := some ⟨0, 1, 16, 1, false, 6, 1, 0, 99⟩, leases := [(0, (0x40000, 1))], next := 0x20000 })] } } : State) 2 = true))
    ∧ ((engineOk up (0 : Fin 4) = true)
      ∧ (domOn up (if (0 : Fin 4).val < 2 then 16 else if (0 : Fin 4).val = 2 then 21 else 1) = true))
    ∧ ((engineOk up (0 : Fin 4) = true)
      ∧ (domOn up (if (0 : Fin 4).val < 2 then 16 else if (0 : Fin 4).val = 2 then 21 else 1) = true)
      ∧ ((1 : Fin 3).val ≠ 0))
    ∧ ((serving up = true)
      ∧ (up.start.testHeld = false)
      ∧ (tamperMonitored up (4 : Fin 5) = true)
      ∧ (tamperPolicy up (4 : Fin 5) = 0)
      ∧ (domOn up 1 = true)
      ∧ (domOn up 2 = true))
    ∧ ((serving ({ mesh with keys := { mesh.keys with tamper := 0x100 } } : State) = true)
      ∧ (({ mesh with keys := { mesh.keys with tamper := 0x100 } } : State).start.testHeld = false)
      ∧ (({ mesh with keys := { mesh.keys with tamper := 0x100 } } : State).start.gateReady = true)
      ∧ (tamperMonitored ({ mesh with keys := { mesh.keys with tamper := 0x100 } } : State) (4 : Fin 5) = true)
      ∧ (tamperPolicy ({ mesh with keys := { mesh.keys with tamper := 0x100 } } : State) (4 : Fin 5) ≠ 0)
      ∧ (domOn ({ mesh with keys := { mesh.keys with tamper := 0x100 } } : State) 1 = true)
      ∧ (domOn ({ mesh with keys := { mesh.keys with tamper := 0x100 } } : State) 2 = true)) := by
  refine ⟨?_, ?_, ?_, ?_, ?_, ?_, ?_⟩
  all_goals decide +kernel

theorem meets_KeepTimeFollowsItsSource :
    ((timeSource ((timed 2 1 0) : State) ≠ 0)
      ∧ (timeState ((timed 2 1 0) : State) = 0)
      ∧ (((timed 2 1 0) : State).slm.epoch = none)
      ∧ (((timed 2 1 0) : State).time.trigs = []))
    ∧ ((timeSource ((timed 2 1 1) : State) ≠ 0)
      ∧ (timeState ((timed 2 1 1) : State) = 1)
      ∧ ((42 : Int).natAbs ≤ jumpNs ((timed 2 1 1) : State))
      ∧ (1 ≤ servoTc ((timed 2 1 1) : State)))
    ∧ ((timeSource ((timed 2 1 1) : State) ≠ 0)
      ∧ (glideNow ((timed 2 1 1) : State) = false)
      ∧ (timeState ((timed 2 1 1) : State) = 1 ∨ timeState ((timed 2 1 1) : State) = 2 ∨ timeState ((timed 2 1 1) : State) = 4)
      ∧ (jumpNs ((timed 2 1 1) : State) < (1001 : Int).natAbs))
    ∧ ((timeSource ((timed 2 1 2) : State) ≠ 0)
      ∧ ((1000 : Int).natAbs ≤ jumpNs ((timed 2 1 2) : State))
      ∧ ((glideNow ((timed 2 1 2) : State) = false
      ∧ (timeState ((timed 2 1 2) : State) = 2 ∨ timeState ((timed 2 1 2) : State) = 4)) ∨ (glideNow ((timed 2 1 2) : State) = true ∧ timeState ((timed 2 1 2) : State) = 3)))
    ∧ ((timeSource ((timed 2 2 1) : State) ≠ 0)
      ∧ (glideNow ((timed 2 2 1) : State) = true)
      ∧ (timeState ((timed 2 2 1) : State) = 1)
      ∧ (jumpNs ((timed 2 2 1) : State) < (1001 : Int).natAbs))
    ∧ ((timeSource (({ timed 1 2 2 with time := { (timed 1 2 2).time with offsets := [41990, 42000, 42040, 41960, 42010, 42020, 41980] } }) : State) ≠ 0)
      ∧ (glideNow (({ timed 1 2 2 with time := { (timed 1 2 2).time with offsets := [41990, 42000, 42040, 41960, 42010, 42020, 41980] } }) : State) = true)
      ∧ (timeState (({ timed 1 2 2 with time := { (timed 1 2 2).time with offsets := [41990, 42000, 42040, 41960, 42010, 42020, 41980] } }) : State) = 2)
      ∧ ((({ timed 1 2 2 with time := { (timed 1 2 2).time with offsets := [41990, 42000, 42040, 41960, 42010, 42020, 41980] } }) : State).time.offsets = ([41990, 42000, 42040, 41960, 42010, 42020, 41980] : List Int))
      ∧ (([41990, 42000, 42040, 41960, 42010, 42020, 41980] : List Int).length < 8)
      ∧ ((((42010 : Int) :: ([41990, 42000, 42040, 41960, 42010, 42020, 41980] : List Int)).all (fun x => ((42010 : Int) :: ([41990, 42000, 42040, 41960, 42010, 42020, 41980] : List Int)).all (fun y => decide (x ≤ y + jumpNs (({ timed 1 2 2 with time := { (timed 1 2 2).time with offsets := [41990, 42000, 42040, 41960, 42010, 42020, 41980] } }) : State))))) = true))
    ∧ ((timeSource (({ timed 2 2 3 with time := { (timed 2 2 3).time with slew := (42010, 875000000), heldRate := 55 } }) : State) ≠ 0)
      ∧ (glideNow (({ timed 2 2 3 with time := { (timed 2 2 3).time with slew := (42010, 875000000), heldRate := 55 } }) : State) = true)
      ∧ (timeState (({ timed 2 2 3 with time := { (timed 2 2 3).time with slew := (42010, 875000000), heldRate := 55 } }) : State) = 3)
      ∧ (jumpNs (({ timed 2 2 3 with time := { (timed 2 2 3).time with slew := (42010, 875000000), heldRate := 55 } }) : State) < (9000 : Int).natAbs)
      ∧ (0 < (({ timed 2 2 3 with time := { (timed 2 2 3).time with slew := (42010, 875000000), heldRate := 55 } }) : State).time.slew.1)
      ∧ ((({ timed 2 2 3 with time := { (timed 2 2 3).time with slew := (42010, 875000000), heldRate := 55 } }) : State).time.slew.2 ≤ (({ timed 2 2 3 with time := { (timed 2 2 3).time with slew := (42010, 875000000), heldRate := 55 } }) : State).time.ns)
      ∧ (-549755814 ≤ (({ timed 2 2 3 with time := { (timed 2 2 3).time with slew := (42010, 875000000), heldRate := 55 } }) : State).time.heldRate)
      ∧ ((({ timed 2 2 3 with time := { (timed 2 2 3).time with slew := (42010, 875000000), heldRate := 55 } }) : State).time.heldRate ≤ 549755814)
      ∧ (100000 * (jumpNs (({ timed 2 2 3 with time := { (timed 2 2 3).time with slew := (42010, 875000000), heldRate := 55 } }) : State) : Int) < (100000 * (9000 : Int) - (100000 * (({ timed 2 2 3 with time := { (timed 2 2 3).time with slew := (42010, 875000000), heldRate := 55 } }) : State).time.slew.1 - (((({ timed 2 2 3 with time := { (timed 2 2 3).time with slew := (42010, 875000000), heldRate := 55 } }) : State).time.ns : Int) - (({ timed 2 2 3 with time := { (timed 2 2 3).time with slew := (42010, 875000000), heldRate := 55 } }) : State).time.slew.2))).natAbs)) := by
  refine ⟨?_, ?_, ?_, ?_, ?_, ?_, ?_⟩
  all_goals decide +kernel

theorem meets_SourcesComeAndGo :
    ((timeSource ((timed 2 1 1) : State) ≠ 0)
      ∧ (timeState ((timed 2 1 1) : State) = 1 ∨ timeState ((timed 2 1 1) : State) = 3 ∨ timeState ((timed 2 1 1) : State) = 4))
    ∧ (timeSource ((timed 0 1 1) : State) = 0)
    ∧ ((timeSource ((timed 1 2 1) : State) ≠ 0)
      ∧ (timeState ((timed 1 2 1) : State) = 1 ∨ (timeState ((timed 1 2 1) : State) = 3 ∧ glideEff ((timed 1 2 1) : State) = true)))
    ∧ ((timeSource ((timed 1 1 1) : State) = 1)
      ∧ (getB F.netEthStatus_link (ptpPort ((timed 1 1 1) : State)) ((timed 1 1 1) : State) = true))
    ∧ ((timeSource ({ timed 1 1 1 with time := { (timed 1 1 1).time with syncPending := some (3, 4990000000) } } : State) = 1)
      ∧ (getB F.netEthStatus_link (ptpPort ({ timed 1 1 1 with time := { (timed 1 1 1).time with syncPending := some (3, 4990000000) } } : State)) ({ timed 1 1 1 with time := { (timed 1 1 1).time with syncPending := some (3, 4990000000) } } : State) = true)
      ∧ (({ timed 1 1 1 with time := { (timed 1 1 1).time with syncPending := some (3, 4990000000) } } : State).time.syncPending = some ((3 : Nat), (4990000000 : Nat))))
    ∧ ((timeSource ({ timed 1 2 1 with time := { (timed 1 2 1).time with master := 7 } } : State) = 1)
      ∧ (getB F.netEthStatus_link (ptpPort ({ timed 1 2 1 with time := { (timed 1 2 1).time with master := 7 } } : State)) ({ timed 1 2 1 with time := { (timed 1 2 1).time with master := 7 } } : State) = true)
      ∧ (({ timed 1 2 1 with time := { (timed 1 2 1).time with master := 7 } } : State).time.master ≠ 0)
      ∧ ((8 : Nat) ≠ ({ timed 1 2 1 with time := { (timed 1 2 1).time with master := 7 } } : State).time.master)
      ∧ (glideEff ({ timed 1 2 1 with time := { (timed 1 2 1).time with master := 7 } } : State) = true)
      ∧ (timeState ({ timed 1 2 1 with time := { (timed 1 2 1).time with master := 7 } } : State) = 1))
    ∧ ((timeSource ((timed 1 1 1 |> cfg 0x0901 0 [BitVec.ofNat 32 (1 + 8 + 8 * 2 ^ 24), 1000]) : State) = 1)
      ∧ (getB F.netEthStatus_link (ptpPort ((timed 1 1 1 |> cfg 0x0901 0 [BitVec.ofNat 32 (1 + 8 + 8 * 2 ^ 24), 1000]) : State)) ((timed 1 1 1 |> cfg 0x0901 0 [BitVec.ofNat 32 (1 + 8 + 8 * 2 ^ 24), 1000]) : State) = true)
      ∧ (ptpP2p ((timed 1 1 1 |> cfg 0x0901 0 [BitVec.ofNat 32 (1 + 8 + 8 * 2 ^ 24), 1000]) : State) = true))
    ∧ ((domOn ({ timed 0 1 1 with time := { (timed 0 1 1).time with tsq := [⟨0x12345, 77, 3⟩] } } : State) 15 = true)
      ∧ (({ timed 0 1 1 with time := { (timed 0 1 1).time with tsq := [⟨0x12345, 77, 3⟩] } } : State).time.tsq = (⟨0x12345, 77, 3⟩ : TsqEntry) :: ([] : List TsqEntry))
      ∧ ((⟨0x12345, 77, 3⟩ : TsqEntry).word < 2 ^ 31))
    ∧ ((domOn ((timed 0 1 1) : State) 15 = true)
      ∧ (((timed 0 1 1) : State).time.tsq = [])) := by
  refine ⟨?_, ?_, ?_, ?_, ?_, ?_, ?_, ?_, ?_⟩
  all_goals decide +kernel

theorem meets_TriggersFire :
    ((pcieUsed ((timed 0 1 1 |> setF F.keepTtTimeHi_time_hi 3 2 |> setF F.keepTtPeriod_period 3 5000) : State) = true)
      ∧ (keepUp ((timed 0 1 1 |> setF F.keepTtTimeHi_time_hi 3 2 |> setF F.keepTtPeriod_period 3 5000) : State) = true)
      ∧ (domOn ((timed 0 1 1 |> setF F.keepTtTimeHi_time_hi 3 2 |> setF F.keepTtPeriod_period 3 5000) : State) 1 = true)
      ∧ ((0x00020001 : Word).getLsbD 0 = true)
      ∧ (getF F.keepTtPeriod_period (3 : Fin 16) ((timed 0 1 1 |> setF F.keepTtTimeHi_time_hi 3 2 |> setF F.keepTtPeriod_period 3 5000) : State) = 0 ∨ 1000 ≤ getF F.keepTtPeriod_period (3 : Fin 16) ((timed 0 1 1 |> setF F.keepTtTimeHi_time_hi 3 2 |> setF F.keepTtPeriod_period 3 5000) : State))
      ∧ (((timed 0 1 1 |> setF F.keepTtTimeHi_time_hi 3 2 |> setF F.keepTtPeriod_period 3 5000) : State).time.ns < getF F.keepTtTimeLo_time_lo (3 : Fin 16) ((timed 0 1 1 |> setF F.keepTtTimeHi_time_hi 3 2 |> setF F.keepTtPeriod_period 3 5000) : State) + 2 ^ 32 * getF F.keepTtTimeHi_time_hi (3 : Fin 16) ((timed 0 1 1 |> setF F.keepTtTimeHi_time_hi 3 2 |> setF F.keepTtPeriod_period 3 5000) : State)))
    ∧ ((pcieUsed ((timed 0 1 1 |> setF F.keepTtPeriod_period 3 999) : State) = true)
      ∧ (keepUp ((timed 0 1 1 |> setF F.keepTtPeriod_period 3 999) : State) = true)
      ∧ (domOn ((timed 0 1 1 |> setF F.keepTtPeriod_period 3 999) : State) 1 = true)
      ∧ ((0x00020001 : Word).getLsbD 0 = true)
      ∧ (1 ≤ getF F.keepTtPeriod_period (3 : Fin 16) ((timed 0 1 1 |> setF F.keepTtPeriod_period 3 999) : State))
      ∧ (getF F.keepTtPeriod_period (3 : Fin 16) ((timed 0 1 1 |> setF F.keepTtPeriod_period 3 999) : State) ≤ 999))
    ∧ ((pcieUsed ((timed 0 1 1) : State) = true)
      ∧ (keepUp ((timed 0 1 1) : State) = true)
      ∧ (domOn ((timed 0 1 1) : State) 1 = true)
      ∧ ((0x00000001 : Word).getLsbD 0 = true)
      ∧ (fieldOf (0x00000001 : Word) 3 1 = 0)
      ∧ (getF F.keepTtPeriod_period (3 : Fin 16) ((timed 0 1 1) : State) = 0)
      ∧ (getF F.keepTtTimeLo_time_lo (3 : Fin 16) ((timed 0 1 1) : State) + 2 ^ 32 * getF F.keepTtTimeHi_time_hi (3 : Fin 16) ((timed 0 1 1) : State) ≤ ((timed 0 1 1) : State).time.ns))
    ∧ ((pcieUsed ({ timed 0 1 1 with time := { (timed 0 1 1).time with trigs := [(3, ⟨6000000000, 0⟩)] } } : State) = true)
      ∧ (keepUp ({ timed 0 1 1 with time := { (timed 0 1 1).time with trigs := [(3, ⟨6000000000, 0⟩)] } } : State) = true)
      ∧ (domOn ({ timed 0 1 1 with time := { (timed 0 1 1).time with trigs := [(3, ⟨6000000000, 0⟩)] } } : State) 1 = true)
      ∧ ((0x00020000 : Word).getLsbD 0 = false))
    ∧ ((tabFind (({ timed 0 1 1 with time := { (timed 0 1 1).time with trigs := [(3, ⟨6000000000, 5000⟩)] } } |> setF F.keepTtCfg_count 3 2) : State).time.trigs (3 : Fin 16) = some (⟨6000000000, 5000⟩ : Trig))
      ∧ (getF F.keepTtCfg_action (3 : Fin 16) (({ timed 0 1 1 with time := { (timed 0 1 1).time with trigs := [(3, ⟨6000000000, 5000⟩)] } } |> setF F.keepTtCfg_count 3 2) : State) = 0))
    ∧ ((tabFind (({ timed 0 1 1 with time := { (timed 0 1 1).time with trigs := [(3, ⟨6000000000, 0⟩)] } } |> setF F.keepTtCfg_action 3 4 |> setF F.keepTtCfg_target 3 23 |> setF F.keepGpioOe_oe 0 0x800000) : State).time.trigs (3 : Fin 16) = some (⟨6000000000, 0⟩ : Trig))
      ∧ (4 ≤ getF F.keepTtCfg_action (3 : Fin 16) (({ timed 0 1 1 with time := { (timed 0 1 1).time with trigs := [(3, ⟨6000000000, 0⟩)] } } |> setF F.keepTtCfg_action 3 4 |> setF F.keepTtCfg_target 3 23 |> setF F.keepGpioOe_oe 0 0x800000) : State))
      ∧ (getF F.keepTtCfg_action (3 : Fin 16) (({ timed 0 1 1 with time := { (timed 0 1 1).time with trigs := [(3, ⟨6000000000, 0⟩)] } } |> setF F.keepTtCfg_action 3 4 |> setF F.keepTtCfg_target 3 23 |> setF F.keepGpioOe_oe 0 0x800000) : State) ≤ 6)
      ∧ (getF F.keepTtCfg_target (3 : Fin 16) (({ timed 0 1 1 with time := { (timed 0 1 1).time with trigs := [(3, ⟨6000000000, 0⟩)] } } |> setF F.keepTtCfg_action 3 4 |> setF F.keepTtCfg_target 3 23 |> setF F.keepGpioOe_oe 0 0x800000) : State) < 24))
    ∧ ((tabFind (({ timed 0 1 1 with time := { (timed 0 1 1).time with trigs := [(3, ⟨6000000000, 0⟩)] } } |> setF F.keepTtCfg_action 3 1 |> setF F.keepTtCfg_target 3 10) : State).time.trigs (3 : Fin 16) = some (⟨6000000000, 0⟩ : Trig))
      ∧ (getF F.keepTtCfg_action (3 : Fin 16) (({ timed 0 1 1 with time := { (timed 0 1 1).time with trigs := [(3, ⟨6000000000, 0⟩)] } } |> setF F.keepTtCfg_action 3 1 |> setF F.keepTtCfg_target 3 10) : State) = 1)
      ∧ ((({ timed 0 1 1 with time := { (timed 0 1 1).time with trigs := [(3, ⟨6000000000, 0⟩)] } } |> setF F.keepTtCfg_action 3 1 |> setF F.keepTtCfg_target 3 10) : State).time.aadc = [])
      ∧ (getF F.keepTtCfg_target (3 : Fin 16) (({ timed 0 1 1 with time := { (timed 0 1 1).time with trigs := [(3, ⟨6000000000, 0⟩)] } } |> setF F.keepTtCfg_action 3 1 |> setF F.keepTtCfg_target 3 10) : State) = 10)
      ∧ ((({ timed 0 1 1 with time := { (timed 0 1 1).time with trigs := [(3, ⟨6000000000, 0⟩)] } } |> setF F.keepTtCfg_action 3 1 |> setF F.keepTtCfg_target 3 10) : State).time.ns ≤ (⟨6000000000, 0⟩ : Trig).time))
    ∧ ((tabFind ({ timed 0 1 1 with time := { (timed 0 1 1).time with aadc := [(1, ⟨5000000000, true⟩)] } } : State).time.aadc (1 : Fin 4) = some (⟨5000000000, true⟩ : Aadc))
      ∧ ((2000 : Nat) ≤ 4095)) := by
  refine ⟨?_, ?_, ?_, ?_, ?_, ?_, ?_, ?_⟩
  all_goals decide +kernel

theorem meets_TimersCountAndCapture :
    (((2 : Fin 3).val ≠ 0)
      ∧ (domOn ((timed 0 1 1 |> timer9 (1 + 4) 100 7) : State) 1 = true)
      ∧ ((∀ m : Fin 64, getB F.keepTmrCfg_run m ((timed 0 1 1 |> timer9 (1 + 4) 100 7) : State) = true ↔ m = (9 : Fin 64)))
      ∧ ((∀ k : Fin 8, getB F.keepTmrWideCfg_run k ((timed 0 1 1 |> timer9 (1 + 4) 100 7) : State) = false))
      ∧ (getF F.keepTmrCfg_tick (9 : Fin 64) ((timed 0 1 1 |> timer9 (1 + 4) 100 7) : State) = (2 : Fin 3))
      ∧ (getF F.keepTmrCount_count (9 : Fin 64) ((timed 0 1 1 |> timer9 (1 + 4) 100 7) : State) < (tmr ((timed 0 1 1 |> timer9 (1 + 4) 100 7) : State) (9 : Fin 64)).eff)
      ∧ (getF F.keepTmrCount_count (9 : Fin 64) ((timed 0 1 1 |> timer9 (1 + 4) 100 7) : State) + 1 < 2 ^ 32)
      ∧ (getF F.keepTmrCmp0_cmp (9 : Fin 64) ((timed 0 1 1 |> timer9 (1 + 4) 100 7) : State) ≠ getF F.keepTmrCount_count (9 : Fin 64) ((timed 0 1 1 |> timer9 (1 + 4) 100 7) : State) + 1)
      ∧ (getF F.keepTmrCmp1_cmp (9 : Fin 64) ((timed 0 1 1 |> timer9 (1 + 4) 100 7) : State) ≠ getF F.keepTmrCount_count (9 : Fin 64) ((timed 0 1 1 |> timer9 (1 + 4) 100 7) : State) + 1))
    ∧ (((2 : Fin 3).val ≠ 0)
      ∧ (domOn ((timed 0 1 1 |> timer9 (1 + 4) 100 100 |> setF F.keepTmrCmp0_cmp 9 5) : State) 1 = true)
      ∧ ((∀ m : Fin 64, getB F.keepTmrCfg_run m ((timed 0 1 1 |> timer9 (1 + 4) 100 100 |> setF F.keepTmrCmp0_cmp 9 5) : State) = true ↔ m = (9 : Fin 64)))
      ∧ ((∀ k : Fin 8, getB F.keepTmrWideCfg_run k ((timed 0 1 1 |> timer9 (1 + 4) 100 100 |> setF F.keepTmrCmp0_cmp 9 5) : State) = false))
      ∧ (getF F.keepTmrCfg_tick (9 : Fin 64) ((timed 0 1 1 |> timer9 (1 + 4) 100 100 |> setF F.keepTmrCmp0_cmp 9 5) : State) = (2 : Fin 3))
      ∧ (0 < (tmr ((timed 0 1 1 |> timer9 (1 + 4) 100 100 |> setF F.keepTmrCmp0_cmp 9 5) : State) (9 : Fin 64)).eff)
      ∧ ((tmr ((timed 0 1 1 |> timer9 (1 + 4) 100 100 |> setF F.keepTmrCmp0_cmp 9 5) : State) (9 : Fin 64)).eff ≤ getF F.keepTmrCount_count (9 : Fin 64) ((timed 0 1 1 |> timer9 (1 + 4) 100 100 |> setF F.keepTmrCmp0_cmp 9 5) : State)))
    ∧ (((2 : Fin 3).val ≠ 0)
      ∧ (domOn ((timed 0 1 1 |> timer9 (1 + 4 + 2 ^ 22 + 2 ^ 25) 100 7 |> setF F.keepTmrCmp0_cmp 9 8 |> setF F.keepTmrCmp1_cmp 9 8) : State) 1 = true)
      ∧ ((∀ m : Fin 64, getB F.keepTmrCfg_run m ((timed 0 1 1 |> timer9 (1 + 4 + 2 ^ 22 + 2 ^ 25) 100 7 |> setF F.keepTmrCmp0_cmp 9 8 |> setF F.keepTmrCmp1_cmp 9 8) : State) = true ↔ m = (9 : Fin 64)))
      ∧ ((∀ k : Fin 8, getB F.keepTmrWideCfg_run k ((timed 0 1 1 |> timer9 (1 + 4 + 2 ^ 22 + 2 ^ 25) 100 7 |> setF F.keepTmrCmp0_cmp 9 8 |> setF F.keepTmrCmp1_cmp 9 8) : State) = false))
      ∧ (getF F.keepTmrCfg_tick (9 : Fin 64) ((timed 0 1 1 |> timer9 (1 + 4 + 2 ^ 22 + 2 ^ 25) 100 7 |> setF F.keepTmrCmp0_cmp 9 8 |> setF F.keepTmrCmp1_cmp 9 8) : State) = (2 : Fin 3))
      ∧ (getF F.keepTmrCount_count (9 : Fin 64) ((timed 0 1 1 |> timer9 (1 + 4 + 2 ^ 22 + 2 ^ 25) 100 7 |> setF F.keepTmrCmp0_cmp 9 8 |> setF F.keepTmrCmp1_cmp 9 8) : State) < (tmr ((timed 0 1 1 |> timer9 (1 + 4 + 2 ^ 22 + 2 ^ 25) 100 7 |> setF F.keepTmrCmp0_cmp 9 8 |> setF F.keepTmrCmp1_cmp 9 8) : State) (9 : Fin 64)).eff)
      ∧ (getF F.keepTmrCount_count (9 : Fin 64) ((timed 0 1 1 |> timer9 (1 + 4 + 2 ^ 22 + 2 ^ 25) 100 7 |> setF F.keepTmrCmp0_cmp 9 8 |> setF F.keepTmrCmp1_cmp 9 8) : State) + 1 < 2 ^ 32)
      ∧ (getF F.keepTmrCmp0_cmp (9 : Fin 64) ((timed 0 1 1 |> timer9 (1 + 4 + 2 ^ 22 + 2 ^ 25) 100 7 |> setF F.keepTmrCmp0_cmp 9 8 |> setF F.keepTmrCmp1_cmp 9 8) : State) = getF F.keepTmrCount_count (9 : Fin 64) ((timed 0 1 1 |> timer9 (1 + 4 + 2 ^ 22 + 2 ^ 25) 100 7 |> setF F.keepTmrCmp0_cmp 9 8 |> setF F.keepTmrCmp1_cmp 9 8) : State) + 1))
    ∧ ((pcieUsed ((timed 0 1 1) : State) = true)
      ∧ (keepUp ((timed 0 1 1) : State) = true)
      ∧ (domOn ((timed 0 1 1) : State) 1 = true)
      ∧ (getB F.keepTmrCfg_run (9 : Fin 64) ((timed 0 1 1) : State) = false))
    ∧ ((pcieUsed ((timed 0 1 1) : State) = true)
      ∧ (keepUp ((timed 0 1 1) : State) = true)
      ∧ (domOn ((timed 0 1 1) : State) 1 = true))
    ∧ ((pcieUsed ((timed 0 1 1 |> timer9 1 100 7) : State) = true)
      ∧ (keepUp ((timed 0 1 1 |> timer9 1 100 7) : State) = true)
      ∧ (domOn ((timed 0 1 1 |> timer9 1 100 7) : State) 1 = true))
    ∧ ((pcieUsed ((timed 0 1 1 |> timer9 1 100 7) : State) = true)
      ∧ (keepUp ((timed 0 1 1 |> timer9 1 100 7) : State) = true)
      ∧ (domOn ((timed 0 1 1 |> timer9 1 100 7) : State) 1 = true))
    ∧ ((domOn ((timed 0 1 1 |> timer9 (1 + 16) 100 7 |> setF F.keepTmrRouteCap_element2 0 9 |> setF F.keepTmrRouteCap_en2 0 1) : State) 1 = true)
      ∧ (capTarget ((timed 0 1 1 |> timer9 (1 + 16) 100 7 |> setF F.keepTmrRouteCap_element2 0 9 |> setF F.keepTmrRouteCap_en2 0 1) : State) (2 : Fin 8) = some (9 : Nat))
      ∧ ((9 : Nat) < 64)
      ∧ (getB F.keepTmrCfg_cap_en (9 : Nat) ((timed 0 1 1 |> timer9 (1 + 16) 100 7 |> setF F.keepTmrRouteCap_element2 0 9 |> setF F.keepTmrRouteCap_en2 0 1) : State) = true)
      ∧ (getF F.keepTmrCfg_cap_edge (9 : Nat) ((timed 0 1 1 |> timer9 (1 + 16) 100 7 |> setF F.keepTmrRouteCap_element2 0 9 |> setF F.keepTmrRouteCap_en2 0 1) : State) = 2 ∨ getF F.keepTmrCfg_cap_edge (9 : Nat) ((timed 0 1 1 |> timer9 (1 + 16) 100 7 |> setF F.keepTmrRouteCap_element2 0 9 |> setF F.keepTmrRouteCap_en2 0 1) : State) = (if true then 0 else 1))
      ∧ (getF F.keepTmrCfg_prescale (9 : Nat) ((timed 0 1 1 |> timer9 (1 + 16) 100 7 |> setF F.keepTmrRouteCap_element2 0 9 |> setF F.keepTmrRouteCap_en2 0 1) : State) ≤ (tmr ((timed 0 1 1 |> timer9 (1 + 16) 100 7 |> setF F.keepTmrRouteCap_element2 0 9 |> setF F.keepTmrRouteCap_en2 0 1) : State) (9 : Nat)).edges + 1))
    ∧ ((pcieUsed ({ timed 0 1 1 with time := { (timed 0 1 1).time with caps := [(1, [⟨9, 77, 5000000123, false⟩])] } } : State) = true)
      ∧ (keepUp ({ timed 0 1 1 with time := { (timed 0 1 1).time with caps := [(1, [⟨9, 77, 5000000123, false⟩])] } } : State) = true)
      ∧ (domOn ({ timed 0 1 1 with time := { (timed 0 1 1).time with caps := [(1, [⟨9, 77, 5000000123, false⟩])] } } : State) 1 = true)
      ∧ (tabGet ({ timed 0 1 1 with time := { (timed 0 1 1).time with caps := [(1, [⟨9, 77, 5000000123, false⟩])] } } : State).time.caps (1 : Fin 8) [] = (⟨9, 77, 5000000123, false⟩ : CapEntry) :: ([] : List CapEntry))
      ∧ ((⟨9, 77, 5000000123, false⟩ : CapEntry).elem < 64))
    ∧ ((pcieUsed ((timed 0 1 1 |> setF F.keepTmrWideHi_wide_hi 1 5) : State) = true)
      ∧ (keepUp ((timed 0 1 1 |> setF F.keepTmrWideHi_wide_hi 1 5) : State) = true)
      ∧ (domOn ((timed 0 1 1 |> setF F.keepTmrWideHi_wide_hi 1 5) : State) 1 = true))
    ∧ ((pcieUsed ((timed 0 1 1) : State) = true)
      ∧ (keepUp ((timed 0 1 1) : State) = true)
      ∧ (domOn ((timed 0 1 1) : State) 1 = true)) := by
  refine ⟨?_, ?_, ?_, ?_, ?_, ?_, ?_, ?_, ?_, ?_, ?_⟩
  all_goals decide +kernel

theorem meets_RingsServeTheHost :
    ((domOn ((ringed 16 1 up) : State) 21 = true)
      ∧ (getB F.netRingCfg_enable (16 : Fin 32) ((ringed 16 1 up) : State) = true)
      ∧ (getB F.netRingStat_halted (16 : Fin 32) ((ringed 16 1 up) : State) = false))
    ∧ (domOn up 21 = true)
    ∧ ((ringLive (({ ringed 16 1 mesh with fwd := { mesh.fwd with routes := [(pkt1.dst, ⟨393219, 0, true⟩)] } }) : State) (16 : Fin 32) = true)
      ∧ (ringType (({ ringed 16 1 mesh with fwd := { mesh.fwd with routes := [(pkt1.dst, ⟨393219, 0, true⟩)] } }) : State) (16 : Fin 32) = 1)
      ∧ (ringUsed (({ ringed 16 1 mesh with fwd := { mesh.fwd with routes := [(pkt1.dst, ⟨393219, 0, true⟩)] } }) : State) (16 : Fin 32) ≠ 0)
      ∧ (fieldOf (wAt ([0x80000064, 0x1000, 0, 0, 0, 0, 0, 0] : List Word) 0) 31 31 = 1)
      ∧ (0 < fieldOf (wAt ([0x80000064, 0x1000, 0, 0, 0, 0, 0, 0] : List Word) 0) 15 0)
      ∧ (onlyFields ([0x80000064, 0x1000, 0, 0, 0, 0, 0, 0] : List Word) [[(31, 31), (15, 0)], [(31, 0)], [(31, 0)]] = true)
      ∧ (domOn (({ ringed 16 1 mesh with fwd := { mesh.fwd with routes := [(pkt1.dst, ⟨393219, 0, true⟩)] } }) : State) 19 = true)
      ∧ (isStandby (({ ringed 16 1 mesh with fwd := { mesh.fwd with routes := [(pkt1.dst, ⟨393219, 0, true⟩)] } }) : State) = false)
      ∧ (isMulticast pkt1.dst = false)
      ∧ (isLinkLocal pkt1.dst = false)
      ∧ (false = false)
      ∧ (lookupRoute (({ ringed 16 1 mesh with fwd := { mesh.fwd with routes := [(pkt1.dst, ⟨393219, 0, true⟩)] } }) : State) pkt1.dst = some (⟨393219, 0, true⟩ : Route))
      ∧ ((⟨393219, 0, true⟩ : Route).static = true)
      ∧ (ewKind (⟨393219, 0, true⟩ : Route).entry = 3)
      ∧ (getB F.netRingCfg_irq_en (16 : Fin 32) (({ ringed 16 1 mesh with fwd := { mesh.fwd with routes := [(pkt1.dst, ⟨393219, 0, true⟩)] } }) : State) = false))
    ∧ ((ringLive ((ringed 16 1 mesh) : State) (16 : Fin 32) = true)
      ∧ (ringType ((ringed 16 1 mesh) : State) (16 : Fin 32) = 1)
      ∧ (ringUsed ((ringed 16 1 mesh) : State) (16 : Fin 32) ≠ 0)
      ∧ (fieldOf (wAt ([0x00000064, 0x1000, 0, 0, 0, 0, 0, 0] : List Word) 0) 31 31 = 0))
    ∧ ((ringLive ((ringed 16 2 sched) : State) (16 : Fin 32) = true)
      ∧ (ringType ((ringed 16 2 sched) : State) (16 : Fin 32) = 2)
      ∧ (ringUsed ((ringed 16 2 sched) : State) (16 : Fin 32) ≠ 0)
      ∧ (((ringed 16 2 sched) : State).net.imms = [])
      ∧ (fieldOf (wAt ([0x8A000028, 0x1000, 0, 0xC0030000, 3, 80, 0, 0] : List Word) 0) 31 31 = 1)
      ∧ (0 < fieldOf (wAt ([0x8A000028, 0x1000, 0, 0xC0030000, 3, 80, 0, 0] : List Word) 0) 15 0)
      ∧ (immDescOk ((ringed 16 2 sched) : State) ([0x8A000028, 0x1000, 0, 0xC0030000, 3, 80, 0, 0] : List Word) (⟨true, false, some 4, 0, .absent⟩ : ImmHdr) = true)
      ∧ (canGrant ((ringed 16 2 sched) : State) 6 (pagesOf (fieldOf (wAt ([0x8A000028, 0x1000, 0, 0xC0030000, 3, 80, 0, 0] : List Word) 0) 15 0)) = true))
    ∧ ((ringLive ((keyed 2 (ringed 17 3 mesh)) : State) (17 : Fin 32) = true)
      ∧ (ringType ((keyed 2 (ringed 17 3 mesh)) : State) (17 : Fin 32) = 3)
      ∧ (ringUsed ((keyed 2 (ringed 17 3 mesh)) : State) (17 : Fin 32) ≠ 0)
      ∧ (fieldOf (wAt ([0x81000020, 0x1000, 0, 0x00090000, 0, 1, 2, 3] : List Word) 0) 31 31 = 1)
      ∧ (fieldOf (wAt ([0x81000020, 0x1000, 0, 0x00090000, 0, 1, 2, 3] : List Word) 0) 25 24 = 1)
      ∧ (fieldOf (wAt ([0x81000020, 0x1000, 0, 0x00090000, 0, 1, 2, 3] : List Word) 3) 28 16 = (9 : Nat))
      ∧ (cipherDescOk ([0x81000020, 0x1000, 0, 0x00090000, 0, 1, 2, 3] : List Word) = true)
      ∧ (keyOf ((keyed 2 (ringed 17 3 mesh)) : State) (9 : Nat) = some (⟨0, 2, 16, 0, false, 0, 0, 0, 99⟩ : KSlot))
      ∧ ((⟨0, 2, 16, 0, false, 0, 0, 0, 99⟩ : KSlot).usage = 2)
      ∧ (engineOk ((keyed 2 (ringed 17 3 mesh)) : State) 2 = true)
      ∧ (((keyed 2 (ringed 17 3 mesh)) : State).keys.rootOk = true)
      ∧ (tamperHold ((keyed 2 (ringed 17 3 mesh)) : State) = false)
      ∧ (((keyed 2 (ringed 17 3 mesh)) : State).keys.cache.contains (9 : Nat) = true)
      ∧ (domDead ((keyed 2 (ringed 17 3 mesh)) : State) 21 = false)
      ∧ (getB F.netRingCfg_irq_en (17 : Fin 32) ((keyed 2 (ringed 17 3 mesh)) : State) = false))
    ∧ ((ringLive ((keyed 2 (ringed 17 3 mesh)) : State) (17 : Fin 32) = true)
      ∧ (ringType ((keyed 2 (ringed 17 3 mesh)) : State) (17 : Fin 32) = 3)
      ∧ (ringUsed ((keyed 2 (ringed 17 3 mesh)) : State) (17 : Fin 32) ≠ 0)
      ∧ (fieldOf (wAt ([0x80000020, 0x1000, 0, 0x00090000, 4, 0, 0, 0] : List Word) 0) 31 31 = 1)
      ∧ (fieldOf (wAt ([0x80000020, 0x1000, 0, 0x00090000, 4, 0, 0, 0] : List Word) 0) 25 24 = 0)
      ∧ (fieldOf (wAt ([0x80000020, 0x1000, 0, 0x00090000, 4, 0, 0, 0] : List Word) 3) 28 16 = (9 : Nat))
      ∧ (0 < fieldOf (wAt ([0x80000020, 0x1000, 0, 0x00090000, 4, 0, 0, 0] : List Word) 0) 15 0)
      ∧ (cipherDescOk ([0x80000020, 0x1000, 0, 0x00090000, 4, 0, 0, 0] : List Word) = true)
      ∧ (keyOf ((keyed 2 (ringed 17 3 mesh)) : State) (9 : Nat) = some (⟨0, 2, 16, 0, false, 0, 0, 0, 99⟩ : KSlot))
      ∧ (tabFind ((keyed 2 (ringed 17 3 mesh)) : State).keys.vault (9 : Nat) = some ({ a := some ⟨0, 2, 16, 0, false, 0, 0, 0, 99⟩, leases := [(0, (0x40000, 1))], next := 17 } : VEntry))
      ∧ (({ a := some ⟨0, 2, 16, 0, false, 0, 0, 0, 99⟩, leases := [(0, (0x40000, 1))], next := 17 } : VEntry).next < 2 ^ 64 - 1)
      ∧ (({ a := some ⟨0, 2, 16, 0, false, 0, 0, 0, 99⟩, leases := [(0, (0x40000, 1))], next := 17 } : VEntry).next < leaseBoundary ({ a := some ⟨0, 2, 16, 0, false, 0, 0, 0, 99⟩, leases := [(0, (0x40000, 1))], next := 17 } : VEntry))
      ∧ ((⟨0, 2, 16, 0, false, 0, 0, 0, 99⟩ : KSlot).usage = 2)
      ∧ (engineOk ((keyed 2 (ringed 17 3 mesh)) : State) 2 = true)
      ∧ (((keyed 2 (ringed 17 3 mesh)) : State).keys.rootOk = true)
      ∧ (tamperHold ((keyed 2 (ringed 17 3 mesh)) : State) = false)
      ∧ (((keyed 2 (ringed 17 3 mesh)) : State).keys.cache.contains (9 : Nat) = true)
      ∧ (domDead ((keyed 2 (ringed 17 3 mesh)) : State) 21 = false)
      ∧ (getB F.netRingCfg_irq_en (17 : Fin 32) ((keyed 2 (ringed 17 3 mesh)) : State) = false))
    ∧ ((ringLive (({ ringed 3 4 mesh with fwd := { mesh.fwd with deliver := [deliv1] } }) : State) (3 : Fin 32) = true)
      ∧ (ringType (({ ringed 3 4 mesh with fwd := { mesh.fwd with deliver := [deliv1] } }) : State) (3 : Fin 32) = 4)
      ∧ (ringUsed (({ ringed 3 4 mesh with fwd := { mesh.fwd with deliver := [deliv1] } }) : State) (3 : Fin 32) ≠ 0)
      ∧ (fieldOf (wAt ([0x80000080, 0x1000, 0, 0, 0, 0, 0, 0] : List Word) 0) 31 31 = 1)
      ∧ ((({ ringed 3 4 mesh with fwd := { mesh.fwd with deliver := [deliv1] } }) : State).fwd.deliver = [deliv1])
      ∧ (deliv1.ring = (3 : Fin 32))
      ∧ (deliv1.spilled = 0)
      ∧ (deliv1.parked = false)
      ∧ (deliv1.moved ≤ deliv1.len)
      ∧ (deliv1.len - deliv1.moved ≤ fieldOf (wAt ([0x80000080, 0x1000, 0, 0, 0, 0, 0, 0] : List Word) 0) 15 0)
      ∧ (0 < fieldOf (wAt ([0x80000080, 0x1000, 0, 0, 0, 0, 0, 0] : List Word) 0) 15 0)
      ∧ (getB F.netRingCfg_irq_en (3 : Fin 32) (({ ringed 3 4 mesh with fwd := { mesh.fwd with deliver := [deliv1] } }) : State) = false)
      ∧ (domDead (({ ringed 3 4 mesh with fwd := { mesh.fwd with deliver := [deliv1] } }) : State) 21 = false))
    ∧ ((domOn (({ ringed 3 4 mesh with fwd := { mesh.fwd with deliver := [deliv1] } } |> setF F.netRingHead_head 3 6) : State) 21 = true)
      ∧ (domDead (({ ringed 3 4 mesh with fwd := { mesh.fwd with deliver := [deliv1] } } |> setF F.netRingHead_head 3 6) : State) 21 = false)
      ∧ (ringUsed (({ ringed 3 4 mesh with fwd := { mesh.fwd with deliver := [deliv1] } } |> setF F.netRingHead_head 3 6) : State) (3 : Fin 32) = 0)
      ∧ ((({ ringed 3 4 mesh with fwd := { mesh.fwd with deliver := [deliv1] } } |> setF F.netRingHead_head 3 6) : State).fwd.deliver = [deliv1])
      ∧ (deliv1.ring = (3 : Fin 32))
      ∧ (deliv1.spilled = 0)
      ∧ (deliv1.parked = false))
    ∧ ((eventsQueued (({ ringed 15 5 up with evq := { (up).evq with q := [⟨0x301, 1, 99, 7⟩], lost := 3, seq := 8 }, start := { up.start with capsRead := true } }) : State) = false)
      ∧ (ringLive (({ ringed 15 5 up with evq := { (up).evq with q := [⟨0x301, 1, 99, 7⟩], lost := 3, seq := 8 }, start := { up.start with capsRead := true } }) : State) 15 = true)
      ∧ (ringUsed (({ ringed 15 5 up with evq := { (up).evq with q := [⟨0x301, 1, 99, 7⟩], lost := 3, seq := 8 }, start := { up.start with capsRead := true } }) : State) 15 ≠ 0)
      ∧ ((({ ringed 15 5 up with evq := { (up).evq with q := [⟨0x301, 1, 99, 7⟩], lost := 3, seq := 8 }, start := { up.start with capsRead := true } }) : State).evq.q = (⟨0x301, 1, 99, 7⟩ : EvRec) :: ([] : List EvRec))
      ∧ (getB F.netRingCfg_irq_en 15 (({ ringed 15 5 up with evq := { (up).evq with q := [⟨0x301, 1, 99, 7⟩], lost := 3, seq := 8 }, start := { up.start with capsRead := true } }) : State) = false))
    ∧ ((ringLive ((ringed 16 1 up) : State) (16 : Fin 32) = true)
      ∧ (ringUsed ((ringed 16 1 up) : State) (16 : Fin 32) ≠ 0)
      ∧ ((16 : Fin 32).val ≠ 15)
      ∧ (getB F.netRingCfg_irq_en (16 : Fin 32) ((ringed 16 1 up) : State) = false))
    ∧ ((ringLive ((ringed 16 1 up) : State) (16 : Fin 32) = true)
      ∧ (ringUsed ((ringed 16 1 up) : State) (16 : Fin 32) ≠ 0))
    ∧ ((tabFind ((({ ringed 16 1 up with net := { (ringed 16 1 up).net with irq := [(16, (3, 7))], msixEn := true, msix := [(23, 0)] } }) |> setF F.netRingCfg_vector 16 5 |> setF F.netRingCoal_coal_us 16 50) : State).net.irq (16 : Fin 32) = some ((3 : Nat), (7 : Nat)))
      ∧ ((3 : Nat) ≠ 0)
      ∧ (domOn ((({ ringed 16 1 up with net := { (ringed 16 1 up).net with irq := [(16, (3, 7))], msixEn := true, msix := [(23, 0)] } }) |> setF F.netRingCfg_vector 16 5 |> setF F.netRingCoal_coal_us 16 50) : State) 24 = true)
      ∧ (((({ ringed 16 1 up with net := { (ringed 16 1 up).net with irq := [(16, (3, 7))], msixEn := true, msix := [(23, 0)] } }) |> setF F.netRingCfg_vector 16 5 |> setF F.netRingCoal_coal_us 16 50) : State).net.msixEn = true)
      ∧ (((({ ringed 16 1 up with net := { (ringed 16 1 up).net with irq := [(16, (3, 7))], msixEn := true, msix := [(23, 0)] } }) |> setF F.netRingCfg_vector 16 5 |> setF F.netRingCoal_coal_us 16 50) : State).net.funcMask = false)
      ∧ (((({ ringed 16 1 up with net := { (ringed 16 1 up).net with irq := [(16, (3, 7))], msixEn := true, msix := [(23, 0)] } }) |> setF F.netRingCfg_vector 16 5 |> setF F.netRingCoal_coal_us 16 50) : State).net.busMaster = true)
      ∧ (((({ ringed 16 1 up with net := { (ringed 16 1 up).net with irq := [(16, (3, 7))], msixEn := true, msix := [(23, 0)] } }) |> setF F.netRingCfg_vector 16 5 |> setF F.netRingCoal_coal_us 16 50) : State).net.d3hot = false)
      ∧ (getB F.netPcieStatus_link_up 0 ((({ ringed 16 1 up with net := { (ringed 16 1 up).net with irq := [(16, (3, 7))], msixEn := true, msix := [(23, 0)] } }) |> setF F.netRingCfg_vector 16 5 |> setF F.netRingCoal_coal_us 16 50) : State) = true)
      ∧ (bitOf (msixWord ((({ ringed 16 1 up with net := { (ringed 16 1 up).net with irq := [(16, (3, 7))], msixEn := true, msix := [(23, 0)] } }) |> setF F.netRingCfg_vector 16 5 |> setF F.netRingCoal_coal_us 16 50) : State) (4 * getF F.netRingCfg_vector (16 : Fin 32) ((({ ringed 16 1 up with net := { (ringed 16 1 up).net with irq := [(16, (3, 7))], msixEn := true, msix := [(23, 0)] } }) |> setF F.netRingCfg_vector 16 5 |> setF F.netRingCoal_coal_us 16 50) : State) + 3)) 0 = false))
    ∧ ((tabFind (({ up with now := 9, evq := { up.evq with rate := [(458754, ⟨Ev.linkUnknownSource, 5, 2, [(2, 32)]⟩)] } }) : State).evq.rate ((7 : Nat) * 65536 + (2 : Nat)) = some (⟨Ev.linkUnknownSource, 5, 2, [(2, 32)]⟩ : RateSt))
      ∧ (0 < (⟨Ev.linkUnknownSource, 5, 2, [(2, 32)]⟩ : RateSt).pend)
      ∧ ((({ up with now := 9, evq := { up.evq with rate := [(458754, ⟨Ev.linkUnknownSource, 5, 2, [(2, 32)]⟩)] } }) : State).evq.q.length < 256)) := by
  refine ⟨?_, ?_, ?_, ?_, ?_, ?_, ?_, ?_, ?_, ?_, ?_, ?_, ?_, ?_⟩
  all_goals decide +kernel

theorem meets_HostLinksAndMemory :
    ((domOn ((ringed 16 1 up) : State) 24 = true)
      ∧ (pcieUsed ((ringed 16 1 up) : State) = true))
    ∧ ((domOn up 24 = true)
      ∧ (pcieUsed up = true))
    ∧ ((domOn ({ up with net := { (up).net with msixEn := true, busMaster := true, pba := 32, msix := [(20, 0x1000), (22, 7), (23, 1)] } } : State) 24 = true)
      ∧ (pcieUsed ({ up with net := { (up).net with msixEn := true, busMaster := true, pba := 32, msix := [(20, 0x1000), (22, 7), (23, 1)] } } : State) = true)
      ∧ (({ up with net := { (up).net with msixEn := true, busMaster := true, pba := 32, msix := [(20, 0x1000), (22, 7), (23, 1)] } } : State).net.msixEn = true)
      ∧ (({ up with net := { (up).net with msixEn := true, busMaster := true, pba := 32, msix := [(20, 0x1000), (22, 7), (23, 1)] } } : State).net.funcMask = false)
      ∧ (({ up with net := { (up).net with msixEn := true, busMaster := true, pba := 32, msix := [(20, 0x1000), (22, 7), (23, 1)] } } : State).net.busMaster = true)
      ∧ (({ up with net := { (up).net with msixEn := true, busMaster := true, pba := 32, msix := [(20, 0x1000), (22, 7), (23, 1)] } } : State).net.d3hot = false)
      ∧ (getB F.netPcieStatus_link_up 0 ({ up with net := { (up).net with msixEn := true, busMaster := true, pba := 32, msix := [(20, 0x1000), (22, 7), (23, 1)] } } : State) = true))
    ∧ ((domOn up 24 = true)
      ∧ (pcieUsed up = true)
      ∧ (up.net.pba = 0))
    ∧ ((domOn eth0 (22 + (0 : Fin 2)) = true)
      ∧ (getB F.netEthStatus_link (0 : Fin 2) eth0 = true)
      ∧ (((ethf (.ipv6 pkt1)) : EthFrame).fcsOk = true)
      ∧ (((ethf (.ipv6 pkt1)) : EthFrame).len ≤ ethMtu eth0 (0 : Fin 2) + 18)
      ∧ (((ethf (.ipv6 pkt1)) : EthFrame).dst = ethMac eth0 (0 : Fin 2))
      ∧ (ethVid eth0 (0 : Fin 2) = 0)
      ∧ (((ethf (.ipv6 pkt1)) : EthFrame).vid = none)
      ∧ (redundMode eth0 = 0)
      ∧ (((ethf (.ipv6 pkt1)) : EthFrame).pay = .ipv6 pkt1))
    ∧ ((domOn eth0 (22 + (0 : Fin 2)) = true)
      ∧ (getB F.netEthStatus_link (0 : Fin 2) eth0 = true)
      ∧ (ethVid eth0 (0 : Fin 2) = 0)
      ∧ (({ ethf .other with fcsOk := false } : EthFrame).red = none)
      ∧ (redundMode eth0 = 0)
      ∧ (({ ethf .other with fcsOk := false } : EthFrame).pay = .other))
    ∧ ((domOn ((eth0 |> setF F.netEthStatus_link 0 0 |> cfg 0x0140 0 [BitVec.ofNat 32 (2 + 8 + 1500 * 65536), 0, 0x05040302, 0x0006]) : State) (22 + (0 : Fin 2)) = true)
      ∧ (getB F.netEthStatus_link (0 : Fin 2) ((eth0 |> setF F.netEthStatus_link 0 0 |> cfg 0x0140 0 [BitVec.ofNat 32 (2 + 8 + 1500 * 65536), 0, 0x05040302, 0x0006]) : State) = false)
      ∧ (ethEnabled ((eth0 |> setF F.netEthStatus_link 0 0 |> cfg 0x0140 0 [BitVec.ofNat 32 (2 + 8 + 1500 * 65536), 0, 0x05040302, 0x0006]) : State) (0 : Fin 2) = true)
      ∧ (fwdOpen ((eth0 |> setF F.netEthStatus_link 0 0 |> cfg 0x0140 0 [BitVec.ofNat 32 (2 + 8 + 1500 * 65536), 0, 0x05040302, 0x0006]) : State) = true)
      ∧ (yowOn ((eth0 |> setF F.netEthStatus_link 0 0 |> cfg 0x0140 0 [BitVec.ofNat 32 (2 + 8 + 1500 * 65536), 0, 0x05040302, 0x0006]) : State) = false)
      ∧ (ethSpeedOk (paramF ((eth0 |> setF F.netEthStatus_link 0 0 |> cfg 0x0140 0 [BitVec.ofNat 32 (2 + 8 + 1500 * 65536), 0, 0x05040302, 0x0006]) : State) 0x0140 (0 : Fin 2) 1 3 2) (3 : Fin 4) = true))
    ∧ ((domOn ((timed 1 1 1) : State) (22 + (0 : Fin 2)) = true)
      ∧ (getB F.netEthStatus_link (0 : Fin 2) ((timed 1 1 1) : State) = true)
      ∧ (timeSource ((timed 1 1 1) : State) = 1)
      ∧ (ptpPort ((timed 1 1 1) : State) = (0 : Fin 2))
      ∧ (timeState ((timed 1 1 1) : State) = 1))
    ∧ ((redundMode ((eth0 |> cfg 0x0144 0 [BitVec.ofNat 32 (1 + 400 * 65536)] |> setF F.netEthStatus_link 1 1) : State) ≠ 0)
      ∧ (fwdOpen ((eth0 |> cfg 0x0144 0 [BitVec.ofNat 32 (1 + 400 * 65536)] |> setF F.netEthStatus_link 1 1) : State) = true)
      ∧ (getB F.netEthStatus_link 0 ((eth0 |> cfg 0x0144 0 [BitVec.ofNat 32 (1 + 400 * 65536)] |> setF F.netEthStatus_link 1 1) : State) = true)
      ∧ (getB F.netEthStatus_link 1 ((eth0 |> cfg 0x0144 0 [BitVec.ofNat 32 (1 + 400 * 65536)] |> setF F.netEthStatus_link 1 1) : State) = true)
      ∧ (domOn ((eth0 |> cfg 0x0144 0 [BitVec.ofNat 32 (1 + 400 * 65536)] |> setF F.netEthStatus_link 1 1) : State) 22 = true)
      ∧ (domOn ((eth0 |> cfg 0x0144 0 [BitVec.ofNat 32 (1 + 400 * 65536)] |> setF F.netEthStatus_link 1 1) : State) 23 = true))
    ∧ ((domOn ((up |> cfg 0x0145 0 [BitVec.ofNat 32 (1 + 256)]) : State) 25 = true)
      ∧ (getB F.netDdrStatus_trained 0 ((up |> cfg 0x0145 0 [BitVec.ofNat 32 (1 + 256)]) : State) = false)
      ∧ ((0 : Nat) < 5 - ddrRate ((up |> cfg 0x0145 0 [BitVec.ofNat 32 (1 + 256)]) : State))
      ∧ ((1024 : Nat) < 4096))
    ∧ ((domOn ((up |> cfg 0x0145 0 [BitVec.ofNat 32 (1 + 256)]) : State) 25 = true)
      ∧ (getB F.netDdrStatus_trained 0 ((up |> cfg 0x0145 0 [BitVec.ofNat 32 (1 + 256)]) : State) = false)
      ∧ (5 - ddrRate ((up |> cfg 0x0145 0 [BitVec.ofNat 32 (1 + 256)]) : State) ≤ (4 : Nat)))
    ∧ ((isF ((up |> cfg 0x0145 0 [BitVec.ofNat 32 (256 + 24 * 65536)] |> setF F.netDdrStatus_trained 0 1) : State) = true)
      ∧ (ddrUp ((up |> cfg 0x0145 0 [BitVec.ofNat 32 (256 + 24 * 65536)] |> setF F.netDdrStatus_trained 0 1) : State) = true)
      ∧ (scrubEn ((up |> cfg 0x0145 0 [BitVec.ofNat 32 (256 + 24 * 65536)] |> setF F.netDdrStatus_trained 0 1) : State) = true)) := by
  refine ⟨?_, ?_, ?_, ?_, ?_, ?_, ?_, ?_, ?_, ?_, ?_, ?_⟩
  all_goals decide +kernel

theorem meets_ClustersShareTime :
    ((yowCan ({ clus 9 with yow := { (clus 9).yow with links := [(0, { helloAt := some 5, txSeq := 3 })] } } : State) (0 : Fin 2) = true)
      ∧ (yowSecure ({ clus 9 with yow := { (clus 9).yow with links := [(0, { helloAt := some 5, txSeq := 3 })] } } : State) = false)
      ∧ ((yowLink ({ clus 9 with yow := { (clus 9).yow with links := [(0, { helloAt := some 5, txSeq := 3 })] } } : State) (0 : Fin 2)).helloAt = some (5 : Nat)))
    ∧ ((yowUp ((clus 9) : State) (0 : Fin 2) = true)
      ∧ (serving ((clus 9) : State) = true)
      ∧ (((yh 0 4) : YowHdr).version = 1)
      ∧ (((yh 0 4) : YowHdr).cluster = yowId ((clus 9) : State))
      ∧ (yowSecure ((clus 9) : State) = false)
      ∧ (((yh 0 4) : YowHdr).secured = false)
      ∧ (domOn ((clus 9) : State) 1 = true)
      ∧ (domOn ((clus 9) : State) 18 = true)
      ∧ (torchOn ((clus 9) : State) = false)
      ∧ (tabGet (yowLink ((clus 9) : State) (0 : Fin 2)).seqs ((yh 0 4) : YowHdr).sender 0 < ((yh 0 4) : YowHdr).seq))
    ∧ (({ yh 0 4 with cluster := 8 } : YowHdr).version ≠ 1 ∨ ({ yh 0 4 with cluster := 8 } : YowHdr).cluster ≠ yowId ((clus 9) : State) ∨ ({ yh 0 4 with cluster := 8 } : YowHdr).secured ≠ yowSecure ((clus 9) : State))
    ∧ ((yowUp ({ clus 9 with yow := { (clus 9).yow with links := [(0, { seqs := [(88, 4)] })] } } : State) (0 : Fin 2) = true)
      ∧ (serving ({ clus 9 with yow := { (clus 9).yow with links := [(0, { seqs := [(88, 4)] })] } } : State) = true)
      ∧ (((yh 0 4) : YowHdr).version = 1)
      ∧ (((yh 0 4) : YowHdr).cluster = yowId ({ clus 9 with yow := { (clus 9).yow with links := [(0, { seqs := [(88, 4)] })] } } : State))
      ∧ (yowSecure ({ clus 9 with yow := { (clus 9).yow with links := [(0, { seqs := [(88, 4)] })] } } : State) = false)
      ∧ (((yh 0 4) : YowHdr).secured = false)
      ∧ (domOn ({ clus 9 with yow := { (clus 9).yow with links := [(0, { seqs := [(88, 4)] })] } } : State) 1 = true)
      ∧ (domOn ({ clus 9 with yow := { (clus 9).yow with links := [(0, { seqs := [(88, 4)] })] } } : State) 18 = true)
      ∧ (((yh 0 4) : YowHdr).seq ≤ tabGet (yowLink ({ clus 9 with yow := { (clus 9).yow with links := [(0, { seqs := [(88, 4)] })] } } : State) (0 : Fin 2)).seqs ((yh 0 4) : YowHdr).sender 0))
    ∧ ((yowCan ((clus 9) : State) (0 : Fin 2) = true)
      ∧ (((yh 0 4) : YowHdr).version = 1)
      ∧ (((yh 0 4) : YowHdr).cluster = yowId ((clus 9) : State))
      ∧ (yowSecure ((clus 9) : State) = false)
      ∧ (((yh 0 4) : YowHdr).secured = false)
      ∧ (domOn ((clus 9) : State) 1 = true)
      ∧ (domOn ((clus 9) : State) 18 = true)
      ∧ (torchOn ((clus 9) : State) = false)
      ∧ (tabGet (yowLink ((clus 9) : State) (0 : Fin 2)).seqs ((yh 0 4) : YowHdr).sender 0 < ((yh 0 4) : YowHdr).seq))
    ∧ ((yowCan ({ clus 9 with yow := { (clus 9).yow with links := [(0, { reqSent := some 7 })] } } : State) (0 : Fin 2) = true)
      ∧ (yowSecure ({ clus 9 with yow := { (clus 9).yow with links := [(0, { reqSent := some 7 })] } } : State) = false)
      ∧ ((yowLink ({ clus 9 with yow := { (clus 9).yow with links := [(0, { reqSent := some 7 })] } } : State) (0 : Fin 2)).reqSent = some (7 : Nat)))
    ∧ ((yowUp ({ clus 9 with time := { (clus 9).time with ns := 5000 }, yow := { (clus 9).yow with links := [(0, { reqAt := some 2000 })] } } : State) (0 : Fin 2) = true)
      ∧ (serving ({ clus 9 with time := { (clus 9).time with ns := 5000 }, yow := { (clus 9).yow with links := [(0, { reqAt := some 2000 })] } } : State) = true)
      ∧ (((yh 0 4) : YowHdr).version = 1)
      ∧ (((yh 0 4) : YowHdr).cluster = yowId ({ clus 9 with time := { (clus 9).time with ns := 5000 }, yow := { (clus 9).yow with links := [(0, { reqAt := some 2000 })] } } : State))
      ∧ (yowSecure ({ clus 9 with time := { (clus 9).time with ns := 5000 }, yow := { (clus 9).yow with links := [(0, { reqAt := some 2000 })] } } : State) = false)
      ∧ (((yh 0 4) : YowHdr).secured = false)
      ∧ (domOn ({ clus 9 with time := { (clus 9).time with ns := 5000 }, yow := { (clus 9).yow with links := [(0, { reqAt := some 2000 })] } } : State) 1 = true)
      ∧ (domOn ({ clus 9 with time := { (clus 9).time with ns := 5000 }, yow := { (clus 9).yow with links := [(0, { reqAt := some 2000 })] } } : State) 18 = true)
      ∧ (torchOn ({ clus 9 with time := { (clus 9).time with ns := 5000 }, yow := { (clus 9).yow with links := [(0, { reqAt := some 2000 })] } } : State) = false)
      ∧ (tabGet (yowLink ({ clus 9 with time := { (clus 9).time with ns := 5000 }, yow := { (clus 9).yow with links := [(0, { reqAt := some 2000 })] } } : State) (0 : Fin 2)).seqs ((yh 0 4) : YowHdr).sender 0 < ((yh 0 4) : YowHdr).seq)
      ∧ ((yowLink ({ clus 9 with time := { (clus 9).time with ns := 5000 }, yow := { (clus 9).yow with links := [(0, { reqAt := some 2000 })] } } : State) (0 : Fin 2)).reqAt = some (2000 : Nat))) := by
  refine ⟨?_, ?_, ?_, ?_, ?_, ?_, ?_⟩
  all_goals decide +kernel

theorem meets_TheHigherClaimHoldsTheTorch :
    ((torchOn ((torch 1 0x8001) : State) = true)
      ∧ (((torch 1 0x8001) : State).torch.round = none)
      ∧ (holdsTorch ((torch 1 0x8001) : State) = true))
    ∧ ((torchOn ((torch 2 0x9002) : State) = true)
      ∧ (((torch 2 0x9002) : State).torch.round = none)
      ∧ (holdsTorch ((torch 2 0x9002) : State) = false)
      ∧ (torchMay ((torch 2 0x9002) : State) = true))
    ∧ ((({ torch 2 0x9002 with torch := { (torch 2 0x9002).torch with round := some 8500000 } } : State).torch.round = some (8500000 : Nat))
      ∧ ((0x7002 : Nat) < ownClaim ({ torch 2 0x9002 with torch := { (torch 2 0x9002).torch with round := some 8500000 } } : State))
      ∧ (getF F.keepTorchStatus_role 0 ({ torch 2 0x9002 with torch := { (torch 2 0x9002).torch with round := some 8500000 } } : State) = 2 ∨ getF F.keepTorchStatus_role 0 ({ torch 2 0x9002 with torch := { (torch 2 0x9002).torch with round := some 8500000 } } : State) = 0)
      ∧ (({ torch 2 0x9002 with torch := { (torch 2 0x9002).torch with round := some 8500000 } } : State).torch.pair = none))
    ∧ ((({ torch 1 0x8001 with torch := { (torch 1 0x8001).torch with round := some 8500000 } } : State).torch.round = some (8500000 : Nat))
      ∧ (ownClaim ({ torch 1 0x8001 with torch := { (torch 1 0x8001).torch with round := some 8500000 } } : State) < (0x9002 : Nat))
      ∧ ((0x9002 : Nat) < 65536)
      ∧ (getF F.keepTorchStatus_role 0 ({ torch 1 0x8001 with torch := { (torch 1 0x8001).torch with round := some 8500000 } } : State) = 1)
      ∧ (({ torch 1 0x8001 with torch := { (torch 1 0x8001).torch with round := some 8500000 } } : State).torch.pair = none)
      ∧ (({ torch 1 0x8001 with torch := { (torch 1 0x8001).torch with round := some 8500000 } } : State).torch.resync = none)
      ∧ (({ torch 1 0x8001 with torch := { (torch 1 0x8001).torch with round := some 8500000 } } : State).nbrs = []))
    ∧ ((({ torch 1 0x8001 with torch := { (torch 1 0x8001).torch with round := some 8500000 } } : State).torch.round = some (8500000 : Nat))
      ∧ (0 < ownClaim ({ torch 1 0x8001 with torch := { (torch 1 0x8001).torch with round := some 8500000 } } : State))
      ∧ (getF F.keepTorchStatus_role 0 ({ torch 1 0x8001 with torch := { (torch 1 0x8001).torch with round := some 8500000 } } : State) = 1)
      ∧ (({ torch 1 0x8001 with torch := { (torch 1 0x8001).torch with round := some 8500000 } } : State).torch.pair = none)
      ∧ (getB F.keepTorchStatus_pin_fault 0 ({ torch 1 0x8001 with torch := { (torch 1 0x8001).torch with round := some 8500000 } } : State) = false))
    ∧ (getF F.keepTorchStatus_role 0 ({ torch 3 0x8001 with nbrs := [(5, nbr5)], keys := { mesh.keys with cache := [] }, torch := { (torch 3 0x8001).torch with takeAt := 9500000, held := [(3, 0x80000)] } } : State) = 3)
    ∧ ((getF F.keepTorchStatus_role 0 ({ torch 2 0x9002 with torch := { (torch 2 0x9002).torch with takeAt := 9500000, gpioHold := some 5 } } : State) ≠ 3)
      ∧ (({ torch 2 0x9002 with torch := { (torch 2 0x9002).torch with takeAt := 9500000, gpioHold := some 5 } } : State).torch.gpioHold.isSome = true))
    ∧ ((torchOn ({ torch 1 0x8001 with torch := { (torch 1 0x8001).torch with peerClaim := 0x9002 } } : State) = true)
      ∧ (getB F.keepTorchStatus_pin_fault 0 ({ torch 1 0x8001 with torch := { (torch 1 0x8001).torch with peerClaim := 0x9002 } } : State) = false)) := by
  refine ⟨?_, ?_, ?_, ?_, ?_, ?_, ?_, ?_⟩
  all_goals decide +kernel

theorem meets_PairsMirrorAndShareALane :
    ((torchOn ({ torch 1 0x8001 with torch := { (torch 1 0x8001).torch with sentAt := 8000000, sentCfg := sharedRecs (torch 1 0x8001).cfg.committed } } : State) = true)
      ∧ (holdsTorch ({ torch 1 0x8001 with torch := { (torch 1 0x8001).torch with sentAt := 8000000, sentCfg := sharedRecs (torch 1 0x8001).cfg.committed } } : State) = true)
      ∧ (yowCan ({ torch 1 0x8001 with torch := { (torch 1 0x8001).torch with sentAt := 8000000, sentCfg := sharedRecs (torch 1 0x8001).cfg.committed } } : State) (torchPort ({ torch 1 0x8001 with torch := { (torch 1 0x8001).torch with sentAt := 8000000, sentCfg := sharedRecs (torch 1 0x8001).cfg.committed } } : State)) = true)
      ∧ (yowSecure ({ torch 1 0x8001 with torch := { (torch 1 0x8001).torch with sentAt := 8000000, sentCfg := sharedRecs (torch 1 0x8001).cfg.committed } } : State) = false)
      ∧ (itemsToSend ({ torch 1 0x8001 with torch := { (torch 1 0x8001).torch with sentAt := 8000000, sentCfg := sharedRecs (torch 1 0x8001).cfg.committed } } : State) = [])
      ∧ (({ torch 1 0x8001 with torch := { (torch 1 0x8001).torch with sentAt := 8000000, sentCfg := sharedRecs (torch 1 0x8001).cfg.committed } } : State).torch.resync = none))
    ∧ ((torchOn (((torch 2 0x9002) |> setF F.keepTorchClaim_own_claim 0 0x7001) : State) = true)
      ∧ (isStandby (((torch 2 0x9002) |> setF F.keepTorchClaim_own_claim 0 0x7001) : State) = true)
      ∧ (yowCan (((torch 2 0x9002) |> setF F.keepTorchClaim_own_claim 0 0x7001) : State) (torchPort (((torch 2 0x9002) |> setF F.keepTorchClaim_own_claim 0 0x7001) : State)) = true)
      ∧ (((yh 0x9002 4) : YowHdr).version = 1)
      ∧ (((yh 0x9002 4) : YowHdr).cluster = yowId (((torch 2 0x9002) |> setF F.keepTorchClaim_own_claim 0 0x7001) : State))
      ∧ (yowSecure (((torch 2 0x9002) |> setF F.keepTorchClaim_own_claim 0 0x7001) : State) = false)
      ∧ (((yh 0x9002 4) : YowHdr).secured = false)
      ∧ (domOn (((torch 2 0x9002) |> setF F.keepTorchClaim_own_claim 0 0x7001) : State) 1 = true)
      ∧ (domOn (((torch 2 0x9002) |> setF F.keepTorchClaim_own_claim 0 0x7001) : State) 18 = true)
      ∧ (tabGet (yowLink (((torch 2 0x9002) |> setF F.keepTorchClaim_own_claim 0 0x7001) : State) (torchPort (((torch 2 0x9002) |> setF F.keepTorchClaim_own_claim 0 0x7001) : State))).seqs ((yh 0x9002 4) : YowHdr).sender 0 < ((yh 0x9002 4) : YowHdr).seq)
      ∧ (((yh 0x9002 4) : YowHdr).claim = torchWinner (((torch 2 0x9002) |> setF F.keepTorchClaim_own_claim 0 0x7001) : State))
      ∧ (ownClaim (((torch 2 0x9002) |> setF F.keepTorchClaim_own_claim 0 0x7001) : State) < ((yh 0x9002 4) : YowHdr).claim)
      ∧ ((3 : Nat) < 8192))
    ∧ ((torchOn (((torch 2 0x9002) |> setF F.keepTorchClaim_own_claim 0 0x7001) : State) = true)
      ∧ (yowCan (((torch 2 0x9002) |> setF F.keepTorchClaim_own_claim 0 0x7001) : State) (torchPort (((torch 2 0x9002) |> setF F.keepTorchClaim_own_claim 0 0x7001) : State)) = true)
      ∧ (((yh 0x9003 4) : YowHdr).version = 1)
      ∧ (((yh 0x9003 4) : YowHdr).cluster = yowId (((torch 2 0x9002) |> setF F.keepTorchClaim_own_claim 0 0x7001) : State))
      ∧ (yowSecure (((torch 2 0x9002) |> setF F.keepTorchClaim_own_claim 0 0x7001) : State) = false)
      ∧ (((yh 0x9003 4) : YowHdr).secured = false)
      ∧ (domOn (((torch 2 0x9002) |> setF F.keepTorchClaim_own_claim 0 0x7001) : State) 1 = true)
      ∧ (domOn (((torch 2 0x9002) |> setF F.keepTorchClaim_own_claim 0 0x7001) : State) 18 = true)
      ∧ (tabGet (yowLink (((torch 2 0x9002) |> setF F.keepTorchClaim_own_claim 0 0x7001) : State) (torchPort (((torch 2 0x9002) |> setF F.keepTorchClaim_own_claim 0 0x7001) : State))).seqs ((yh 0x9003 4) : YowHdr).sender 0 < ((yh 0x9003 4) : YowHdr).seq)
      ∧ (isStandby (((torch 2 0x9002) |> setF F.keepTorchClaim_own_claim 0 0x7001) : State) = false ∨ ((yh 0x9003 4) : YowHdr).claim ≠ torchWinner (((torch 2 0x9002) |> setF F.keepTorchClaim_own_claim 0 0x7001) : State) ∨ ((yh 0x9003 4) : YowHdr).claim ≤ ownClaim (((torch 2 0x9002) |> setF F.keepTorchClaim_own_claim 0 0x7001) : State)))
    ∧ ((torchOn ({ torch 1 0x8001 with keys := mesh.keys, torch := { (torch 1 0x8001).torch with laneOut := some ⟨4, false, [], 0, 1⟩ } } : State) = true)
      ∧ (holdsTorch ({ torch 1 0x8001 with keys := mesh.keys, torch := { (torch 1 0x8001).torch with laneOut := some ⟨4, false, [], 0, 1⟩ } } : State) = true)
      ∧ (yowUp ({ torch 1 0x8001 with keys := mesh.keys, torch := { (torch 1 0x8001).torch with laneOut := some ⟨4, false, [], 0, 1⟩ } } : State) (torchPort ({ torch 1 0x8001 with keys := mesh.keys, torch := { (torch 1 0x8001).torch with laneOut := some ⟨4, false, [], 0, 1⟩ } } : State)) = true)
      ∧ (serving ({ torch 1 0x8001 with keys := mesh.keys, torch := { (torch 1 0x8001).torch with laneOut := some ⟨4, false, [], 0, 1⟩ } } : State) = true)
      ∧ (((yh 0x9002 4) : YowHdr).version = 1)
      ∧ (((yh 0x9002 4) : YowHdr).cluster = yowId ({ torch 1 0x8001 with keys := mesh.keys, torch := { (torch 1 0x8001).torch with laneOut := some ⟨4, false, [], 0, 1⟩ } } : State))
      ∧ (yowSecure ({ torch 1 0x8001 with keys := mesh.keys, torch := { (torch 1 0x8001).torch with laneOut := some ⟨4, false, [], 0, 1⟩ } } : State) = false)
      ∧ (((yh 0x9002 4) : YowHdr).secured = false)
      ∧ (domOn ({ torch 1 0x8001 with keys := mesh.keys, torch := { (torch 1 0x8001).torch with laneOut := some ⟨4, false, [], 0, 1⟩ } } : State) 1 = true)
      ∧ (domOn ({ torch 1 0x8001 with keys := mesh.keys, torch := { (torch 1 0x8001).torch with laneOut := some ⟨4, false, [], 0, 1⟩ } } : State) 18 = true)
      ∧ (tabGet (yowLink ({ torch 1 0x8001 with keys := mesh.keys, torch := { (torch 1 0x8001).torch with laneOut := some ⟨4, false, [], 0, 1⟩ } } : State) (torchPort ({ torch 1 0x8001 with keys := mesh.keys, torch := { (torch 1 0x8001).torch with laneOut := some ⟨4, false, [], 0, 1⟩ } } : State))).seqs ((yh 0x9002 4) : YowHdr).sender 0 < ((yh 0x9002 4) : YowHdr).seq)
      ∧ (({ torch 1 0x8001 with keys := mesh.keys, torch := { (torch 1 0x8001).torch with laneOut := some ⟨4, false, [], 0, 1⟩ } } : State).torch.resync = none)
      ∧ (({ torch 1 0x8001 with keys := mesh.keys, torch := { (torch 1 0x8001).torch with laneOut := some ⟨4, false, [], 0, 1⟩ } } : State).torch.laneOut = some (⟨4, false, [], 0, 1⟩ : LaneOut))
      ∧ (ack5.leases = [((3, 0x80000) : Nat × Nat)])
      ∧ (tabFind ({ torch 1 0x8001 with keys := mesh.keys, torch := { (torch 1 0x8001).torch with laneOut := some ⟨4, false, [], 0, 1⟩ } } : State).keys.vault ((3, 0x80000) : Nat × Nat).1 = some ({ a := some ⟨0, 1, 16, 1, false, 6, 1, 0, 99⟩, leases := [(0, (0x40000, 1))], next := 1 } : VEntry)))
    ∧ ((torchOn ((torch 2 0x9002) : State) = true)
      ∧ (isStandby ((torch 2 0x9002) : State) = true)
      ∧ (yowUp ((torch 2 0x9002) : State) (torchPort ((torch 2 0x9002) : State)) = true)
      ∧ (getF F.keepTorchStatus_mirror 0 ((torch 2 0x9002) : State) ≠ 1)
      ∧ (getF F.keepTorchStatus_mirror 0 ((torch 2 0x9002) : State) ≠ 2))
    ∧ ((torchOn (((torch 2 0x9002) |> setF F.keepTorchClaim_own_claim 0 0x7001) : State) = true)
      ∧ (yowUp (((torch 2 0x9002) |> setF F.keepTorchClaim_own_claim 0 0x7001) : State) (torchPort (((torch 2 0x9002) |> setF F.keepTorchClaim_own_claim 0 0x7001) : State)) = true)
      ∧ (serving (((torch 2 0x9002) |> setF F.keepTorchClaim_own_claim 0 0x7001) : State) = true)
      ∧ (((yh 0x9002 4) : YowHdr).version = 1)
      ∧ (((yh 0x9002 4) : YowHdr).cluster = yowId (((torch 2 0x9002) |> setF F.keepTorchClaim_own_claim 0 0x7001) : State))
      ∧ (yowSecure (((torch 2 0x9002) |> setF F.keepTorchClaim_own_claim 0 0x7001) : State) = false)
      ∧ (((yh 0x9002 4) : YowHdr).secured = false)
      ∧ (domOn (((torch 2 0x9002) |> setF F.keepTorchClaim_own_claim 0 0x7001) : State) 1 = true)
      ∧ (domOn (((torch 2 0x9002) |> setF F.keepTorchClaim_own_claim 0 0x7001) : State) 18 = true)
      ∧ (tabGet (yowLink (((torch 2 0x9002) |> setF F.keepTorchClaim_own_claim 0 0x7001) : State) (torchPort (((torch 2 0x9002) |> setF F.keepTorchClaim_own_claim 0 0x7001) : State))).seqs ((yh 0x9002 4) : YowHdr).sender 0 < ((yh 0x9002 4) : YowHdr).seq)
      ∧ (isStandby (((torch 2 0x9002) |> setF F.keepTorchClaim_own_claim 0 0x7001) : State) = true)
      ∧ (((yh 0x9002 4) : YowHdr).claim = torchWinner (((torch 2 0x9002) |> setF F.keepTorchClaim_own_claim 0 0x7001) : State))
      ∧ (ownClaim (((torch 2 0x9002) |> setF F.keepTorchClaim_own_claim 0 0x7001) : State) < ((yh 0x9002 4) : YowHdr).claim)
      ∧ (((yh 0x9002 4) : YowHdr).ackReq = false)
      ∧ (([0x07000101] : List Word) ≠ [])
      ∧ (lane (((torch 2 0x9002) |> setF F.keepTorchClaim_own_claim 0 0x7001) : State) 3 = {})
      ∧ (getB F.keepGzStat_resync_wait 3 (((torch 2 0x9002) |> setF F.keepTorchClaim_own_claim 0 0x7001) : State) = false)
      ∧ (laneFailed (((torch 2 0x9002) |> setF F.keepTorchClaim_own_claim 0 0x7001) : State) 3 = false)
      ∧ (([0x07000101] : List Word).length ≤ 64))
    ∧ ((torchOn ((torch 1 0x8001) : State) = true)
      ∧ (yowCan ((torch 1 0x8001) : State) (torchPort ((torch 1 0x8001) : State)) = true)
      ∧ (yowSecure ((torch 1 0x8001) : State) = false)
      ∧ (((torch 1 0x8001) : State).torch.laneOut = none)
      ∧ ((lane ((torch 1 0x8001) : State) 3).resp = (([] : List Word) : List Word))
      ∧ ((([] : List Word) : List Word) = [])
      ∧ (((torch 1 0x8001) : State).torch.pair = none))
    ∧ ((({ torch 1 0x8001 with torch := { (torch 1 0x8001).torch with laneOut := some ⟨4, true, [5], 8000000, 3⟩ } } : State).torch.laneOut = some (⟨4, true, [5], 8000000, 3⟩ : LaneOut))
      ∧ ((⟨4, true, [5], 8000000, 3⟩ : LaneOut).tries < 4)
      ∧ (yowCan ({ torch 1 0x8001 with torch := { (torch 1 0x8001).torch with laneOut := some ⟨4, true, [5], 8000000, 3⟩ } } : State) (torchPort ({ torch 1 0x8001 with torch := { (torch 1 0x8001).torch with laneOut := some ⟨4, true, [5], 8000000, 3⟩ } } : State)) = true))
    ∧ ((({ torch 1 0x8001 with torch := { (torch 1 0x8001).torch with laneOut := some ⟨4, true, [5], 8000000, 4⟩ } } : State).torch.laneOut = some (⟨4, true, [5], 8000000, 4⟩ : LaneOut))
      ∧ (4 ≤ (⟨4, true, [5], 8000000, 4⟩ : LaneOut).tries)
      ∧ ((⟨4, true, [5], 8000000, 4⟩ : LaneOut).resp = true)) := by
  refine ⟨?_, ?_, ?_, ?_, ?_, ?_, ?_, ?_, ?_⟩
  all_goals decide +kernel

theorem meets_LanesCarryWords :
    ((laneUsable ((setLane 1 { asm := [] } up) : State) (1 : Fin 4) = true)
      ∧ (laneServed (1 : Fin 4) ((setLane 1 { asm := [] } up) : State) = true)
      ∧ (domOn ((setLane 1 { asm := [] } up) : State) 1 = true)
      ∧ (resyncWait ((setLane 1 { asm := [] } up) : State) (1 : Fin 4) = false)
      ∧ ((lane ((setLane 1 { asm := [] } up) : State) (1 : Fin 4)).cmd = [])
      ∧ ((lane ((setLane 1 { asm := [] } up) : State) (1 : Fin 4)).ready = none)
      ∧ ((lane ((setLane 1 { asm := [] } up) : State) (1 : Fin 4)).errDue = false))
    ∧ (((0 : Fin 4).val ≠ 2)
      ∧ (laneUsable ((setLane 0 { cmd := List.replicate 128 (9, .ok), ready := some [4], asm := [0x33050000, 8] } up) : State) (0 : Fin 4) = true)
      ∧ (laneFailed ((setLane 0 { cmd := List.replicate 128 (9, .ok), ready := some [4], asm := [0x33050000, 8] } up) : State) (0 : Fin 4) = false)
      ∧ (domOn ((setLane 0 { cmd := List.replicate 128 (9, .ok), ready := some [4], asm := [0x33050000, 8] } up) : State) 1 = true)
      ∧ (resyncWait ((setLane 0 { cmd := List.replicate 128 (9, .ok), ready := some [4], asm := [0x33050000, 8] } up) : State) (0 : Fin 4) = false)
      ∧ ((lane ((setLane 0 { cmd := List.replicate 128 (9, .ok), ready := some [4], asm := [0x33050000, 8] } up) : State) (0 : Fin 4)).cmd.length = 128)
      ∧ ((lane ((setLane 0 { cmd := List.replicate 128 (9, .ok), ready := some [4], asm := [0x33050000, 8] } up) : State) (0 : Fin 4)).ready.isSome = true))
    ∧ ((laneUsable ((setLane 1 { asm := [0x33050000, 8] } up) : State) (1 : Fin 4) = true)
      ∧ (laneServed (1 : Fin 4) ((setLane 1 { asm := [0x33050000, 8] } up) : State) = true)
      ∧ (domOn ((setLane 1 { asm := [0x33050000, 8] } up) : State) 1 = true)
      ∧ (resyncWait ((setLane 1 { asm := [0x33050000, 8] } up) : State) (1 : Fin 4) = false)
      ∧ ((lane ((setLane 1 { asm := [0x33050000, 8] } up) : State) (1 : Fin 4)).cmd = [])
      ∧ ((lane ((setLane 1 { asm := [0x33050000, 8] } up) : State) (1 : Fin 4)).ready = none)
      ∧ ((lane ((setLane 1 { asm := [0x33050000, 8] } up) : State) (1 : Fin 4)).errDue = false))
    ∧ ((([(3, .ok), (4, .corrected)] : List (Word × Ecc)) ≠ [])
      ∧ (serving ((setLane 0 { discarded := 6 } up |> setF F.keepGzStat_resync_wait 0 1) : State) = true)
      ∧ (laneUsable ((setLane 0 { discarded := 6 } up |> setF F.keepGzStat_resync_wait 0 1) : State) (0 : Fin 4) = true)
      ∧ (laneFailed ((setLane 0 { discarded := 6 } up |> setF F.keepGzStat_resync_wait 0 1) : State) (0 : Fin 4) = false)
      ∧ (domOn ((setLane 0 { discarded := 6 } up |> setF F.keepGzStat_resync_wait 0 1) : State) 1 = true)
      ∧ (resyncWait ((setLane 0 { discarded := 6 } up |> setF F.keepGzStat_resync_wait 0 1) : State) (0 : Fin 4) = true))
    ∧ (((1 : Fin 4).val ≠ 3)
      ∧ (laneUsable ((setLane 1 { resp := [77, 78], mark := true, held := [5] } up) : State) (1 : Fin 4) = true)
      ∧ (laneServed (1 : Fin 4) ((setLane 1 { resp := [77, 78], mark := true, held := [5] } up) : State) = true)
      ∧ (domOn ((setLane 1 { resp := [77, 78], mark := true, held := [5] } up) : State) 1 = true)
      ∧ ((lane ((setLane 1 { resp := [77, 78], mark := true, held := [5] } up) : State) (1 : Fin 4)).resp = (77 : Word) :: ([78] : List Word))
      ∧ ((lane ((setLane 1 { resp := [77, 78], mark := true, held := [5] } up) : State) (1 : Fin 4)).held.length < 128))
    ∧ (((0 : Fin 4).val ≤ 1)
      ∧ (laneUsable up (0 : Fin 4) = true)
      ∧ (laneFailed up (0 : Fin 4) = false)
      ∧ (domOn up 1 = true)
      ∧ ((lane up (0 : Fin 4)).resp = []))
    ∧ ((laneUsable ((setLane 1 { resp := [77, 78], discTag := 9, discarded := 300 } up |> setF F.keepGzStat_resync_wait 1 1) : State) (1 : Fin 4) = true)
      ∧ (domOn ((setLane 1 { resp := [77, 78], discTag := 9, discarded := 300 } up |> setF F.keepGzStat_resync_wait 1 1) : State) 1 = true)
      ∧ (resyncWait ((setLane 1 { resp := [77, 78], discTag := 9, discarded := 300 } up |> setF F.keepGzStat_resync_wait 1 1) : State) (1 : Fin 4) = true)
      ∧ ((lane ((setLane 1 { resp := [77, 78], discTag := 9, discarded := 300 } up |> setF F.keepGzStat_resync_wait 1 1) : State) (1 : Fin 4)).ex = none)
      ∧ ((lane ((setLane 1 { resp := [77, 78], discTag := 9, discarded := 300 } up |> setF F.keepGzStat_resync_wait 1 1) : State) (1 : Fin 4)).ready = none)
      ∧ ((lane ((setLane 1 { resp := [77, 78], discTag := 9, discarded := 300 } up |> setF F.keepGzStat_resync_wait 1 1) : State) (1 : Fin 4)).cmd = []))
    ∧ ((laneUsable ((setLane 1 { resp := [77, 78], errDue := false } up) : State) (1 : Fin 4) = true)
      ∧ (domOn ((setLane 1 { resp := [77, 78], errDue := false } up) : State) 1 = true)
      ∧ (resyncWait ((setLane 1 { resp := [77, 78], errDue := false } up) : State) (1 : Fin 4) = false))
    ∧ ((laneServed (1 : Fin 4) ((setLane 1 { asm := [0x33050000, 8], asmAt := 5 } up) : State) = true)
      ∧ ((lane ((setLane 1 { asm := [0x33050000, 8], asmAt := 5 } up) : State) (1 : Fin 4)).asm = (0x33050000 : Word) :: ([8] : List Word))
      ∧ ((lane ((setLane 1 { asm := [0x33050000, 8], asmAt := 5 } up) : State) (1 : Fin 4)).ex = none)
      ∧ ((lane ((setLane 1 { asm := [0x33050000, 8], asmAt := 5 } up) : State) (1 : Fin 4)).resp = [])
      ∧ ((lane ((setLane 1 { asm := [0x33050000, 8], asmAt := 5 } up) : State) (1 : Fin 4)).held = [])
      ∧ ((lane ((setLane 1 { asm := [0x33050000, 8], asmAt := 5 } up) : State) (1 : Fin 4)).cmd = [])) := by
  refine ⟨?_, ?_, ?_, ?_, ?_, ?_, ?_, ?_, ?_⟩
  all_goals decide +kernel

theorem meets_HeldWordsFollowTheMark :
    (((1 : Fin 4).val ≠ 3)
      ∧ (laneUsable ((setLane 1 { resp := [77, 78], mark := true, held := [5] } up) : State) (1 : Fin 4) = true)
      ∧ (laneServed (1 : Fin 4) ((setLane 1 { resp := [77, 78], mark := true, held := [5] } up) : State) = true)
      ∧ (domOn ((setLane 1 { resp := [77, 78], mark := true, held := [5] } up) : State) 1 = true)
      ∧ ((lane ((setLane 1 { resp := [77, 78], mark := true, held := [5] } up) : State) (1 : Fin 4)).resp = (77 : Word) :: ([78] : List Word))
      ∧ ((lane ((setLane 1 { resp := [77, 78], mark := true, held := [5] } up) : State) (1 : Fin 4)).held.length < 128))
    ∧ ((laneUsable ((setLane 0 { resp := [77, 78], mark := true, held := [5] } up) : State) (0 : Fin 4) = true)
      ∧ (domOn ((setLane 0 { resp := [77, 78], mark := true, held := [5] } up) : State) 1 = true))
    ∧ ((laneUsable ((setLane 0 { resp := [77, 78], mark := true, held := [5] } up) : State) (0 : Fin 4) = true)
      ∧ (domOn ((setLane 0 { resp := [77, 78], mark := true, held := [5] } up) : State) 1 = true)
      ∧ ((lane ((setLane 0 { resp := [77, 78], mark := true, held := [5] } up) : State) (0 : Fin 4)).mark = true))
    ∧ ((laneUsable ((setLane 1 { resp := [77, 78] } up) : State) (1 : Fin 4) = true)
      ∧ (domOn ((setLane 1 { resp := [77, 78] } up) : State) 1 = true)
      ∧ ((lane ((setLane 1 { resp := [77, 78] } up) : State) (1 : Fin 4)).mark = false))
    ∧ ((((setLane 1 { resp := [77, 78], mark := true, held := [5] } up) : State).start.testHeld = false)
      ∧ (pcieUsed ((setLane 1 { resp := [77, 78], mark := true, held := [5] } up) : State) = true)
      ∧ (getB F.netPcieStatus_link_up 0 ((setLane 1 { resp := [77, 78], mark := true, held := [5] } up) : State) = true)
      ∧ (domOn ((setLane 1 { resp := [77, 78], mark := true, held := [5] } up) : State) 1 = true)
      ∧ (lanePresent ((setLane 1 { resp := [77, 78], mark := true, held := [5] } up) : State) (1 : Fin 4) = true)
      ∧ ((3 : Word).getLsbD 3 = false)
      ∧ ((3 : Word).getLsbD 9 = false)) := by
  refine ⟨?_, ?_, ?_, ?_, ?_⟩
  all_goals decide +kernel

theorem meets_SpiServesLaneTwo :
    ((serving ((setLane 2 { cmd := List.replicate 126 (9, .ok), ready := some [4] } up) : State) = true)
      ∧ (domOn ((setLane 2 { cmd := List.replicate 126 (9, .ok), ready := some [4] } up) : State) 1 = true)
      ∧ (laneFailed ((setLane 2 { cmd := List.replicate 126 (9, .ok), ready := some [4] } up) : State) 2 = false)
      ∧ (resyncWait ((setLane 2 { cmd := List.replicate 126 (9, .ok), ready := some [4] } up) : State) 2 = false)
      ∧ ((lane ((setLane 2 { cmd := List.replicate 126 (9, .ok), ready := some [4] } up) : State) 2).ready.isSome = true)
      ∧ ((lane ((setLane 2 { cmd := List.replicate 126 (9, .ok), ready := some [4] } up) : State) 2).cmd.length ≤ 128))
    ∧ ((serving ((setLane 2 { resp := [77, 78, 79, 80], mark := true, held := [5] } up) : State) = true)
      ∧ (domOn ((setLane 2 { resp := [77, 78, 79, 80], mark := true, held := [5] } up) : State) 1 = true)
      ∧ (laneFailed ((setLane 2 { resp := [77, 78, 79, 80], mark := true, held := [5] } up) : State) 2 = false)
      ∧ ((lane ((setLane 2 { resp := [77, 78, 79, 80], mark := true, held := [5] } up) : State) 2).resp.length + (lane ((setLane 2 { resp := [77, 78, 79, 80], mark := true, held := [5] } up) : State) 2).held.length ≤ 128))
    ∧ ((((setLane 2 { resp := [77, 78] } up) : State).start.testHeld = false)
      ∧ (domOn ((setLane 2 { resp := [77, 78] } up) : State) 1 = true))
    ∧ ((((setLane 2 { resp := [77, 78], mark := true, held := [5] } up) : State).start.testHeld = false)
      ∧ (domOn ((setLane 2 { resp := [77, 78], mark := true, held := [5] } up) : State) 1 = true)
      ∧ ((lane ((setLane 2 { resp := [77, 78], mark := true, held := [5] } up) : State) 2).mark = true)
      ∧ (resyncWait ((setLane 2 { resp := [77, 78], mark := true, held := [5] } up) : State) 2 = false)
      ∧ ((0x7 : Word).getLsbD 0 = true)
      ∧ ((0x7 : Word).getLsbD 1 = true)
      ∧ ((0x7 : Word).getLsbD 2 = true))
    ∧ ((((up |> setF F.keepGzCtrl_seq_err 2 1) : State).start.testHeld = false)
      ∧ (domOn ((up |> setF F.keepGzCtrl_seq_err 2 1) : State) 1 = true)
      ∧ ((0x200 : Word).getLsbD 9 = true)
      ∧ (fieldOf (0x200 : Word) 3 0 = 0))
    ∧ ((up.start.testHeld = false)
      ∧ (domOn up 1 = true)
      ∧ (((9 : Byte) ≠ 1
      ∧ (9 : Byte) ≠ 2
      ∧ (9 : Byte) ≠ 3
      ∧ (9 : Byte) ≠ 4) ∨ (((9 : Byte) = 3 ∨ (9 : Byte) = 4)
      ∧ (1 : Byte) ≠ 0
      ∧ (1 : Byte) ≠ 1)))
    ∧ ((wakesAtOnce 1 ((up |> setF F.keepPwrState_state 1 1) : State) = true)
      ∧ (domState ((up |> setF F.keepPwrState_state 1 1) : State) 1 = 1))
    ∧ (domOn up 1 = true) := by
  refine ⟨?_, ?_, ?_, ?_, ?_, ?_, ?_, ?_⟩
  all_goals decide +kernel

theorem meets_CommandsAreTakenInTurn :
    (((lane ((setLane 0 { ready := some [0x07000FFF] } (setLane 1 { ready := some [0x07000FFF] } up)) : State) 0).cmd = [])
      ∧ ((lane ((setLane 0 { ready := some [0x07000FFF] } (setLane 1 { ready := some [0x07000FFF] } up)) : State) 1).cmd = [])
      ∧ ((lane ((setLane 0 { ready := some [0x07000FFF] } (setLane 1 { ready := some [0x07000FFF] } up)) : State) 2).cmd = [])
      ∧ ((lane ((setLane 0 { ready := some [0x07000FFF] } (setLane 1 { ready := some [0x07000FFF] } up)) : State) 3).cmd = [])
      ∧ (domOn ((setLane 0 { ready := some [0x07000FFF] } (setLane 1 { ready := some [0x07000FFF] } up)) : State) 1 = true)
      ∧ ([(((setLane 0 { ready := some [0x07000FFF] } (setLane 1 { ready := some [0x07000FFF] } up)) : State).lastLane + 1) % 4, (((setLane 0 { ready := some [0x07000FFF] } (setLane 1 { ready := some [0x07000FFF] } up)) : State).lastLane + 2) % 4, (((setLane 0 { ready := some [0x07000FFF] } (setLane 1 { ready := some [0x07000FFF] } up)) : State).lastLane + 3) % 4, (((setLane 0 { ready := some [0x07000FFF] } (setLane 1 { ready := some [0x07000FFF] } up)) : State).lastLane + 4) % 4].find? (canStart ((setLane 0 { ready := some [0x07000FFF] } (setLane 1 { ready := some [0x07000FFF] } up)) : State)) = some (0 : Fin 4).val)
      ∧ ((lane ((setLane 0 { ready := some [0x07000FFF] } (setLane 1 { ready := some [0x07000FFF] } up)) : State) (0 : Fin 4)).ready = some ([0x07000FFF] : List Word))
      ∧ (wAt ([0x07000FFF] : List Word) 0 = (0x07000FFF : Word))
      ∧ (([0x07000FFF] : List Word).length = fieldOf (0x07000FFF : Word) 23 16 + 1)
      ∧ (bodyOf (fieldOf (0x07000FFF : Word) 15 0) = none)
      ∧ ((lane ((setLane 0 { ready := some [0x07000FFF] } (setLane 1 { ready := some [0x07000FFF] } up)) : State) (0 : Fin 4)).errDue = false))
    ∧ (((lane ((setLane 0 { ready := some [0x07030103, 5] } up) : State) 0).cmd = [])
      ∧ ((lane ((setLane 0 { ready := some [0x07030103, 5] } up) : State) 1).cmd = [])
      ∧ ((lane ((setLane 0 { ready := some [0x07030103, 5] } up) : State) 2).cmd = [])
      ∧ ((lane ((setLane 0 { ready := some [0x07030103, 5] } up) : State) 3).cmd = [])
      ∧ (domOn ((setLane 0 { ready := some [0x07030103, 5] } up) : State) 1 = true)
      ∧ ([(((setLane 0 { ready := some [0x07030103, 5] } up) : State).lastLane + 1) % 4, (((setLane 0 { ready := some [0x07030103, 5] } up) : State).lastLane + 2) % 4, (((setLane 0 { ready := some [0x07030103, 5] } up) : State).lastLane + 3) % 4, (((setLane 0 { ready := some [0x07030103, 5] } up) : State).lastLane + 4) % 4].find? (canStart ((setLane 0 { ready := some [0x07030103, 5] } up) : State)) = some (0 : Fin 4).val)
      ∧ ((lane ((setLane 0 { ready := some [0x07030103, 5] } up) : State) (0 : Fin 4)).ready = some ([0x07030103, 5] : List Word))
      ∧ (wAt ([0x07030103, 5] : List Word) 0 = (0x07030103 : Word))
      ∧ (([0x07030103, 5] : List Word).length ≠ fieldOf (0x07030103 : Word) 23 16 + 1)
      ∧ ((lane ((setLane 0 { ready := some [0x07030103, 5] } up) : State) (0 : Fin 4)).errDue = false))
    ∧ (((lane ((setLane 0 { ready := some [0x07030103, 5, 6, 7] } up) : State) 0).cmd = [])
      ∧ ((lane ((setLane 0 { ready := some [0x07030103, 5, 6, 7] } up) : State) 1).cmd = [])
      ∧ ((lane ((setLane 0 { ready := some [0x07030103, 5, 6, 7] } up) : State) 2).cmd = [])
      ∧ ((lane ((setLane 0 { ready := some [0x07030103, 5, 6, 7] } up) : State) 3).cmd = [])
      ∧ (domOn ((setLane 0 { ready := some [0x07030103, 5, 6, 7] } up) : State) 1 = true)
      ∧ ([(((setLane 0 { ready := some [0x07030103, 5, 6, 7] } up) : State).lastLane + 1) % 4, (((setLane 0 { ready := some [0x07030103, 5, 6, 7] } up) : State).lastLane + 2) % 4, (((setLane 0 { ready := some [0x07030103, 5, 6, 7] } up) : State).lastLane + 3) % 4, (((setLane 0 { ready := some [0x07030103, 5, 6, 7] } up) : State).lastLane + 4) % 4].find? (canStart ((setLane 0 { ready := some [0x07030103, 5, 6, 7] } up) : State)) = some (0 : Fin 4).val)
      ∧ ((lane ((setLane 0 { ready := some [0x07030103, 5, 6, 7] } up) : State) (0 : Fin 4)).ready = some ((0x07030103 : Word) :: ([5, 6, 7] : List Word)))
      ∧ (fieldOf (0x07030103 : Word) 15 0 = 0x0103)
      ∧ (([5, 6, 7] : List Word).length = fieldOf (0x07030103 : Word) 23 16)
      ∧ (judge (0 : Fin 4) 0x0103 ([5, 6, 7] : List Word).length ((setLane 0 { ready := some [0x07030103, 5, 6, 7] } up) : State) = none)
      ∧ ((lane ((setLane 0 { ready := some [0x07030103, 5, 6, 7] } up) : State) (0 : Fin 4)).errDue = false))
    ∧ (((lane up 0).cmd = [])
      ∧ ((lane up 1).cmd = [])
      ∧ ((lane up 2).cmd = [])
      ∧ ((lane up 3).cmd = [])
      ∧ (canStart up 0 = false)
      ∧ (canStart up 1 = false)
      ∧ (canStart up 2 = false)
      ∧ (canStart up 3 = false)) := by
  refine ⟨?_, ?_, ?_, ?_⟩
  all_goals decide +kernel

theorem meets_RegistersAndPinsAnswer :
    ((up.start.testHeld = false)
      ∧ (pcieUsed up = true)
      ∧ (getB F.netPcieStatus_link_up 0 up = true))
    ∧ (((0 : Fin 32).val < 8 ∨ (12 ≤ (0 : Fin 32).val
      ∧ (0 : Fin 32).val < 16))
      ∧ ((0 : Fin 32).val % 4 = 0)
      ∧ (up.start.testHeld = false)
      ∧ (pcieUsed up = true)
      ∧ (getB F.netPcieStatus_link_up 0 up = true))
    ∧ (((0x4D80 : Nat) < 0x1000000)
      ∧ ((3 : Fin 16).val ≠ 15 ∨ (0x4D80 : Nat) % 4 ≠ 0))
    ∧ (0x1000000 ≤ (0x1000000 : Nat))
    ∧ ((((up |> setF F.keepGpioEdge_edge 0 0x00AAAA) : State).start.testHeld = false)
      ∧ (pcieUsed ((up |> setF F.keepGpioEdge_edge 0 0x00AAAA) : State) = true)
      ∧ (getB F.netPcieStatus_link_up 0 ((up |> setF F.keepGpioEdge_edge 0 0x00AAAA) : State) = true)
      ∧ (domOn ((up |> setF F.keepGpioEdge_edge 0 0x00AAAA) : State) 1 = true))
    ∧ ((((up |> setF F.keepGzOvr_overruns 1 3 |> setF F.keepGzOvr_empty_reads 1 4) : State).start.testHeld = false)
      ∧ (pcieUsed ((up |> setF F.keepGzOvr_overruns 1 3 |> setF F.keepGzOvr_empty_reads 1 4) : State) = true)
      ∧ (getB F.netPcieStatus_link_up 0 ((up |> setF F.keepGzOvr_overruns 1 3 |> setF F.keepGzOvr_empty_reads 1 4) : State) = true)
      ∧ (domOn ((up |> setF F.keepGzOvr_overruns 1 3 |> setF F.keepGzOvr_empty_reads 1 4) : State) 1 = true))
    ∧ ((((up |> setF F.keepSpineCntAge_age_grant 0 9) : State).start.testHeld = false)
      ∧ (pcieUsed ((up |> setF F.keepSpineCntAge_age_grant 0 9) : State) = true)
      ∧ (getB F.netPcieStatus_link_up 0 ((up |> setF F.keepSpineCntAge_age_grant 0 9) : State) = true)
      ∧ (domOn ((up |> setF F.keepSpineCntAge_age_grant 0 9) : State) 1 = true))
    ∧ (((12 : Fin 32).val / 4 = 3 ∨ (12 : Fin 32).val / 4 = 7)
      ∧ (up.start.testHeld = false)
      ∧ (pcieUsed up = true)
      ∧ (getB F.netPcieStatus_link_up 0 up = true))
    ∧ ((({ up with time := { up.time with ns := 0x123456789A, latch := [(0x4C04, 5)] } } : State).start.testHeld = false)
      ∧ (pcieUsed ({ up with time := { up.time with ns := 0x123456789A, latch := [(0x4C04, 5)] } } : State) = true)
      ∧ (getB F.netPcieStatus_link_up 0 ({ up with time := { up.time with ns := 0x123456789A, latch := [(0x4C04, 5)] } } : State) = true)
      ∧ (domOn ({ up with time := { up.time with ns := 0x123456789A, latch := [(0x4C04, 5)] } } : State) 1 = true))
    ∧ (domOn ((up |> setF F.keepGpioOut_out 0 0x000033) : State) 1 = true)
    ∧ ((ballDrives ((up |> setF F.keepGpioOe_oe 0 0x40) : State) (5 : Fin 24) = none)
      ∧ (bitOf (getF F.keepGpioIn_in 0 ((up |> setF F.keepGpioOe_oe 0 0x40) : State)) (5 : Fin 24) ≠ true)
      ∧ (domOn ((up |> setF F.keepGpioOe_oe 0 0x40) : State) 1 = true)
      ∧ (getB F.keepPwrSupply_io33_low 0 ((up |> setF F.keepGpioOe_oe 0 0x40) : State) = false))
    ∧ ((ballDrives ((up |> setF F.keepGpioOe_oe 0 0x20) : State) (5 : Fin 24)).isSome = true) := by
  refine ⟨?_, ?_, ?_, ?_, ?_, ?_, ?_, ?_, ?_, ?_, ?_, ?_⟩
  all_goals decide +kernel

theorem meets_PortsKeepTheirSynthesisers :
    ((portRuns ((air |> setF F.airRfStatus_gain_index 1 12 |> setRf 1 { downAt := some 5 } |> elapse 30000) : State) (1 : Fin 3) = true)
      ∧ (paramF ((air |> setF F.airRfStatus_gain_index 1 12 |> setRf 1 { downAt := some 5 } |> elapse 30000) : State) 0x0404 (1 : Fin 3) 1 2 2 = 0)
      ∧ (4 < (5 : Nat))
      ∧ ((∀ x, (rf ((air |> setF F.airRfStatus_gain_index 1 12 |> setRf 1 { downAt := some 5 } |> elapse 30000) : State) (1 : Fin 3)).downAt = some x → x + 20000 ≤ ((air |> setF F.airRfStatus_gain_index 1 12 |> setRf 1 { downAt := some 5 } |> elapse 30000) : State).now))
      ∧ (1 ≤ getF F.airRfStatus_gain_index (1 : Fin 3) ((air |> setF F.airRfStatus_gain_index 1 12 |> setRf 1 { downAt := some 5 } |> elapse 30000) : State))
      ∧ (getF F.airRfStatus_gain_index (1 : Fin 3) ((air |> setF F.airRfStatus_gain_index 1 12 |> setRf 1 { downAt := some 5 } |> elapse 30000) : State) ≤ 19))
    ∧ ((portRuns ((air |> setF F.airRfStatus_gain_index 1 12) : State) (1 : Fin 3) = true)
      ∧ (paramF ((air |> setF F.airRfStatus_gain_index 1 12) : State) 0x0404 (1 : Fin 3) 1 2 2 = 0)
      ∧ (10000000 ≤ (10000000 : Nat))
      ∧ ((∀ x, (rf ((air |> setF F.airRfStatus_gain_index 1 12) : State) (1 : Fin 3)).upAt = some x → x + 10000000 ≤ ((air |> setF F.airRfStatus_gain_index 1 12) : State).now))
      ∧ (getF F.airRfStatus_gain_index (1 : Fin 3) ((air |> setF F.airRfStatus_gain_index 1 12) : State) < 19))
    ∧ ((portRuns ((air |> setRf 1 { hasCal := true, calTemp := 250, pendAt := 3 } |> cfg 0x0401 1 [BitVec.ofNat 32 (1 + 6 * 256), 915900, 0, 1]) : State) (1 : Fin 3) = true)
      ∧ ((rf ((air |> setRf 1 { hasCal := true, calTemp := 250, pendAt := 3 } |> cfg 0x0401 1 [BitVec.ofNat 32 (1 + 6 * 256), 915900, 0, 1]) : State) (1 : Fin 3)).hasCal = true))
    ∧ ((portRuns ((air |> setF F.airRfStatus_cal_pending 1 1 |> setRf 1 { temp := 312, calTemp := 250, pendAt := 3 }) : State) (1 : Fin 3) = true)
      ∧ (getB F.airRfStatus_cal_pending (1 : Fin 3) ((air |> setF F.airRfStatus_cal_pending 1 1 |> setRf 1 { temp := 312, calTemp := 250, pendAt := 3 }) : State) = true)
      ∧ (getF F.airRfStatus_cal_forced (1 : Fin 3) ((air |> setF F.airRfStatus_cal_pending 1 1 |> setRf 1 { temp := 312, calTemp := 250, pendAt := 3 }) : State) = 0))
    ∧ ((portRuns ((air |> setF F.airRfStatus_cal_forced 1 1 |> setF F.airRfStatus_cal_pending 1 1 |> setRf 1 { announced := 1000000 }) : State) (1 : Fin 3) = true)
      ∧ (getB F.airRfStatus_cal_forced (1 : Fin 3) ((air |> setF F.airRfStatus_cal_forced 1 1 |> setF F.airRfStatus_cal_pending 1 1 |> setRf 1 { announced := 1000000 }) : State) = true)
      ∧ (getF F.airRfStatus_synth (1 : Fin 3) ((air |> setF F.airRfStatus_cal_forced 1 1 |> setF F.airRfStatus_cal_pending 1 1 |> setRf 1 { announced := 1000000 }) : State) = 0)
      ∧ ((rf ((air |> setF F.airRfStatus_cal_forced 1 1 |> setF F.airRfStatus_cal_pending 1 1 |> setRf 1 { announced := 1000000 }) : State) (1 : Fin 3)).searching = false)
      ∧ (portOnAir ((air |> setF F.airRfStatus_cal_forced 1 1 |> setF F.airRfStatus_cal_pending 1 1 |> setRf 1 { announced := 1000000 }) : State) (1 : Fin 3) = false))
    ∧ ((portRuns ((air |> setF F.airRfStatus_cal_pending 1 1 |> elapse 5000000) : State) (1 : Fin 3) = true)
      ∧ (getB F.airRfStatus_cal_forced (1 : Fin 3) ((air |> setF F.airRfStatus_cal_pending 1 1 |> elapse 5000000) : State) = false)
      ∧ (getB F.airRfStatus_cal_pending (1 : Fin 3) ((air |> setF F.airRfStatus_cal_pending 1 1 |> elapse 5000000) : State) = true)
      ∧ ((rf ((air |> setF F.airRfStatus_cal_pending 1 1 |> elapse 5000000) : State) (1 : Fin 3)).forceCal = false)
      ∧ (gapOf ((air |> setF F.airRfStatus_cal_pending 1 1 |> elapse 5000000) : State) (1 : Fin 3) = some ((5000000, 640000000) : Nat × Nat))
      ∧ (getF F.airRfStatus_synth (1 : Fin 3) ((air |> setF F.airRfStatus_cal_pending 1 1 |> elapse 5000000) : State) = 0)
      ∧ ((rf ((air |> setF F.airRfStatus_cal_pending 1 1 |> elapse 5000000) : State) (1 : Fin 3)).searching = false)
      ∧ (portOnAir ((air |> setF F.airRfStatus_cal_pending 1 1 |> elapse 5000000) : State) (1 : Fin 3) = false))
    ∧ ((portRuns ((air |> setF F.airRfStatus_synth 1 2 |> setRf 1 { hasCal := true, calTemp := 250 }) : State) (1 : Fin 3) = true)
      ∧ (getF F.airRfStatus_synth (1 : Fin 3) ((air |> setF F.airRfStatus_synth 1 2 |> setRf 1 { hasCal := true, calTemp := 250 }) : State) = 2))
    ∧ ((portRuns ((setEm 2 { em air 2 with tx := some { tx2 0 0 with kind := 0 } } air |> setF F.airRfStatus_synth 1 1) : State) (1 : Fin 3) = true)
      ∧ (getF F.airRfStatus_synth (1 : Fin 3) ((setEm 2 { em air 2 with tx := some { tx2 0 0 with kind := 0 } } air |> setF F.airRfStatus_synth 1 1) : State) = 1)
      ∧ (emBound ((setEm 2 { em air 2 with tx := some { tx2 0 0 with kind := 0 } } air |> setF F.airRfStatus_synth 1 1) : State) (2 : Fin 8) = true)
      ∧ (emPort ((setEm 2 { em air 2 with tx := some { tx2 0 0 with kind := 0 } } air |> setF F.airRfStatus_synth 1 1) : State) (2 : Fin 8) = (1 : Fin 3).val)
      ∧ ((em ((setEm 2 { em air 2 with tx := some { tx2 0 0 with kind := 0 } } air |> setF F.airRfStatus_synth 1 1) : State) (2 : Fin 8)).tx = some ({ tx2 0 0 with kind := 0 } : Tx))
      ∧ (({ tx2 0 0 with kind := 0 } : Tx).phase = 0))
    ∧ ((portRuns ((air |> setF F.airRfStatus_synth 1 2 |> setRf 1 { lockDue := 1200000 }) : State) (1 : Fin 3) = true)
      ∧ (getF F.airRfStatus_synth (1 : Fin 3) ((air |> setF F.airRfStatus_synth 1 2 |> setRf 1 { lockDue := 1200000 }) : State) = 1 ∨ getF F.airRfStatus_synth (1 : Fin 3) ((air |> setF F.airRfStatus_synth 1 2 |> setRf 1 { lockDue := 1200000 }) : State) = 2)
      ∧ ((rf ((air |> setF F.airRfStatus_synth 1 2 |> setRf 1 { lockDue := 1200000 }) : State) (1 : Fin 3)).retried = false))
    ∧ ((portRuns ((air |> setF F.airRfStatus_synth 1 2 |> setRf 1 { lockDue := 1200000, retried := true }) : State) (1 : Fin 3) = true)
      ∧ (getF F.airRfStatus_synth (1 : Fin 3) ((air |> setF F.airRfStatus_synth 1 2 |> setRf 1 { lockDue := 1200000, retried := true }) : State) = 1 ∨ getF F.airRfStatus_synth (1 : Fin 3) ((air |> setF F.airRfStatus_synth 1 2 |> setRf 1 { lockDue := 1200000, retried := true }) : State) = 2)
      ∧ ((rf ((air |> setF F.airRfStatus_synth 1 2 |> setRf 1 { lockDue := 1200000, retried := true }) : State) (1 : Fin 3)).retried = true)
      ∧ (testQueue (testBlock 7 (1 : Fin 3)) ((air |> setF F.airRfStatus_synth 1 2 |> setRf 1 { lockDue := 1200000, retried := true }) : State) = []))
    ∧ ((portRuns ((setEm 2 { em air 2 with tx := some (tx2 0 4) } air |> setF F.airTxEmStatus_on_air 2 1 |> setF F.airRfStatus_cal_pending 1 1) : State) (1 : Fin 3) = true)
      ∧ (getF F.airRfStatus_synth (1 : Fin 3) ((setEm 2 { em air 2 with tx := some (tx2 0 4) } air |> setF F.airTxEmStatus_on_air 2 1 |> setF F.airRfStatus_cal_pending 1 1) : State) = 0)) := by
  refine ⟨?_, ?_, ?_, ?_, ?_, ?_, ?_, ?_, ?_, ?_, ?_⟩
  all_goals decide +kernel

theorem meets_ReflectedPowerIsWatched :
    (((em ((onEm (tx2 0 4)) : State) (2 : Fin 8)).tx = some ((tx2 0 4) : Tx))
      ∧ (4 ≤ ((tx2 0 4) : Tx).phase)
      ∧ (100000 ≤ ((tx2 0 4) : Tx).air)
      ∧ ((250 : Nat) ≤ 300)
      ∧ (getB F.airRfStatus_vswr_backoff (emPort ((onEm (tx2 0 4)) : State) (2 : Fin 8)) ((onEm (tx2 0 4)) : State) = false)
      ∧ (getF F.airRfVswr_peak (emPort ((onEm (tx2 0 4)) : State) (2 : Fin 8)) ((onEm (tx2 0 4)) : State) < 2 ^ 16))
    ∧ (((em ((onEm (tx2 0 4) |> setF F.airRfStatus_vswr_backoff 1 1) : State) (2 : Fin 8)).tx = some ((tx2 0 4) : Tx))
      ∧ (4 ≤ ((tx2 0 4) : Tx).phase)
      ∧ (100000 ≤ ((tx2 0 4) : Tx).air)
      ∧ ((250 : Nat) ≤ 300)
      ∧ (getB F.airRfStatus_vswr_backoff (emPort ((onEm (tx2 0 4) |> setF F.airRfStatus_vswr_backoff 1 1) : State) (2 : Fin 8)) ((onEm (tx2 0 4) |> setF F.airRfStatus_vswr_backoff 1 1) : State) = true))
    ∧ (((em ((onEm (tx2 0 4)) : State) (2 : Fin 8)).tx = some ((tx2 0 4) : Tx))
      ∧ (4 ≤ ((tx2 0 4) : Tx).phase)
      ∧ (100000 ≤ ((tx2 0 4) : Tx).air)
      ∧ (300 < (342 : Nat))
      ∧ ((342 : Nat) ≤ 600)
      ∧ (tabFind ((onEm (tx2 0 4)) : State).evq.rate (Ev.airVswrHigh.1 * 65536 + emPort ((onEm (tx2 0 4)) : State) (2 : Fin 8)) = none)
      ∧ (((onEm (tx2 0 4)) : State).evq.q.length < 256))
    ∧ (((em ((onEm (tx2 0 4)) : State) (2 : Fin 8)).tx = some ((tx2 0 4) : Tx))
      ∧ (4 ≤ ((tx2 0 4) : Tx).phase)
      ∧ (100000 ≤ ((tx2 0 4) : Tx).air)
      ∧ (600 < (700 : Nat))
      ∧ (getB F.airRfStatus_vswr_backoff (emPort ((onEm (tx2 0 4)) : State) (2 : Fin 8)) ((onEm (tx2 0 4)) : State) = false))
    ∧ (((em ((onEm { tx2 0 4 with air := 99999 }) : State) (2 : Fin 8)).tx = some ({ tx2 0 4 with air := 99999 } : Tx))
      ∧ (({ tx2 0 4 with air := 99999 } : Tx).phase < 4 ∨ ({ tx2 0 4 with air := 99999 } : Tx).air < 100000))
    ∧ ((portRuns ((air |> setRf 1 { forceSearch := true } |> setF F.airRfLo_match_series 1 12 |> setF F.airRfLo_match_shunt 1 9) : State) (1 : Fin 3) = true)
      ∧ (getF F.airRfStatus_synth (1 : Fin 3) ((air |> setRf 1 { forceSearch := true } |> setF F.airRfLo_match_series 1 12 |> setF F.airRfLo_match_shunt 1 9) : State) = 0)
      ∧ (txOpen ((air |> setRf 1 { forceSearch := true } |> setF F.airRfLo_match_series 1 12 |> setF F.airRfLo_match_shunt 1 9) : State) = true)
      ∧ (deferring ((air |> setRf 1 { forceSearch := true } |> setF F.airRfLo_match_series 1 12 |> setF F.airRfLo_match_shunt 1 9) : State) = false)
      ∧ (portOnAir ((air |> setRf 1 { forceSearch := true } |> setF F.airRfLo_match_series 1 12 |> setF F.airRfLo_match_shunt 1 9) : State) (1 : Fin 3) = false)
      ∧ ((rf ((air |> setRf 1 { forceSearch := true } |> setF F.airRfLo_match_series 1 12 |> setF F.airRfLo_match_shunt 1 9) : State) (1 : Fin 3)).forceSearch = true)
      ∧ (getB F.airRfStatus_vswr_backoff (1 : Fin 3) ((air |> setRf 1 { forceSearch := true } |> setF F.airRfLo_match_series 1 12 |> setF F.airRfLo_match_shunt 1 9) : State) = false)
      ∧ (((searchPasses [0, 1] 4 ⟨(12, 9, 0), 342, [400, 300, 310, 290, 250], 1, false⟩) : Search) = searchPasses (if extTuner ((air |> setRf 1 { forceSearch := true } |> setF F.airRfLo_match_series 1 12 |> setF F.airRfLo_match_shunt 1 9) : State) (1 : Fin 3) then [0, 1, 2] else [0, 1]) 4 ⟨(getF F.airRfLo_match_series (1 : Fin 3) ((air |> setRf 1 { forceSearch := true } |> setF F.airRfLo_match_series 1 12 |> setF F.airRfLo_match_shunt 1 9) : State), getF F.airRfLo_match_shunt (1 : Fin 3) ((air |> setRf 1 { forceSearch := true } |> setF F.airRfLo_match_series 1 12 |> setF F.airRfLo_match_shunt 1 9) : State), (rf ((air |> setRf 1 { forceSearch := true } |> setF F.airRfLo_match_series 1 12 |> setF F.airRfLo_match_shunt 1 9) : State) (1 : Fin 3)).extState), min (([342, 400, 300, 310, 290, 250] : List Nat).headD 0) 65535, ([342, 400, 300, 310, 290, 250] : List Nat).drop 1, 1, false⟩))
    ∧ (((em ((setEm 2 { em air 2 with tx := some (tx2 4 4), tone := some { lane := some 0, durMs := 7, offset := 0, power := 20, stage := 2 } } air) : State) (2 : Fin 8)).tone = some ({ lane := some 0, durMs := 7, offset := 0, power := 20, stage := 2 } : Tone))
      ∧ (({ lane := some 0, durMs := 7, offset := 0, power := 20, stage := 2 } : Tone).stage = 2)
      ∧ ((em ((setEm 2 { em air 2 with tx := some (tx2 4 4), tone := some { lane := some 0, durMs := 7, offset := 0, power := 20, stage := 2 } } air) : State) (2 : Fin 8)).tx = some ((tx2 4 4) : Tx))
      ∧ (((tx2 4 4) : Tx).kind = 4)
      ∧ (((tx2 4 4) : Tx).phase = 4)) := by
  refine ⟨?_, ?_, ?_, ?_, ?_, ?_, ?_⟩
  all_goals decide +kernel

theorem meets_FaultsAreTestedAndClassified :
    (((6 : Fin 10).val < 8)
      ∧ ((6 : Fin 10).val ≠ 1)
      ∧ ((.corrected : ErrKind) ≠ .uncorrectable)
      ∧ ((6 : Fin 10).val ≠ 2 ∨ rowsUsed up ((3 : Nat) / 1024) < 4)
      ∧ ((elemDomain (6 : Fin 10) (3 : Nat)).all (domOn up) = true)
      ∧ (testQueue (testBlock (6 : Fin 10) (3 : Nat)) up = ([] : List TestSt))
      ∧ (([] : List TestSt).length < 8)
      ∧ (([] : List TestSt).all (fun x => x.kind != (6 : Fin 10).val || x.index != (3 : Nat)) = true))
    ∧ (((6 : Fin 10).val < 8)
      ∧ ((6 : Fin 10).val ≠ 1)
      ∧ ((.corrected : ErrKind) ≠ .uncorrectable)
      ∧ ((⟨6, 2, 3, 5, false⟩ : TestSt) ∈ testQueue (testBlock (6 : Fin 10) (3 : Nat)) ((setTestQueue 0x500 [⟨6, 2, 3, 5, false⟩] up) : State))
      ∧ ((⟨6, 2, 3, 5, false⟩ : TestSt).kind = (6 : Fin 10).val)
      ∧ ((⟨6, 2, 3, 5, false⟩ : TestSt).index = (3 : Nat)))
    ∧ (((3 : Fin 10).val < 8)
      ∧ ((3 : Fin 10).val ≠ 1)
      ∧ ((.corrected : ErrKind) ≠ .uncorrectable)
      ∧ ((3 : Fin 10).val ≠ 2 ∨ rowsUsed ((setTestQueue 0x200 [⟨3, 2, 10, 5, true⟩, ⟨3, 2, 11, 5, false⟩, ⟨3, 2, 12, 5, false⟩, ⟨3, 2, 13, 5, false⟩, ⟨3, 2, 14, 5, false⟩, ⟨3, 2, 15, 5, false⟩, ⟨3, 2, 16, 5, false⟩, ⟨3, 2, 17, 5, false⟩] up) : State) ((3 : Nat) / 1024) < 4)
      ∧ ((testQueue (testBlock (3 : Fin 10) (3 : Nat)) ((setTestQueue 0x200 [⟨3, 2, 10, 5, true⟩, ⟨3, 2, 11, 5, false⟩, ⟨3, 2, 12, 5, false⟩, ⟨3, 2, 13, 5, false⟩, ⟨3, 2, 14, 5, false⟩, ⟨3, 2, 15, 5, false⟩, ⟨3, 2, 16, 5, false⟩, ⟨3, 2, 17, 5, false⟩] up) : State)).length = 8)
      ∧ ((testQueue (testBlock (3 : Fin 10) (3 : Nat)) ((setTestQueue 0x200 [⟨3, 2, 10, 5, true⟩, ⟨3, 2, 11, 5, false⟩, ⟨3, 2, 12, 5, false⟩, ⟨3, 2, 13, 5, false⟩, ⟨3, 2, 14, 5, false⟩, ⟨3, 2, 15, 5, false⟩, ⟨3, 2, 16, 5, false⟩, ⟨3, 2, 17, 5, false⟩] up) : State)).all (fun x => x.kind != (3 : Fin 10).val || x.index != (3 : Nat)) = true)
      ∧ (domOn ((setTestQueue 0x200 [⟨3, 2, 10, 5, true⟩, ⟨3, 2, 11, 5, false⟩, ⟨3, 2, 12, 5, false⟩, ⟨3, 2, 13, 5, false⟩, ⟨3, 2, 14, 5, false⟩, ⟨3, 2, 15, 5, false⟩, ⟨3, 2, 16, 5, false⟩, ⟨3, 2, 17, 5, false⟩] up) : State) 2 = true))
    ∧ ((testQueue (testBlock (0 : Fin 10) (19 : Nat)) ((setTestQueue 1 [⟨0, 3, 19, 5, false⟩] up) : State) = (⟨0, 3, 19, 5, false⟩ : TestSt) :: ([] : List TestSt))
      ∧ ((⟨0, 3, 19, 5, false⟩ : TestSt).running = false)
      ∧ ((⟨0, 3, 19, 5, false⟩ : TestSt).kind = (0 : Fin 10).val)
      ∧ ((⟨0, 3, 19, 5, false⟩ : TestSt).index = (19 : Nat))
      ∧ (holdsOperation ((setTestQueue 1 [⟨0, 3, 19, 5, false⟩] up) : State) (0 : Fin 10) (19 : Nat) = false))
    ∧ ((testQueue (testBlock (0 : Fin 10) (18 : Nat)) ((setTestQueue 1 [⟨0, 3, 18, 5, false⟩] (held { c0 := some (rx none 5) } 2 0 air)) : State) = (⟨0, 3, 18, 5, false⟩ : TestSt) :: ([] : List TestSt))
      ∧ ((⟨0, 3, 18, 5, false⟩ : TestSt).running = false)
      ∧ ((⟨0, 3, 18, 5, false⟩ : TestSt).kind = (0 : Fin 10).val)
      ∧ ((⟨0, 3, 18, 5, false⟩ : TestSt).index = (18 : Nat))
      ∧ (holdsOperation ((setTestQueue 1 [⟨0, 3, 18, 5, false⟩] (held { c0 := some (rx none 5) } 2 0 air)) : State) (0 : Fin 10) (18 : Nat) = true))
    ∧ ((testQueue (testBlock (2 : Fin 10) (70000 : Nat)) ((setTestQueue (0x10000 + 68) [⟨2, 3, 70000, 5, true⟩, ⟨2, 3, 70001, 6, false⟩] up) : State) = (⟨2, 3, 70000, 5, true⟩ : TestSt) :: ([⟨2, 3, 70001, 6, false⟩] : List TestSt))
      ∧ ((⟨2, 3, 70000, 5, true⟩ : TestSt).running = true)
      ∧ ((⟨2, 3, 70000, 5, true⟩ : TestSt).kind = (2 : Fin 10).val)
      ∧ ((⟨2, 3, 70000, 5, true⟩ : TestSt).index = (70000 : Nat))
      ∧ ((2 : Fin 10).val ≠ 5)
      ∧ ((2 : Fin 10).val ≠ 7))
    ∧ ((testQueue (testBlock 2 (70000 : Nat)) ((setTestQueue (0x10000 + 68) [⟨2, 3, 70000, 5, true⟩] up) : State) = (⟨2, 3, 70000, 5, true⟩ : TestSt) :: ([] : List TestSt))
      ∧ ((⟨2, 3, 70000, 5, true⟩ : TestSt).running = true)
      ∧ ((⟨2, 3, 70000, 5, true⟩ : TestSt).kind = 2)
      ∧ ((⟨2, 3, 70000, 5, true⟩ : TestSt).index = (70000 : Nat))
      ∧ (domOn ((setTestQueue (0x10000 + 68) [⟨2, 3, 70000, 5, true⟩] up) : State) 2 = true)
      ∧ (((setTestQueue (0x10000 + 68) [⟨2, 3, 70000, 5, true⟩] up) : State).evq.q.length < 255))
    ∧ (((19 : Nat) < 128)
      ∧ (testQueue (testBlock 0 (19 : Nat)) ((setTestQueue 1 [⟨0, 3, 19, 5, true⟩] up) : State) = (⟨0, 3, 19, 5, true⟩ : TestSt) :: ([] : List TestSt))
      ∧ ((⟨0, 3, 19, 5, true⟩ : TestSt).running = true)
      ∧ ((⟨0, 3, 19, 5, true⟩ : TestSt).kind = 0)
      ∧ ((⟨0, 3, 19, 5, true⟩ : TestSt).index = (19 : Nat))
      ∧ (domOn ((setTestQueue 1 [⟨0, 3, 19, 5, true⟩] up) : State) 2 = true)
      ∧ (((setTestQueue 1 [⟨0, 3, 19, 5, true⟩] up) : State).evq.q.length < 255)
      ∧ (getF F.airLbStatus_spares_used ((19 : Nat) / 16) ((setTestQueue 1 [⟨0, 3, 19, 5, true⟩] up) : State) < 2))
    ∧ ((serving up = true)
      ∧ (3 ≤ (4 : Fin 26).val)
      ∧ (elemDomain (7 : Fin 10) (1 : Nat) = some (4 : Fin 26).val)
      ∧ (domPresent up (4 : Fin 26) = true)
      ∧ (domState up (4 : Fin 26) ≠ 3)
      ∧ (domOn up 2 = true)
      ∧ ((7 : Fin 10).val ≠ 2))
    ∧ ((serving up = true)
      ∧ (3 ≤ (4 : Fin 26).val)
      ∧ (elemDomain (7 : Fin 10) (1 : Nat) = some (4 : Fin 26).val)
      ∧ (domPresent up (4 : Fin 26) = true)
      ∧ (domState up (4 : Fin 26) ≠ 3)
      ∧ (domOn up 2 = true)
      ∧ ((7 : Fin 10).val ≠ 2)
      ∧ (depsOn (4 : Fin 26) up = true)
      ∧ (deferring up = false)
      ∧ (railsHold up (4 : Fin 26) = false)
      ∧ (up.pwr.refLost = false))
    ∧ ((serving ((setLane 1 { testCmd := true } up) : State) = true)
      ∧ (lanePresent ((setLane 1 { testCmd := true } up) : State) (1 : Fin 4) = true)
      ∧ ((lane ((setLane 1 { testCmd := true } up) : State) (1 : Fin 4)).testCmd = true)
      ∧ ((lane ((setLane 1 { testCmd := true } up) : State) (1 : Fin 4)).cmd = [])
      ∧ ((lane ((setLane 1 { testCmd := true } up) : State) (1 : Fin 4)).ex = none)
      ∧ ((lane ((setLane 1 { testCmd := true } up) : State) (1 : Fin 4)).badCmd ≤ 2))
    ∧ ((serving ((setLane 1 { testCmd := true, badCmd := 1 } up) : State) = true)
      ∧ (lanePresent ((setLane 1 { testCmd := true, badCmd := 1 } up) : State) (1 : Fin 4) = true)
      ∧ ((lane ((setLane 1 { testCmd := true, badCmd := 1 } up) : State) (1 : Fin 4)).testCmd = true)
      ∧ ((lane ((setLane 1 { testCmd := true, badCmd := 1 } up) : State) (1 : Fin 4)).cmd = [])
      ∧ ((lane ((setLane 1 { testCmd := true, badCmd := 1 } up) : State) (1 : Fin 4)).ex = none)
      ∧ (0 < (2 : Nat))
      ∧ (2 < (lane ((setLane 1 { testCmd := true, badCmd := 1 } up) : State) (1 : Fin 4)).badCmd + (2 : Nat))) := by
  refine ⟨?_, ?_, ?_, ?_, ?_, ?_, ?_, ?_, ?_, ?_, ?_, ?_⟩
  all_goals decide +kernel

theorem meets_DueInstantsAreKept :
    ((((setLane 2 { ex := some { opcode := 0x0120, tag := 9 } } { up with cfg := { up.cfg with staged := [(cfgKey 0x0145 0, [5, 6])], dirty := true, owner := some 2, pending := some (2, 7) } }) : State).cfg.pending = some ((2 : Nat), (7 : Nat)))
      ∧ ((lane ((setLane 2 { ex := some { opcode := 0x0120, tag := 9 } } { up with cfg := { up.cfg with staged := [(cfgKey 0x0145 0, [5, 6])], dirty := true, owner := some 2, pending := some (2, 7) } }) : State) (2 : Nat)).ex = some ({ opcode := 0x0120, tag := 9 } : Exec))
      ∧ (({ opcode := 0x0120, tag := 9 } : Exec).opcode = 0x0120))
    ∧ ((({ up with cfg := { up.cfg with staged := [(cfgKey 0x0145 0, [5, 6])], dirty := true, owner := some 2 } } : State).cfg.pending = none)
      ∧ (({ up with cfg := { up.cfg with staged := [(cfgKey 0x0145 0, [5, 6])], dirty := true, owner := some 2 } } : State).torch.commit = none))
    ∧ (domOn ({ up with diag := { up.diag with seq := 41, lastLoc := 3, jseq := 12, fullKeep := 1000 } } : State) 2 = true)
    ∧ (((352 : Int) < -300
      ∧ (7 : Fin 16).val = 0) ∨ (1100 ≤ (352 : Int)
      ∧ (7 : Fin 16).val = 15) ∨ (1 ≤ (7 : Fin 16).val
      ∧ (7 : Fin 16).val ≤ 14 ∧ -400 + 100 * ((7 : Fin 16).val : Int) ≤ (352 : Int)
      ∧ (352 : Int) < -300 + 100 * ((7 : Fin 16).val : Int)))
    ∧ ((({ up with upd := { up.upd with staging := 3, act := some { lane := 1, pauseAt := 9000000, kinds := [2], image := false } }, cfg := { up.cfg with staged := [(cfgKey 0x0145 0, [5, 6])], dirty := true } } : State).upd.act = some ({ lane := 1, pauseAt := 9000000, kinds := [2], image := false } : Activation))
      ∧ (({ lane := 1, pauseAt := 9000000, kinds := [2], image := false } : Activation).began = none))
    ∧ ((((setLane 1 { ex := some { opcode := 0x0204, tag := 9 } } { up with upd := { up.upd with staging := 3, act := some { lane := 1, pauseAt := 9000000, kinds := [2], image := false, began := some (10000000, 60000) } }, pwr := { up.pwr with held := [15] } }) : State).upd.act = some ({ lane := 1, pauseAt := 9000000, kinds := [2], image := false, began := some (10000000, 60000) } : Activation))
      ∧ (({ lane := 1, pauseAt := 9000000, kinds := [2], image := false, began := some (10000000, 60000) } : Activation).began = some ((10000000 : Nat), (60000 : Nat)))
      ∧ (({ lane := 1, pauseAt := 9000000, kinds := [2], image := false, began := some (10000000, 60000) } : Activation).image = false)
      ∧ (({ lane := 1, pauseAt := 9000000, kinds := [2], image := false, began := some (10000000, 60000) } : Activation).lane ≤ 3)
      ∧ ((lane ((setLane 1 { ex := some { opcode := 0x0204, tag := 9 } } { up with upd := { up.upd with staging := 3, act := some { lane := 1, pauseAt := 9000000, kinds := [2], image := false, began := some (10000000, 60000) } }, pwr := { up.pwr with held := [15] } }) : State) ({ lane := 1, pauseAt := 9000000, kinds := [2], image := false, began := some (10000000, 60000) } : Activation).lane).ex = some ({ opcode := 0x0204, tag := 9 } : Exec))
      ∧ (({ opcode := 0x0204, tag := 9 } : Exec).dropped = false)
      ∧ ((lane ((setLane 1 { ex := some { opcode := 0x0204, tag := 9 } } { up with upd := { up.upd with staging := 3, act := some { lane := 1, pauseAt := 9000000, kinds := [2], image := false, began := some (10000000, 60000) } }, pwr := { up.pwr with held := [15] } }) : State) ({ lane := 1, pauseAt := 9000000, kinds := [2], image := false, began := some (10000000, 60000) } : Activation).lane).errDue = false))
    ∧ ((((setLane 1 { ex := some { opcode := 0x0204, tag := 9 } } { up with upd := { up.upd with staging := 3, act := some { lane := 1, pauseAt := 9000000, kinds := [2], image := false, began := some (10000000, 60000) } }, pwr := { up.pwr with held := [15] } }) : State).upd.act = some ({ lane := 1, pauseAt := 9000000, kinds := [2], image := false, began := some (10000000, 60000) } : Activation))
      ∧ (({ lane := 1, pauseAt := 9000000, kinds := [2], image := false, began := some (10000000, 60000) } : Activation).began = some ((10000000 : Nat), (60000 : Nat)))
      ∧ (({ lane := 1, pauseAt := 9000000, kinds := [2], image := false, began := some (10000000, 60000) } : Activation).image = false)
      ∧ (({ lane := 1, pauseAt := 9000000, kinds := [2], image := false, began := some (10000000, 60000) } : Activation).lane ≤ 3)
      ∧ ((lane ((setLane 1 { ex := some { opcode := 0x0204, tag := 9 } } { up with upd := { up.upd with staging := 3, act := some { lane := 1, pauseAt := 9000000, kinds := [2], image := false, began := some (10000000, 60000) } }, pwr := { up.pwr with held := [15] } }) : State) ({ lane := 1, pauseAt := 9000000, kinds := [2], image := false, began := some (10000000, 60000) } : Activation).lane).ex = some ({ opcode := 0x0204, tag := 9 } : Exec))
      ∧ (({ opcode := 0x0204, tag := 9 } : Exec).dropped = false)
      ∧ ((lane ((setLane 1 { ex := some { opcode := 0x0204, tag := 9 } } { up with upd := { up.upd with staging := 3, act := some { lane := 1, pauseAt := 9000000, kinds := [2], image := false, began := some (10000000, 60000) } }, pwr := { up.pwr with held := [15] } }) : State) ({ lane := 1, pauseAt := 9000000, kinds := [2], image := false, began := some (10000000, 60000) } : Activation).lane).errDue = false)
      ∧ (({ lane := 1, pauseAt := 9000000, kinds := [2], image := false, began := some (10000000, 60000) } : Activation).kinds.contains 2 = true))
    ∧ ((((setLane 0 { ex := some { opcode := 0x0204, tag := 9 } } { up with torch := { up.torch with pair := some { lane := 0, step := 4, since := 5 } } }) : State).torch.pair = some ({ lane := 0, step := 4, since := 5 } : PairSeq))
      ∧ (({ lane := 0, step := 4, since := 5 } : PairSeq).step = 4 ∨ ({ lane := 0, step := 4, since := 5 } : PairSeq).step = 5)
      ∧ ((lane ((setLane 0 { ex := some { opcode := 0x0204, tag := 9 } } { up with torch := { up.torch with pair := some { lane := 0, step := 4, since := 5 } } }) : State) ({ lane := 0, step := 4, since := 5 } : PairSeq).lane).ex = some ({ opcode := 0x0204, tag := 9 } : Exec))) := by
  refine ⟨?_, ?_, ?_, ?_, ?_, ?_, ?_, ?_⟩
  all_goals decide +kernel

theorem meets_SysResetResetsThePart :
    ((taken 0x0102 ({ lane := 1, tag := 7, words := [0x52530001] } : Goruz) up = true)
      ∧ (gw ({ lane := 1, tag := 7, words := [0x52530001] } : Goruz) 1 = 0x52530001))
    ∧ ((({ setLane 1 { resp := [5, 6] } up with now := 999999, start := { up.start with resetDue := some 1000000 } } : State).pending = [])
      ∧ (({ setLane 1 { resp := [5, 6] } up with now := 999999, start := { up.start with resetDue := some 1000000 } } : State).start.resetDue = some (1000000 : Nat))
      ∧ ((1000000 : Nat) ≤ ({ setLane 1 { resp := [5, 6] } up with now := 999999, start := { up.start with resetDue := some 1000000 } } : State).now + 1))
    ∧ ((({ lane := 3, tag := 7, words := [0x52530001] } : Goruz).lane.val = 3)
      ∧ (laneTakes ({ lane := 3, tag := 7, words := [0x52530001] } : Goruz) up = true)) := by
  refine ⟨?_, ?_, ?_⟩
  all_goals decide +kernel

theorem meets_ThePendingBitmapIsRead :
    ((mesh.start.testHeld = false)
      ∧ (pcieUsed mesh = true)
      ∧ (getB F.netPcieStatus_link_up 0 mesh = true)
      ∧ (domOn mesh 1 = true)
      ∧ (domPresent mesh 17 = true)
      ∧ (domOn mesh 17 = true)
      ∧ (gradeL mesh = false))
    ∧ ((({ mesh with fuse := { mesh.fuse with part := 0x08400112, net := 0x2027 } } : State).start.testHeld = false)
      ∧ (pcieUsed ({ mesh with fuse := { mesh.fuse with part := 0x08400112, net := 0x2027 } } : State) = true)
      ∧ (getB F.netPcieStatus_link_up 0 ({ mesh with fuse := { mesh.fuse with part := 0x08400112, net := 0x2027 } } : State) = true)
      ∧ (domOn ({ mesh with fuse := { mesh.fuse with part := 0x08400112, net := 0x2027 } } : State) 1 = true)
      ∧ (domPresent ({ mesh with fuse := { mesh.fuse with part := 0x08400112, net := 0x2027 } } : State) 17 = true)
      ∧ (domOn ({ mesh with fuse := { mesh.fuse with part := 0x08400112, net := 0x2027 } } : State) 17 = true)
      ∧ (gradeL ({ mesh with fuse := { mesh.fuse with part := 0x08400112, net := 0x2027 } } : State) = true)
      ∧ (1024 ≤ (1024 : Fin 4096).val))
    ∧ ((mesh.start.testHeld = false)
      ∧ (pcieUsed mesh = true)
      ∧ (getB F.netPcieStatus_link_up 0 mesh = true)
      ∧ (domOn mesh 1 = true)
      ∧ (domOn mesh 17 = true)) := by
  refine ⟨?_, ?_, ?_⟩
  all_goals decide +kernel

/-! By hand: states too large to evaluate, or with an opaque number in them; and commands that are taken. -/

/-- Every key of a full cache is another than vault entry 3. -/
def fullCache : State := { mesh with keys := { mesh.keys with cache := List.range' 10 4095 ++ [7] } }
/-- A part whose upstream offers a root with a serial number that is not its own. -/
def peer0 : YowPeer := ⟨88, hello1 (Config.serialNumber + 1)⟩
def time0 : TimeBody := { origin := 6000000000, correction := 20, root := Config.serialNumber + 1 }
def member0 : State := peered (Config.serialNumber + 1) |> cfg 0x0901 0 [BitVec.ofNat 32 (3 + 8 * 2 ^ 24), 1000]

theorem crowded_resident : residentCount (crowded nbr5) = 31801 := by
  unfold residentCount
  have h : (crowded nbr5).nbrs = (5, nbr5) :: others := by simp only [crowded]
  rw [h, others, List.filter_eq_self.mpr]
  · simp
  · intro e he
    simp only [List.mem_cons, List.mem_map] at he
    obtain rfl | ⟨a, _, rfl⟩ := he <;> rfl

theorem meets_TheChairliftMovesBerthsAndPages_3 :
    (isF (crowded nbr5) = true)
    ∧ (domOn (crowded nbr5) 17 = true)
    ∧ ((crowded nbr5).nbrs = ((5 : Nat), nbr5) :: others)
    ∧ (others.all (fun e => e.1 != (5 : Nat) && e.2.b.hostPin && !e.2.writing) = true)
    ∧ (freeBerths (crowded nbr5) < freeReserve (crowded nbr5))
    ∧ (evictable (crowded nbr5) (5 : Nat) nbr5 = true)
    ∧ (nbr5.claim = none) := by
  refine ⟨by decide +kernel, by decide +kernel, by simp only [crowded], ?_, ?_, by decide +kernel, by decide +kernel⟩
  · simp only [others, List.all_eq_true, List.mem_map, List.mem_range'_1]
    rintro e ⟨k, hk, rfl⟩
    have : k ≠ 5 := by omega
    simp [this, nbr5]
  · have : freeReserve (crowded nbr5) = 1024 := by decide +kernel
    rw [freeBerths, crowded_resident, this]; decide

theorem meets_KeysAreCachedLeasedAndSnuffed_3 :
    ((keyOf fullCache (3 : Fin 8192)).isSome = true)
    ∧ (fullCache.keys.cache = (List.range' 10 4095) ++ [(7 : Nat)])
    ∧ ((List.range' 10 4095).length = 4095)
    ∧ ((List.range' 10 4095).contains (7 : Nat) = false)
    ∧ (fullCache.keys.cache.contains (3 : Fin 8192).val = false)
    ∧ (fullCache.recs = [])
    ∧ (fullCache.keys.rootOk = true)
    ∧ (fullCache.keys.debugActive = false)
    ∧ (tamperHold fullCache = false)
    ∧ (domOn fullCache 2 = true) := by
  refine ⟨by decide +kernel, by simp only [fullCache], by simp, by simp [List.mem_range'_1], ?_, by decide +kernel, by decide +kernel,
    by decide +kernel, by decide +kernel, by decide +kernel⟩
  simp only [fullCache]
  simp [List.mem_range'_1] <;> decide

theorem meets_ClustersShareTime_5 :
    (yowPorts member0 = [(0 : Fin 2).val])
    ∧ (serving member0 = true)
    ∧ ((yh 0 4).version = 1)
    ∧ ((yh 0 4).cluster = yowId member0)
    ∧ (yowSecure member0 = false)
    ∧ ((yh 0 4).secured = false)
    ∧ (domOn member0 1 = true)
    ∧ (domOn member0 18 = true)
    ∧ (torchOn member0 = false)
    ∧ (tabGet (yowLink member0 (0 : Fin 2)).seqs (yh 0 4).sender 0 < (yh 0 4).seq)
    ∧ ((yowLink member0 (0 : Fin 2)).peer = some peer0)
    ∧ (peer0.hello.root = time0.root)
    ∧ (time0.root ≠ Config.serialNumber)
    ∧ (yowF member0 1 15 8 < peer0.hello.priority)
    ∧ (time0.correction + (yowLink member0 (0 : Fin 2)).delay ≤ yowBudget member0)
    ∧ ((yowLink member0 (0 : Fin 2)).corr = none)
    ∧ (peer0.hello.acc + (yowLink member0 (0 : Fin 2)).delay ≤ yowBudget member0)
    ∧ (timeSource member0 = 3)
    ∧ (timeState member0 = 0)
    ∧ (member0.time.trigs = [])
    ∧ (member0.slm.epoch = none)
    ∧ (time0.slotLen = 0)
    ∧ (member0.yow.timeRoot = none)
    ∧ (time0.origin + time0.correction + (yowLink member0 (0 : Fin 2)).delay < 2 ^ 64) := by
  repeat' apply And.intro
  all_goals first | exact Nat.succ_ne_self _ | decide +kernel | rfl

/-- The root of a cluster of its own, its last TIME at 5 ns. -/
def root0 : State := { clus 9 with yow := { (clus 9).yow with timeAt := some 5 } }

theorem meets_ClustersShareTime_6 :
    (yowPorts root0 = [(0 : Fin 2).val])
    ∧ (yowState root0 = 3)
    ∧ (yowCan root0 (0 : Fin 2) = true)
    ∧ (yowSecure root0 = false)
    ∧ (root0.yow.timeAt = some (5 : Nat)) := by
  have h : yowElected root0 = some (Config.serialNumber, 9) := by rfl
  have h1 : yowOn root0 = true := by decide +kernel
  have h2 : (yowPorts root0).isEmpty = false := by decide +kernel
  refine ⟨by decide +kernel, ?_, by decide +kernel, by decide +kernel, by decide +kernel⟩
  simp [yowState, h, h1, h2]

/-- A command with an opcode of the table and as few zero words as it admits is taken. -/
def takenOn (op : Nat) (s : State) : Bool := match opRow op with
  | some r => taken op (cmd 2 (List.replicate r.lo 0)) s
  | none => false

theorem meets_StagingCommandsChangeTheStagedCopy :
    [0x0401, 0x0403, 0x0404, 0x0405, 0x0406, 0x0420, 0x0421, 0x0422, 0x0440, 0x0441, 0x0443, 0x0501, 0x0502, 0x0503, 0x0504, 0x0505, 0x0506, 0x0609, 0x06C0, 0x0C01, 0x0C02, 0x0C03, 0x0C04, 0x0C05, 0x0140, 0x0144, 0x0145, 0x0147, 0x0302, 0x0701, 0x0801, 0x0802, 0x0803, 0x0901, 0x0909, 0x0B01, 0x0B02].all (takenOn · up) = true := by decide +kernel

theorem meets_SystemPowerAndRadioReads :
    [0x0101, 0x0103, 0x0104, 0x0122, 0x0126, 0x0306, 0x0407, 0x0423, 0x0426, 0x0442, 0x0446, 0x0301, 0x0402].all (takenOn · up) = true := by decide +kernel

theorem meets_MacScheduleAndForwardingReads :
    [0x06C1, 0x06C2, 0x0517, 0x0512, 0x0C12, 0x0C13, 0x060A].all (takenOn · up) = true := by decide +kernel

theorem meets_SystemAndHostCommands :
    [0x0102, 0x0105, 0x0141, 0x0142, 0x0143, 0x0146, 0x0A01].all (takenOn · up) = true
      ∧ takenOn 0x0106 (cfg 0x0112 0 [8] up) = true := by decide +kernel

theorem meets_ConfigurationAndGateCommands :
    [0x0120, 0x0121, 0x0123, 0x0124, 0x0125, 0x0127, 0x0128].all (takenOn · up) = true := by decide +kernel

theorem meets_UpdateCommands :
    [0x0201, 0x0202, 0x0203, 0x0204, 0x0205, 0x0206].all (takenOn · up) = true := by decide +kernel

theorem meets_PowerCommands :
    [0x0303, 0x0304, 0x0305, 0x0307, 0x0308].all (takenOn · up) = true := by decide +kernel

theorem meets_RadioAndPlanCommands :
    [0x0408, 0x0409, 0x040A, 0x0424, 0x0425, 0x0444, 0x0445].all (takenOn · up) = true := by decide +kernel

theorem meets_ScheduleCommands :
    [0x0510, 0x0511, 0x0513, 0x0514, 0x0515, 0x0516].all (takenOn · up) = true := by decide +kernel

theorem meets_NeighbourCommands :
    [0x0601, 0x0602, 0x0603, 0x0604, 0x0605, 0x0606, 0x0607, 0x0608, 0x0C10, 0x0C11].all (takenOn · up) = true := by decide +kernel

theorem meets_KeyCommands :
    [0x0702, 0x0703, 0x0704, 0x0705, 0x0706, 0x0707, 0x0708].all (takenOn · up) = true := by decide +kernel

theorem meets_ForwardingCommands :
    [0x0810, 0x0811, 0x0812, 0x0813, 0x0820, 0x0821, 0x0822, 0x0823, 0x0830].all (takenOn · up) = true := by decide +kernel

theorem meets_TimeCommands :
    [0x0902, 0x0903, 0x0904, 0x0905, 0x0906, 0x0907, 0x0908, 0x090A].all (takenOn · up) = true := by decide +kernel

theorem meets_LogbookClusterAndTorchCommands :
    [0x0A10, 0x0A11, 0x0A12, 0x0A13, 0x0A14, 0x0A15, 0x0B03, 0x0B04, 0x0B05, 0x0B06].all (takenOn · up) = true := by decide +kernel

theorem meets_FuseWordStaysIssued :
    (∃ t, fuseIssued up.fuse = true ∧ step up = .next t) := ⟨_, by decide +kernel, rfl⟩

theorem meets_EmptyQueueLetsACyclePass :
    up.pending = [] ∧ up.start.resetDue = none
      ∧ (∀ s : State, s = { up with start := { up.start with resetDue := some 9 } } → s.pending = [] ∧ s.start.resetDue = some 9 ∧ s.now + 1 < 9)
      ∧ (∀ s : State, s = { up with now := 8, start := { up.start with resetDue := some 9 } } → s.pending = [] ∧ s.start.resetDue = some 9 ∧ 9 ≤ s.now + 1) := by
  refine ⟨by decide +kernel, by decide +kernel, ?_, ?_⟩ <;> rintro s rfl <;> decide +kernel

theorem meets_OnlyAccessesBeyondBar0Stop :
    beyondBar0 (.sysInfo (cmd 2 [])) = false ∧ beyondBar0 (.rcRegisterRead 0xFFFFFF) = false ∧ beyondBar0 (.rcRegisterRead 0x1000000) = true
      ∧ beyondBar0 (.registerWrite 0x1000000 0 15) = true ∧ beyondBar0 (.latchedPairRead 0x1000000) = true := by decide +kernel

/-- SYS_INFO with one word. -/
theorem meets_TurnedAwayCommandHasNoEffect :
    (Instr.sysInfo (cmd 2 [0])).goruz = some (0x0101, cmd 2 [0]) ∧ laneTakes (cmd 2 [0]) up = true
      ∧ judge 2 0x0101 1 up = some .badLength := by decide +kernel

theorem meets_ResponseIsAppended : (lane up 2).ex = none ∧ (lane up 2).errDue = false := by decide +kernel

/-! Commands that are not well formed, one for each check. -/

theorem illformed_registers :
    (Instr.registerWrite 0x1000000 0 15).wellFormed = false ∧ (Instr.rcRegisterRead 2).wellFormed = false
      ∧ (Instr.latchedPairRead 0x1000000).wellFormed = false := by decide +kernel
theorem illformed_lane_words :
    (Instr.sysInfo (cmd 2 (List.replicate 256 0))).wellFormed = false ∧ (Instr.writeCmd 1 [(0, .ok), (0, .ok)]).wellFormed = false
      ∧ (Instr.readResp 0 [.ok]).wellFormed = false := by decide +kernel
theorem illformed_frames :
    (Instr.phrCheck 0 0 { ok := true, mode := 3, len := 2048 }).wellFormed = false
      ∧ (Instr.mhrParse 0 { sec1 with seq := some 256 }).wellFormed = false
      ∧ (Instr.mhrParse 0 { sec1 with dst := .short 65536 }).wellFormed = false
      ∧ (Instr.packetDescriptor 0 [] { pkt1 with len := 39 } false false).wellFormed = false
      ∧ (Instr.ethFrameReceive 0 { ethf (.ipv6 pkt1) with vid := some 4096 }).wellFormed = false := by decide +kernel
theorem illformed_handles :
    (Instr.berthFetchComplete 131072 env0).wellFormed = false ∧ (Instr.writebackComplete 131072).wellFormed = false
      ∧ (Instr.persistIntervalWrite 131072).wellFormed = false ∧ (Instr.recordPoisoned 131072 false false).wellFormed = false
      ∧ (Instr.wakeupSequenceStart 131072).wellFormed = false ∧ (Instr.rendezvous 131072).wellFormed = false := by decide +kernel
theorem illformed_yowiob :
    (Instr.hello 0 (some ({ yh 0 4 with version := 16 }, hello1 5))).wellFormed = false
      ∧ (Instr.yowiobTime 0 (some (yh 0 4, { origin := 0, correction := 2 ^ 32, root := 5 }))).wellFormed = false
      ∧ (Instr.delayReq 0 (some (yh 0 (2 ^ 32)))).wellFormed = false ∧ (Instr.delayResp 0 (yh 0 4) (2 ^ 64) 0).wellFormed = false
      ∧ (Instr.mirror (some (yh 0 4, { items := [.remove 131072] }))).wellFormed = false
      ∧ (Instr.mirrorAck (yh 0 4) { ack5 with leases := [(8192, 0)] }).wellFormed = false
      ∧ (Instr.lane (some (yh 0 4, { resp := false, credit := 129, ws := [] }))).wellFormed = false
      ∧ (Instr.roundEnd 65536).wellFormed = false := by decide +kernel
theorem illformed_numbers : (Instr.aadcConversion 0 4096).wellFormed = false ∧ (Instr.agerVisit (2 ^ 128) true).wellFormed = false := by decide +kernel

/-! Worked examples of the spec. -/

/-- The capability words of a KPR64-32DL (the worked example of chapter 2, without the die step) are words that Bryndafa issues. -/
theorem test_issued_fuse_words : fuseIssued ⟨0x04200308, 0x0003334D, 0x0000202A⟩ = true := by decide +kernel
/-- The response to SYS_INFO with TAG 0x5C begins with 0x5C0F0000 (the worked example of chapter 5). -/
theorem test_sys_info_word0 :
    after (.sysInfo { lane := 2, tag := 0x5C, words := [] }) up (fun t => (lane t 2).resp.head? == some 0x5C0F0000) = true := by decide +kernel
/-- cap = min(14, 27 − 16) − 3 = +8 dBm at the ball (the example of R154), in units of 0.05 dB. -/
theorem test_power_cap :
    powerCap (air |> cfg 0x0401 1 [1, 915900, BitVec.ofNat 32 (64 + 108 * 256 + 2 ^ 24), 1] |> cfg 0x0421 3 [BitVec.ofNat 32 (3 + 16 + 256)]) 1 = 160 := by
  decide +kernel
/-- A map of 306 data bits a symbol carries 1,200 octets in 5,520 µs, MR-OFDM MCS3 in 13,200 µs (the worked example of chapter 8). -/
theorem test_gt_airtime :
    let g (c n : Nat) : List Nat := List.replicate (8 * n) c
    let codes := g 4 3 ++ g 3 2 ++ g 2 1 ++ g 1 1 ++ g 2 1 ++ g 3 2 ++ g 4 2
    mapDbps codes 1 = 306 ∧ mapDbps (g 4 4 ++ g 3 2 ++ g 2 2 ++ g 3 1 ++ g 4 3) 0 = 232
      ∧ airtimeNs up 0x70 1200 (some (mkMap 1 0 1 codes)) = 5520000 ∧ airtimeNs up 0x43 1200 none = 13200000 := by decide +kernel

/-! Steps. -/

/-- A step takes the command at the front; behind it the queue is as it was. -/
theorem test_step_takes_the_front :
    (match step { up with pending := [.sysInfo (cmd 2 []), .laneMark 2] } with
      | .next t => t.pending == [.laneMark 2]
      | _ => false) = true := by decide +kernel
/-- An access beyond BAR0 faults; no word is a command by the table's bits. -/
theorem test_stops : (match exec (.rcRegisterRead 0x1000000) up with
      | .fault .outsideBar0 => true
      | _ => false) = true ∧ decodeTableWord 32 0x5C000101 = none ∧ (State.reset.withFetchWord 32 0x5C000101).pending = [] := by decide +kernel


end Sys2Proof.Tests
end

section
/-! PROOFS. The mark of a response FTQ (R119): what mark, rewind, release and a read do to a lane, and what a write of KEEP_GZ_CTRL makes
of its bits together. -/

namespace Sys2Proof.Machine
open Sys2Proof Sys2Proof.Claims

/-! A meaning that has run, where the queue and the fuse word have no part in what is asked. -/

@[simp] theorem lane_atQueue (s t : State) (n : Nat) : lane (atQueue s t) n = lane t n := rfl
@[simp] theorem getF_atQueue (s t : State) (f : Field) (i : Nat) : getF f i (atQueue s t) = getF f i t := rfl

theorem leads_of_done {i : Instr} {s t : State} {p : State → Prop} (h : exec i s = done s t) (hp : p (atQueue s t)) : Leads i s p :=
  ⟨atQueue s t, h, hp⟩

/-! Registers that stay. -/

theorem regsButFor_of_regs {ks : List Nat} {s t : State} (h : t.regs = s.regs) : RegsButFor ks s t :=
  fun f i _ => getF_congr h f i

theorem regsButFor_trans {ks : List Nat} {s t u : State} (h : RegsButFor ks s t) (h' : RegsButFor ks t u) : RegsButFor ks s u :=
  fun f i hk => (h' f i hk).trans (h f i hk)

theorem regsButFor_setF (f : Field) (i v : Nat) (s : State) : RegsButFor [f.key i] s (setF f i v s) :=
  fun _ _ hk => getF_setF_ne (by simpa using hk) v s

theorem regsButFor_ite {ks : List Nat} {c : Prop} [Decidable c] {s t u : State} (ht : RegsButFor ks s t) (hu : RegsButFor ks s u) :
    RegsButFor ks s (if c then t else u) := by
  split
  · exact ht
  · exact hu

/-! A lane is replaced, and signalled where its resp_fill rises from 0 (R130). -/

/-- What laneRewind and laneRelease do with a mark (laneRewind_marked, laneRelease_marked). -/
def refill (n : Nat) (l : Lane) (s : State) : State :=
  if respFill (lane s n) == 0 && respFill l != 0 then laneSignal n (setLane n l s) else setLane n l s

@[simp] theorem lane_refill_same (n : Nat) (l : Lane) (s : State) : lane (refill n l s) n = l := by
  unfold refill
  split <;> simp

theorem lane_refill_ne {m n : Nat} (h : m ≠ n) (l : Lane) (s : State) : lane (refill n l s) m = lane s m := by
  unfold refill
  split <;> simp [lane_setLane_ne h]

@[simp] theorem refill_regs (n : Nat) (l : Lane) (s : State) : (refill n l s).regs = s.regs := by
  unfold refill
  split <;> simp

/-! Rewind, release and mark, with a mark and without one. -/

theorem laneRewind_marked {n : Nat} {s : State} (h : (lane s n).mark = true) :
    laneRewind n s = refill n { lane s n with resp := (lane s n).held ++ (lane s n).resp, held := [] } s := by
  simp [laneRewind, refill, h]

theorem laneRelease_marked {n : Nat} {s : State} (h : (lane s n).mark = true) :
    laneRelease n s = refill n { lane s n with held := [], mark := false } s := by
  simp [laneRelease, refill, h]

theorem laneRewind_unmarked {n : Nat} {s : State} (h : (lane s n).mark = false) :
    laneRewind n s = setF F.keepGzCtrl_seq_err n 1 s := by
  simp [laneRewind, h]

theorem laneRelease_unmarked {n : Nat} {s : State} (h : (lane s n).mark = false) :
    laneRelease n s = setF F.keepGzCtrl_seq_err n 1 s := by
  simp [laneRelease, h]

/-! The lane. -/

theorem lane_laneRewind (n : Nat) (s : State) : lane (laneRewind n s) n =
    if (lane s n).mark then { lane s n with resp := (lane s n).held ++ (lane s n).resp, held := [] } else lane s n := by
  cases h : (lane s n).mark
  · simp [laneRewind_unmarked h]
  · simp [laneRewind_marked h]

theorem lane_laneRelease (n : Nat) (s : State) : lane (laneRelease n s) n =
    if (lane s n).mark then { lane s n with held := [], mark := false } else lane s n := by
  cases h : (lane s n).mark
  · simp [laneRelease_unmarked h]
  · simp [laneRelease_marked h]

theorem lane_laneMark (n : Nat) (s : State) : lane (laneMark n s) n =
    { lane s n with mark := true, held := if (lane s n).mark then [] else (lane s n).held } := by
  cases h : (lane s n).mark
  · simp [laneMark, h]
  · simp [laneMark, h, lane_laneRelease]

/-! The other lanes. -/

theorem lane_laneRewind_ne {m n : Nat} (h : m ≠ n) (s : State) : lane (laneRewind n s) m = lane s m := by
  cases hm : (lane s n).mark
  · simp [laneRewind_unmarked hm]
  · simp [laneRewind_marked hm, lane_refill_ne h]

theorem lane_laneRelease_ne {m n : Nat} (h : m ≠ n) (s : State) : lane (laneRelease n s) m = lane s m := by
  cases hm : (lane s n).mark
  · simp [laneRelease_unmarked hm]
  · simp [laneRelease_marked hm, lane_refill_ne h]

theorem lane_laneMark_ne {m n : Nat} (h : m ≠ n) (s : State) : lane (laneMark n s) m = lane s m := by
  cases hm : (lane s n).mark
  · simp [laneMark, hm, lane_setLane_ne h]
  · simp [laneMark, hm, lane_setLane_ne h, lane_laneRelease_ne h]

/-! The registers: seq_err of the lane alone, and only without a mark. -/

theorem seqErr_laneRewind (n : Nat) (s : State) : getF F.keepGzCtrl_seq_err n (laneRewind n s) =
    if (lane s n).mark then getF F.keepGzCtrl_seq_err n s else 1 := by
  cases h : (lane s n).mark
  · simp [laneRewind_unmarked h, F.keepGzCtrl_seq_err]
  · simp [laneRewind_marked h, getF_congr (refill_regs ..)]

theorem seqErr_laneRelease (n : Nat) (s : State) : getF F.keepGzCtrl_seq_err n (laneRelease n s) =
    if (lane s n).mark then getF F.keepGzCtrl_seq_err n s else 1 := by
  cases h : (lane s n).mark
  · simp [laneRelease_unmarked h, F.keepGzCtrl_seq_err]
  · simp [laneRelease_marked h, getF_congr (refill_regs ..)]

@[simp] theorem laneMark_regs (n : Nat) (s : State) : (laneMark n s).regs = s.regs := by
  cases h : (lane s n).mark
  · simp [laneMark, h]
  · simp [laneMark, h, laneRelease_marked h]

theorem regsButFor_laneRewind (n : Nat) (s : State) : RegsButFor [F.keepGzCtrl_seq_err.key n] s (laneRewind n s) := by
  cases h : (lane s n).mark
  · rw [laneRewind_unmarked h]
    exact regsButFor_setF _ _ _ _
  · rw [laneRewind_marked h]
    exact regsButFor_of_regs (refill_regs ..)

theorem regsButFor_laneRelease (n : Nat) (s : State) : RegsButFor [F.keepGzCtrl_seq_err.key n] s (laneRelease n s) := by
  cases h : (lane s n).mark
  · rw [laneRelease_unmarked h]
    exact regsButFor_setF _ _ _ _
  · rw [laneRelease_marked h]
    exact regsButFor_of_regs (refill_regs ..)

/-! The commands LANE_MARK, LANE_REWIND and LANE_RELEASE. -/

/-- A write of a control bit through the transport of a lane that is reached, with KEEP_CPU on. -/
theorem laneControl_on {n : Fin 4} {s : State} (hu : laneUsable s n = true) (hd : domOn s 1 = true) (f : Nat → State → State) :
    laneControl n f s = done s (f n s) := by
  simp [laneControl, hu, wake_on hd]

theorem exec_laneMark {n : Fin 4} {s : State} (hu : laneUsable s n = true) (hd : domOn s 1 = true) :
    exec (.laneMark n) s = done s (laneMark n s) := laneControl_on hu hd laneMark
theorem exec_laneRewind {n : Fin 4} {s : State} (hu : laneUsable s n = true) (hd : domOn s 1 = true) :
    exec (.laneRewind n) s = done s (laneRewind n s) := laneControl_on hu hd laneRewind
theorem exec_laneRelease {n : Fin 4} {s : State} (hu : laneUsable s n = true) (hd : domOn s 1 = true) :
    exec (.laneRelease n) s = done s (laneRelease n s) := laneControl_on hu hd laneRelease

/-! Several bits in one write. -/

/-- Without the bits that clear seq_err and resync, a write of KEEP_GZ_CTRL is rewind, then release, then mark. -/
theorem laneCtrlWrite_markBits {w : Word} (h3 : w.getLsbD 3 = false) (h9 : w.getLsbD 9 = false) (n : Nat) (s : State) :
    laneCtrlWrite n w s =
      let a := if w.getLsbD 1 then laneRewind n s else s
      let b := if w.getLsbD 2 then laneRelease n a else a
      if w.getLsbD 0 then laneMark n b else b := by
  simp only [laneCtrlWrite, h3, h9, Bool.false_eq_true, if_false]

section
variable {w : Word} (h3 : w.getLsbD 3 = false) (h9 : w.getLsbD 9 = false) (n : Nat) (s : State)
include h3 h9

theorem lane_laneCtrlWrite : lane (laneCtrlWrite n w s) n = markBits w (lane s n) := by
  simp only [laneCtrlWrite_markBits h3 h9, markBits, apply_ite (lane · n), lane_laneMark, lane_laneRelease, lane_laneRewind,
    Bool.and_eq_true, ite_and]

theorem lane_laneCtrlWrite_ne {m : Nat} (h : m ≠ n) : lane (laneCtrlWrite n w s) m = lane s m := by
  simp only [laneCtrlWrite_markBits h3 h9, apply_ite (lane · m), lane_laneMark_ne h, lane_laneRelease_ne h, lane_laneRewind_ne h,
    ite_self]

/-- A rewind keeps the mark, so that a release in the same write meets the mark that the rewind met. -/
theorem seqErr_laneCtrlWrite : getF F.keepGzCtrl_seq_err n (laneCtrlWrite n w s) =
    if (w.getLsbD 1 || w.getLsbD 2) && !(lane s n).mark then 1 else getF F.keepGzCtrl_seq_err n s := by
  simp only [laneCtrlWrite_markBits h3 h9, apply_ite (getF F.keepGzCtrl_seq_err n), getF_congr (laneMark_regs ..), ite_self,
    seqErr_laneRelease, seqErr_laneRewind, apply_ite (lane · n), lane_laneRewind, apply_ite Lane.mark]
  cases (lane s n).mark
  · cases w.getLsbD 1 <;> cases w.getLsbD 2 <;> rfl
  · simp

theorem regsButFor_laneCtrlWrite : RegsButFor [F.keepGzCtrl_seq_err.key n] s (laneCtrlWrite n w s) := by
  rw [laneCtrlWrite_markBits h3 h9]
  have hs : RegsButFor [F.keepGzCtrl_seq_err.key n] s s := regsButFor_of_regs rfl
  have ha := regsButFor_ite (c := w.getLsbD 1 = true) (regsButFor_laneRewind n s) hs
  have hb := regsButFor_ite (c := w.getLsbD 2 = true) (regsButFor_trans ha (regsButFor_laneRelease n _)) ha
  exact regsButFor_ite (regsButFor_trans hb (regsButFor_of_regs (laneMark_regs ..))) hb

end

/-- KEEP_GZ_CTRL of a lane is reached over PCIe (R543). -/
theorem hostAccess_keep {a : Nat} {s : State} (ht : s.start.testHeld = false) (hp : pcieUsed s = true)
    (hl : getB F.netPcieStatus_link_up 0 s = true) (hd : domOn s 1 = true) (h0 : 0x20 ≤ a) (h1 : a < 0x400000) :
    hostAccess a s = (s, true) := by
  have ha : domOfAddr a = 1 := by rw [domOfAddr_keep h1, if_neg (by omega)]
  have hk : keepUp s = true := by
    simp only [domOn, beq_iff_eq] at hd
    simp [keepUp, hd]
  have hq : domPresent s 1 = true := rfl
  simp [hostAccess, ha, ht, hp, hl, hk, hq, hd, show ¬ a < 0x20 by omega]

theorem writeReg_gzCtrl (n : Fin 4) {s : State} (h : lanePresent s n = true) (w : Word) :
    writeReg (0x2004 + 0x20 * n.val) w s = laneCtrlWrite n w s := by
  have hn := n.isLt
  have hd : domPresent s (domOfAddr (0x2004 + 0x20 * n.val)) = true := by
    rw [domOfAddr_keep (by omega), if_neg (by omega)]
    rfl
  have hi : (0x2004 + 0x20 * n.val - 0x2000) / 0x20 = n.val := by omega
  have hr : 0x2000 ≤ 0x2004 + 0x20 * n.val ∧ 0x2004 + 0x20 * n.val < 0x2080 := by omega
  have hm : (0x2004 + 0x20 * n.val) % 0x20 = 4 := by omega
  simp only [writeReg, hd, hi, hm, h, hr.1, hr.2, Bool.not_true, Bool.false_eq_true, decide_true, Bool.and_self, if_true, if_false]

theorem exec_registerWrite_gzCtrl {n : Fin 4} {w : Word} {s : State} (ht : s.start.testHeld = false) (hp : pcieUsed s = true)
    (hl : getB F.netPcieStatus_link_up 0 s = true) (hd : domOn s 1 = true) (hn : lanePresent s n = true) :
    exec (.registerWrite (0x2004 + 0x20 * n.val) w 15) s = done s (laneCtrlWrite n w s) := by
  have h4 := n.isLt
  have he : exec (.registerWrite (0x2004 + 0x20 * n.val) w 15) s = execRegisterWrite (0x2004 + 0x20 * n.val) w 15 s := rfl
  rw [he, execRegisterWrite, if_neg (by omega), if_neg (by simp; omega), hostAccess_keep ht hp hl hd (by omega) (by omega)]
  exact congrArg (done s) (writeReg_gzCtrl n hn w)

/-! A read. -/

theorem laneServed_serving {n : Nat} {s : State} (h : laneServed n s = true) : serving s = true := by
  simp only [laneServed, Bool.and_eq_true] at h
  exact h.1.1.1.1

theorem laneServed_not_failed {n : Nat} {s : State} (h : laneServed n s = true) : laneFailed s n = false := by
  simp only [laneServed, Bool.and_eq_true, Bool.not_eq_true'] at h
  exact h.1.1.2

/-- An unread word with a stage leaves; with the mark it is held. -/
theorem popWord_ok {n : Nat} {w : Word} {ws : List Word} {s : State} (hr : (lane s n).resp = w :: ws) (hh : (lane s n).held.length < 128) :
    popWord n .ok s = some (put (.laneWord n w) (setLane n
      { lane s n with resp := ws, held := (lane s n).held ++ (if (lane s n).mark then [w] else []) } s)) := by
  have hf : respFill (lane s n) ≠ 0 := by
    simp only [respFill, hr, List.length_cons]
    omega
  cases hm : (lane s n).mark <;> simp [popWord, hf, hr, hm]

/-- One word is read through PCIe or SPI from a lane that is served. -/
theorem exec_laneResponsePop {n : Fin 4} {e : Ecc} {s t : State} (h3 : n.val ≠ 3) (hu : laneUsable s n = true)
    (hs : laneServed n s = true) (hd : domOn s 1 = true) (hp : popWord n e s = some t) :
    exec (.laneResponsePop n [e]) s = done s t := by
  have he : exec (.laneResponsePop n [e]) s = execLaneResponsePop n [e] s := rfl
  have hf := laneServed_not_failed hs
  rw [he, execLaneResponsePop, if_neg (by simp [hu, h3]), wake_on hd]
  by_cases h2 : n.val = 2
  · rw [h2] at hp hf
    simp [h2, laneServed_serving hs, popSpi, hf, hp]
  · simp [h2, popPcie, hf, hs, hp]

theorem toNat_wordOf (l : List (Nat × Nat)) : (wordOf l).toNat = l.foldl (fun a f => a + f.1 * 2 ^ f.2) 0 % 2 ^ 32 := by
  rw [wordOf, BitVec.toNat_ofNat]

/-- Fields from bit `b` up add a multiple of `2 ^ b`. -/
theorem foldl_fields_above {b : Nat} {l : List (Nat × Nat)} (h : ∀ f ∈ l, b ≤ f.2) (x : Nat) :
    ∃ k, l.foldl (fun a f => a + f.1 * 2 ^ f.2) x = x + k * 2 ^ b := by
  induction l generalizing x with
  | nil => exact ⟨0, by simp⟩
  | cons f l ih =>
    obtain ⟨k, hk⟩ := ih (fun g hg => h g (by simp [hg])) (x + f.1 * 2 ^ f.2)
    refine ⟨f.1 * 2 ^ (f.2 - b) + k, ?_⟩
    rw [List.foldl_cons, hk, Nat.add_mul, Nat.mul_assoc, ← Nat.pow_add, Nat.sub_add_cancel (h f (by simp)), Nat.add_assoc]

/-- The third octet of a word whose first three fields are octets. -/
theorem fieldOf_third_octet {x y z : Nat} {l : List (Nat × Nat)} (hx : x < 256) (hy : y < 256) (hz : z < 256) (hl : ∀ f ∈ l, 24 ≤ f.2) :
    fieldOf (wordOf ((x, 0) :: (y, 8) :: (z, 16) :: l)) 23 16 = z := by
  obtain ⟨k, hk⟩ := foldl_fields_above hl (0 + x * 2 ^ 0 + y * 2 ^ 8 + z * 2 ^ 16)
  rw [fieldOf, toNat_wordOf, List.foldl_cons, List.foldl_cons, List.foldl_cons, hk, bitsOf]
  omega

/-- Held words and those that a reader can take share the stages of the FTQ (R110, R119). -/
theorem respFill_add_held_le {l : Lane} (h : l.held.length ≤ 128) : respFill l + l.held.length ≤ 128 := by
  simp only [respFill]
  omega

/-- resp_held counts the held words (R119, R134). -/
theorem laneStatW_respHeld {n : Nat} {s : State} (h : (lane s n).held.length ≤ 128) :
    fieldOf (laneStatW s n) 23 16 = (lane s n).held.length := by
  have hf := respFill_add_held_le h
  exact fieldOf_third_octet (by omega) (by omega) (by omega) (by simp)

/-- Settles O51: each command is one of the operations above, and the lemmas on their lanes and registers give the clauses. -/
theorem heldWordsFollowTheMark : Obligations.HeldWordsFollowTheMark := by
  refine ⟨?pop, ?mark, ?marked, ?unmarked, ?write⟩
  case pop =>
    intro n w ws s h3 hu hs hd hr hh
    refine leads_of_done (exec_laneResponsePop h3 hu hs hd (popWord_ok hr hh)) ?_
    have hl : ((lane s n).held ++ if (lane s n).mark then [w] else []).length ≤ 128 := by
      rw [List.length_append]
      split <;> simp <;> omega
    exact ⟨by simp, laneStatW_respHeld (by simpa using hl), respFill_add_held_le (by simpa using hl), rfl, rfl⟩
  case mark =>
    intro n s hu hd
    exact leads_of_done (exec_laneMark hu hd) (lane_laneMark n s)
  case marked =>
    intro n s hu hd hm
    exact ⟨leads_of_done (exec_laneRewind hu hd) (by simp [lane_laneRewind, hm]),
      leads_of_done (exec_laneRelease hu hd) (by simp [lane_laneRelease, hm])⟩
  case unmarked =>
    intro n s hu hd hm
    refine ⟨leads_of_done (exec_laneRewind hu hd) ⟨?_, regsButFor_laneRewind n s, ?_⟩,
      leads_of_done (exec_laneRelease hu hd) ⟨?_, regsButFor_laneRelease n s, ?_⟩⟩
    · simp [seqErr_laneRewind, hm]
    · rw [laneRewind_unmarked hm]
      rfl
    · simp [seqErr_laneRelease, hm]
    · rw [laneRelease_unmarked hm]
      rfl
  case write =>
    intro n w s ht hp hl hd hn h3 h9
    exact leads_of_done (exec_registerWrite_gzCtrl ht hp hl hd hn) ⟨lane_laneCtrlWrite h3 h9 n s, seqErr_laneCtrlWrite h3 h9 n s,
      regsButFor_laneCtrlWrite h3 h9 n s, fun m hm => lane_laneCtrlWrite_ne h3 h9 n s (by omega)⟩

end Sys2Proof.Machine
end

section
/-! PROOFS. The pending bitmap (R556): what an access over PCIe meets whose domain is on, the word of LINK_STORE_PEND as a sum of its
bits, and that no field lies in the bitmap, so that neither a read nor a write changes anything. -/

namespace Sys2Proof.Machine
open Sys2Proof Sys2Proof.Claims

/-! An access whose domain is on. -/

theorem keepUp_of_domOn {s : State} (h : domOn s 1 = true) : keepUp s = true := by
  simp only [domOn, beq_iff_eq] at h
  simp [keepUp, h]

/-- A domain that the variant has not is off, and so not on. -/
theorem domPresent_of_domOn {d : Nat} {s : State} (h0 : d ≠ 0) (h : domOn s d = true) : domPresent s d = true := by
  by_contra hp
  simp [domOn, domState, h0, hp] at h

/-- Over PCIe an access is served at once where KEEP_CPU and the domain of the address are on. -/
theorem hostAccess_on {a : Nat} {s : State} (ht : s.start.testHeld = false) (hp : pcieUsed s = true)
    (hl : getB F.netPcieStatus_link_up 0 s = true) (h1 : domOn s 1 = true) (h0 : domOfAddr a ≠ 0) (hd : domOn s (domOfAddr a) = true) :
    hostAccess a s = (s, true) := by
  simp [hostAccess, ht, hp, hl, keepUp_of_domOn h1, domPresent_of_domOn h0 hd, hd]

/-! A mask of chosen bits. -/

theorem bitOf_of_lt {x i : Nat} (h : x < 2 ^ i) : bitOf x i = false := by
  simp [bitOf, Nat.div_eq_of_lt h]

theorem sum_pow_two_lt (p : Nat → Bool) (n : Nat) : ((List.range n).map (fun j => if p j then 2 ^ j else 0)).sum < 2 ^ n := by
  induction n with
  | zero => simp
  | succ n ih =>
    simp only [List.range_succ, List.map_append, List.sum_append, List.map_cons, List.map_nil, List.sum_singleton, Nat.pow_succ]
    split <;> omega

/-- The mask of the chosen numbers below n is the sum of their powers of 2: each bit is new when it is set. -/
theorem maskOf_filter_range (p : Nat → Bool) (n : Nat) :
    maskOf ((List.range n).filter p) = ((List.range n).map (fun j => if p j then 2 ^ j else 0)).sum := by
  induction n with
  | zero => rfl
  | succ n ih =>
    rw [maskOf] at ih
    rw [maskOf, List.range_succ, List.filter_append, List.foldl_append, ih, List.map_append, List.sum_append]
    cases hp : p n <;> simp [hp, bitOf_of_lt (sum_pow_two_lt p n)]

/-! The word of LINK_STORE_PEND. -/

theorem toNat_storePendW {i : Nat} {s : State} (h : gradeL s = true → i < 1024) : (storePendW s i).toNat =
    ((List.range 32).map (fun j => if pendBit s (32 * i + j) then 2 ^ j else 0)).sum := by
  have hi : ¬ (gradeL s && decide (1024 ≤ i)) = true := by simpa using h
  have hb := sum_pow_two_lt (fun j => pendBit s (32 * i + j)) 32
  rw [storePendW, if_neg hi, maskOf_filter_range, w32, BitVec.toNat_ofNat, Nat.mod_eq_of_lt hb]

/-- The L variants hold no handle from 32 × 1,024 on. -/
theorem storePendW_beyond {i : Nat} {s : State} (hg : gradeL s = true) (h : 1024 ≤ i) : storePendW s i = 0 := by
  simp [storePendW, hg, h]

/-! No field lies in the bitmap. -/

/-- The members of a field lie from its base on, below the base and its count of strides. -/
theorem member_eq_none {f : Field} {a : Nat} (h : f.base + f.stride * f.count < a ∨ a < f.base) : f.member a = none := by
  unfold Field.member
  split
  · rfl
  · have hb : f.base + f.stride * f.count < a := by omega
    split
    · exact if_neg (by omega)
    · have hc : ¬ (a - f.base) / f.stride < f.count := by
        rw [Nat.div_lt_iff_lt_mul (by omega), Nat.mul_comm]
        omega
      simp [hc]

theorem fieldTable_avoids_bitmap : ∀ f ∈ fieldTable, f.base + f.stride * f.count < 0x410000 ∨ 0x414000 ≤ f.base := by
  decide +kernel

section
variable {a : Nat} (h0 : 0x410000 ≤ a) (h1 : a < 0x414000)
include h0 h1

theorem domOfAddr_bitmap : domOfAddr a = 17 := by
  unfold domOfAddr
  repeat rw [if_neg (by omega)]
  rw [if_pos (by omega)]

theorem fieldsAt_bitmap : fieldsAt a = [] := by
  refine List.filterMap_eq_nil_iff.mpr fun f hf => ?_
  have hm : f.member a = none := member_eq_none ((fieldTable_avoids_bitmap f hf).imp (by omega) (by omega))
  rw [hm, Option.map_none]

/-- The address is not that of a register elsewhere. -/
theorem bitmap_ne {k : Nat} (h : k < 0x410000 ∨ 0x414000 ≤ k) : (a = k) = False := eq_false (by omega)

/-- The address is in no block elsewhere. -/
theorem bitmap_outside {lo hi : Nat} (h : hi ≤ 0x410000 ∨ 0x414000 ≤ lo) : (decide (lo ≤ a) && decide (a < hi)) = false := by
  rw [Bool.and_eq_false_iff, decide_eq_false_iff_not, decide_eq_false_iff_not]
  omega

theorem viewLink_bitmap (s : State) : viewLink s a = some (storePendW s ((a - 0x410000) / 4)) := by
  simp (disch := decide) only [viewLink, bitmap_ne h0 h1, bitmap_outside h0 h1, h0, h1, decide_true, Bool.and_self, Bool.false_eq_true,
    if_true, if_false]

theorem regWord_bitmap {s : State} (hp : domPresent s 17 = true) : regWord s a = storePendW s ((a - 0x410000) / 4) := by
  rw [regWord, domOfAddr_bitmap h0 h1, hp, if_neg (by decide), if_neg (by omega), if_pos (by omega), viewLink_bitmap h0 h1,
    Option.getD_some]

theorem latchOf_bitmap (s : State) : latchOf s a = none := by
  simp (disch := decide) only [latchOf, bitmap_ne h0 h1, bitmap_outside h0 h1, Bool.false_and, Bool.false_eq_true, if_false]

theorem clearRc_bitmap (s : State) : clearRc a s = s := by
  rw [clearRc, fieldsAt_bitmap h0 h1, List.foldl_nil]

theorem writeFields_bitmap (w : Word) (s : State) : writeFields a w s = s := by
  rw [writeFields, fieldsAt_bitmap h0 h1, List.foldl_nil]

/-- A read of the bitmap has no effects (R556). -/
theorem readReg_bitmap {s : State} (hp : domPresent s 17 = true) : readReg a s = (storePendW s ((a - 0x410000) / 4), s) := by
  simp (disch := decide) only [readReg, bitmap_ne h0 h1, bitmap_outside h0 h1, Bool.false_and, Bool.false_eq_true, if_false,
    latchOf_bitmap h0 h1, regWord_bitmap h0 h1 hp, clearRc_bitmap h0 h1]

/-- The bitmap is read-only (R556). -/
theorem writeReg_bitmap (w : Word) (s : State) : writeReg a w s = s := by
  simp (disch := decide) only [writeReg, bitmap_ne h0 h1, bitmap_outside h0 h1, Bool.false_and, Bool.false_eq_true, if_false,
    writeFields_bitmap h0 h1, ite_self]

end

/-! Accesses to LINK_STORE_PEND[i] over PCIe, with KEEP_CPU and the domain of the bitmap on. -/

section
variable {i : Fin 4096} {s : State} (ht : s.start.testHeld = false) (hp : pcieUsed s = true)
  (hl : getB F.netPcieStatus_link_up 0 s = true) (h1 : domOn s 1 = true) (hd : domOn s 17 = true)
include ht hp hl h1 hd

theorem hostAccess_pend : hostAccess (0x410000 + 4 * i.val) s = (s, true) := by
  have ha : domOfAddr (0x410000 + 4 * i.val) = 17 := domOfAddr_bitmap (by omega) (by omega)
  exact hostAccess_on ht hp hl h1 (by rw [ha]; decide) (by rw [ha]; exact hd)

theorem exec_rcRegisterRead_pend : exec (.rcRegisterRead (0x410000 + 4 * i.val)) s =
    done s (put (.readData (0x410000 + 4 * i.val) (storePendW s i).toNat) s) := by
  have he : exec (.rcRegisterRead (0x410000 + 4 * i.val)) s = execRcRegisterRead (0x410000 + 4 * i.val) s := rfl
  have ha : (0x410000 + 4 * i.val) / 4 * 4 = 0x410000 + 4 * i.val := by omega
  have hi : (0x410000 + 4 * i.val - 0x410000) / 4 = i.val := by omega
  rw [he, execRcRegisterRead, if_neg (by omega), ha, hostRead, hostAccess_pend ht hp hl h1 hd]
  simp only [readReg_bitmap (a := 0x410000 + 4 * i.val) (by omega) (by omega) (domPresent_of_domOn (by decide) hd), hi]

theorem exec_registerWrite_pend (w : Word) : exec (.registerWrite (0x410000 + 4 * i.val) w 15) s = done s s := by
  have he : exec (.registerWrite (0x410000 + 4 * i.val) w 15) s = execRegisterWrite (0x410000 + 4 * i.val) w 15 s := rfl
  rw [he, execRegisterWrite, if_neg (by omega), if_neg (by simp), hostAccess_pend ht hp hl h1 hd]
  exact congrArg (done s) (writeReg_bitmap (by omega) (by omega) w s)

end

/-- Settles O60: a read puts out the word of the bitmap and leaves the rest, a write leaves everything. -/
theorem thePendingBitmapIsRead : Obligations.ThePendingBitmapIsRead := by
  refine ⟨?read, ?beyond, ?write⟩
  case read =>
    intro i s ht hp hl h1 _ hd hg
    refine leads_of_done (exec_rcRegisterRead_pend ht hp hl h1 hd) ?_
    rw [toNat_storePendW (by simp [hg])]
    rfl
  case beyond =>
    intro i s ht hp hl h1 _ hd hg hi
    refine leads_of_done (exec_rcRegisterRead_pend ht hp hl h1 hd) ?_
    rw [storePendW_beyond hg hi]
    rfl
  case write =>
    intro i w s ht hp hl h1 hd
    exact leads_of_done (exec_registerWrite_pend ht hp hl h1 hd w) rfl

end Sys2Proof.Machine
end
